-- ==== Sys2Proof/Word.lean ====
section
/-! DEFINITION. The words of the wire formats and their little-endian byte forms. -/

namespace Sys2Proof

/-- One character's data bits (R175), one byte of a telegram (R176). -/
abbrev Byte := BitVec 8

/-- A two-byte field of a telegram. -/
abbrev Half := BitVec 16

/-- A four-byte field of a telegram; the std epoch (R10). -/
abbrev Word := BitVec 32

end Sys2Proof
end

