-- ==== Sys2Proof/Syntax.lean ====
section
/-! DEFINITION. The commands of the part: one constructor for each row of spec/opcode_table.json.
The table gives no fields; the operands are what each event brings with it (log 2, 20). -/

namespace Sys2Proof

/-- Four like things have these numbers: the stations S0..S3 and the recipe slots 0..3. -/
inductive Ix4 where
  | n0
  | n1
  | n2
  | n3
  deriving DecidableEq, Repr

/-- A station S0..S3 (00, The Part in Its Setting). -/
abbrev Station := Ix4

/-- A recipe slot 0..3 (R163). -/
abbrev SlotNo := Ix4

/-- The sheet-break detectors (R118). -/
inductive Detector where
  | wet
  | press
  | dry
  | reel
  deriving DecidableEq, Repr

/-- The overtravel switches (R28). -/
inductive OtSwitch where
  | a
  | b
  deriving DecidableEq, Repr

/-- The direction of one quadrature count: toward the B end raises the position (R24). -/
inductive CountDir where
  | towardB
  | towardA
  deriving DecidableEq, Repr

/-- A character on a station link or on the head link: its mark bit, whether its stop bit was missing, its
data (R175). A character that the part sends has its stop bit. -/
structure Character where
  mark : Bool
  framingError : Bool
  data : Byte
  deriving DecidableEq, Repr

/-- What a station link's receiver sees of a character: its start bit, while the rest is still to come, or the
whole of it, with its start bit, taken at its stop bit (R175, R178, log 20). -/
inductive LineEvent where
  | startBit
  | character (c : Character)
  deriving DecidableEq, Repr

/-- The ten bytes of a head sample telegram, by the layout of 12.6 (R197). -/
structure SampleTelegram where
  seq : Byte
  flags : Byte
  bwRaw : Half
  waterRaw : Half
  gapRaw : Half
  check : Half
  deriving DecidableEq, Repr

/-- What declares a slot: an arrival or the missing-slot timer (R2). -/
inductive SlotDecl where
  | arrival (t : SampleTelegram)
  | missing
  deriving DecidableEq, Repr

/-- The commands. A station request carries its station, its tag and its payload bytes. -/
inductive Instr where
  | deviceReset
  | sampleTelegramArrival (t : SampleTelegram)
  | missingSlot
  | windowEnd (d : SlotDecl)
  | headCommandSent
  | stdSlotLimit (d : SlotDecl)
  | tileTimerExpiry
  | withdrawTimerExpiry
  | encoderCount (dir : CountDir)
  | indexPulse
  | drvRdyLow
  | drvRdyHigh
  | encoderLossTimerExpiry
  | overtravel (sw : OtSwitch) (asserted : Bool)
  | homingTimerExpiry
  | pointPeriodEnd (d : SlotDecl)
  | waitTimerExpiry (st : Station)
  | tachPulse
  | speedGateEnd
  | lossTimerExpiry
  | detectorLevelChange (det : Detector) (high : Bool)
  | debounceExpiry (det : Detector)
  | absentWindowEnd (t : SampleTelegram)
  | threadingTimerExpiry
  | gapTimerExpiry (st : Station)
  | telegramDropped (st : Station)
  | presenceTimerExpiry (st : Station)
  | lastCharacterSent (st : Station)
  | unknownKind (st : Station) (kind : Byte) (tag : Byte) (payload : List Byte)
  | status (st : Station) (tag : Byte) (payload : List Byte)
  | readScan (st : Station) (tag : Byte) (payload : List Byte)
  | readTrend (st : Station) (tag : Byte) (payload : List Byte)
  | readPoints (st : Station) (tag : Byte) (payload : List Byte)
  | readStandardization (st : Station) (tag : Byte) (payload : List Byte)
  | cancel (st : Station) (tag : Byte) (payload : List Byte)
  | mode (st : Station) (tag : Byte) (payload : List Byte)
  | clearFault (st : Station) (tag : Byte) (payload : List Byte)
  | resume (st : Station) (tag : Byte) (payload : List Byte)
  | takeCount (st : Station) (tag : Byte) (payload : List Byte)
  | restartProfiles (st : Station) (tag : Byte) (payload : List Byte)
  | recipeWrite (st : Station) (tag : Byte) (payload : List Byte)
  | recipeRead (st : Station) (tag : Byte) (payload : List Byte)
  | validate (st : Station) (tag : Byte) (payload : List Byte)
  | select (st : Station) (tag : Byte) (payload : List Byte)
  | machineWrite (st : Station) (tag : Byte) (payload : List Byte)
  | machineRead (st : Station) (tag : Byte) (payload : List Byte)
  | subscribe (st : Station) (tag : Byte) (payload : List Byte)
  | stationCharacterTaken (st : Station) (e : LineEvent)
  | headLinkCharacter (c : Character)
  deriving DecidableEq, Repr

end Sys2Proof
end

