-- ==== Sys2Proof/Decode.lean ====
section
/-! DEFINITION. The words of the opcode table. No row of this table gives bits, so no word spells a
command (log 19). The telegrams of the links are decoded in Machine/Operands.lean and Machine/Receiver.lean. -/

namespace Sys2Proof

/-- The command that a word spells by the table's bits: none, for every row gives none. -/
def decodeTableWord (_nbits _w : Nat) : Option Instr := none

end Sys2Proof
end

