-- ==== Sys2Proof/Config.lean ====
section
/-! DEFINITION. What the part fixes once: its sizes, thresholds and timer periods.
No rule of the manual leaves a value open, so there is no free value here. -/

namespace Sys2Proof.Config

/-- Slots of one window of the window monitor (R4). -/
def windowSlots : Nat := 64
/-- Bad slots of a window from which its result is LOST (R4). -/
def lostFrom : Nat := 5
/-- Assessed samples of one absence window (R122). -/
def absentWindow : Nat := 64
/-- Present samples below which an absence window is short (R122). -/
def shortBelow : Nat := 3
/-- The edge confirm run (R48). -/
def edgeConfirm : Nat := 8
/-- Where the hole detector's run length holds (R144). -/
def holeRunHold : Nat := 33
/-- Records of the profile ring (R87). -/
def ringSize : Nat := 8
/-- Entries of the trend list (R104). -/
def trendSize : Nat := 16
/-- Records of the point ring (R108). -/
def pointRingSize : Nat := 32
/-- Replies of a reply queue, the pending request counted (R184). -/
def replyRoom : Nat := 4
/-- Entries of a limit table (R151). -/
def limitEntries : Nat := 16
/-- The longest payload a station telegram may have (R177). -/
def maxPayload : Nat := 1100
/-- How far behind newest a record may still be read, and how far ahead a wait may reach (R95, R97). -/
def scanReach : Int := 64
/-- Where a 16-bit counter holds (R111, R137, R145). -/
def hold16 : Nat := 65535
/-- The zero counts position: the head's park (R35). -/
def park : Nat := 0

/-! Timer periods, in microseconds. -/

/-- After an arrival (R2). -/
def missingFirst : Nat := 750
/-- After an expiry (R2). -/
def missingNext : Nat := 500
/-- The tile timer (R15). -/
def tile : Nat := 2000000
/-- The withdraw timer (R17). -/
def withdraw : Nat := 2000000
/-- The encoder-loss timer (R27). -/
def encoderLoss : Nat := 100000
/-- The homing timer (R29). -/
def homing : Nat := 120000000
/-- The speed gate (R113). -/
def speedGate : Nat := 100000
/-- The loss timer (R111). -/
def tachLoss : Nat := 500000
/-- The gap timer (R178). -/
def gap : Nat := 50
/-- The presence timer (R180). -/
def presence : Nat := 2000000
/-- One second, for the threading timer and the wait timer, whose fields are in seconds (R131, R94). -/
def second : Nat := 1000000
/-- The level age, in milliseconds, holds here (R118). -/
def ageHold : Nat := 2000
/-- A debounce field counts 10 ms (R164). -/
def debounceUnit : Nat := 10

end Sys2Proof.Config
end

