-- ==== Sys2Proof/Machine/State.lean ====
section
/-! DEFINITION. The state of the 640 as plain data, block by block, and the state after device reset. -/

namespace Sys2Proof.Machine

open Sys2Proof

/-! ## Small shapes -/

/-- One thing for each station, or for each recipe slot. -/
structure Four (α : Type) where
  x0 : α
  x1 : α
  x2 : α
  x3 : α
  deriving DecidableEq, Repr

/-- One thing for each raw channel (R7). -/
structure PerChannel (α : Type) where
  bw : α
  water : α
  gap : α
  deriving DecidableEq, Repr

/-- One thing for each measurement (00, Terms). -/
structure PerMeas (α : Type) where
  bw : α
  moist : α
  cal : α
  deriving DecidableEq, Repr

/-- One thing for each sheet-break detector (R118). -/
structure PerDetector (α : Type) where
  wet : α
  press : α
  dry : α
  reel : α
  deriving DecidableEq, Repr

/-- A measurement (00, Terms). -/
inductive Meas where
  | bw
  | moist
  | cal
  deriving DecidableEq, Repr

/-- A signed value of the profile arithmetic: `none` is the void value (00, Conventions). -/
abbrev Val := Option Int

/-- A timer: stopped, or running with the microseconds it was last started at (log 3). -/
inductive Timer where
  | stopped
  | running (us : Nat)
  deriving DecidableEq, Repr

/-- A sum and the count of the values in it (R13, R60, R106). -/
structure SumCount where
  sum : Nat
  count : Nat
  deriving DecidableEq, Repr

/-- An empty sum. -/
def SumCount.zero : SumCount := ⟨0, 0⟩

/-! ## Pins -/

/-- The input levels that a rule reads after their transition (R26, R28, R118). -/
structure Pins where
  drvRdy : Bool
  otA : Bool
  otB : Bool
  det : PerDetector Bool
  deriving DecidableEq, Repr

/-- The input levels at power-up: DESIGN CHOICE all low (log 5). -/
def Pins.low : Pins := ⟨false, false, false, ⟨false, false, false, false⟩⟩

/-! ## Head link receiver (chapter 1.1) -/

/-- The link state (R4). -/
inductive LinkState where
  | lost
  | sync
  deriving DecidableEq, Repr

/-- The head commands (R6). -/
inductive HeadCommand where
  | refIn
  | refOut
  deriving DecidableEq, Repr

/-- The head link receiver and the return direction (R1 to R6). -/
structure HeadLink where
  /-- the bytes of the telegram in progress, none outside a telegram -/
  rx : Option (List Byte)
  state : LinkState
  resync : Bool
  expected : Byte
  slotCount : Nat
  badCount : Nat
  missingTimer : Timer
  sending : Option HeadCommand
  waiting : Option HeadCommand
  deriving DecidableEq, Repr

/-- R23. That a sample telegram in progress at device reset is lost is the model's choice (log 27): R23 does not list the
characters received so far. -/
def HeadLink.reset : HeadLink :=
  { rx := none, state := .lost, resync := true, expected := 0, slotCount := 0, badCount := 0,
    missingTimer := .stopped, sending := none, waiting := none }

/-! ## Conversion unit (chapters 1.2, 1.3) -/

/-- A set of constants: zero and gain of each channel (R7). -/
structure ConstSet where
  zero : PerChannel Nat
  gain : PerChannel Nat
  deriving DecidableEq, Repr

/-- The conversion unit (R7, R10). -/
structure Conversion where
  consts : ConstSet
  epoch : Word
  pendingSet : Option ConstSet
  deriving DecidableEq, Repr

/-- R10, R23. -/
def Conversion.reset : Conversion :=
  { consts := ⟨⟨0, 0, 0⟩, ⟨16384, 16384, 16384⟩⟩, epoch := 0, pendingSet := none }

/-- A converted sample (R9). -/
structure Sample where
  bw : Option Nat
  water : Option Nat
  moist : Option Nat
  cal : Option Nat
  present : Bool
  pos : Nat
  epoch : Word
  deriving DecidableEq, Repr

/-- The raw sample the standardization unit takes: values, OK flags, REF_IN_PLACE (R9). -/
structure RawSample where
  value : PerChannel Nat
  ok : PerChannel Bool
  refInPlace : Bool
  deriving DecidableEq, Repr

/-! ## Standardization unit (chapters 1.4, 1.5) -/

/-- The phase of the procedure (R12 to R17). -/
inductive StdPhase where
  | idle
  | zero
  | reference
  | withdraw
  deriving DecidableEq, Repr

/-- A channel's reason (chapter 1.5). -/
inductive Reason where
  | none
  | pass
  | noData
  | tile
  | denominator
  | gainRange
  | zeroDrift
  | gainDrift
  | noRecord
  deriving DecidableEq, Repr

/-- The outcome of a procedure (R18 to R20). -/
inductive Outcome where
  | none
  | commit
  | fail
  | abort
  deriving DecidableEq, Repr

/-- The values a procedure takes from the machine record at its start (R12). -/
structure StdParams where
  samples : Nat
  nominal : PerChannel Nat
  zeroDrift : PerChannel Nat
  gainDrift : Nat
  deriving DecidableEq, Repr

/-- A channel's last candidates (R22). -/
structure Candidate where
  z : Nat
  refMean : Nat
  g : Nat
  deriving DecidableEq, Repr

/-- The standardization unit (R11 to R21). -/
structure StdUnit where
  phase : StdPhase
  reasons : PerChannel Reason
  cand : PerChannel Candidate
  outcome : Outcome
  failCount : Nat
  stdDue : Bool
  scanCounter : Nat
  tileTimer : Timer
  withdrawTimer : Timer
  params : StdParams
  /-- a collection is running: from the start of ZERO, and in REFERENCE once the tile is seen (R15) -/
  collecting : Bool
  sums : PerChannel SumCount
  slotCount : Nat
  deriving DecidableEq, Repr

/-- R23; the collection and the procedure's values: DESIGN CHOICE 0 (log 14). -/
def StdUnit.reset : StdUnit :=
  { phase := .idle, reasons := ⟨.none, .none, .none⟩, cand := ⟨⟨0, 0, 0⟩, ⟨0, 0, 0⟩, ⟨0, 0, 0⟩⟩,
    outcome := .none, failCount := 0, stdDue := false, scanCounter := 0, tileTimer := .stopped,
    withdrawTimer := .stopped, params := ⟨0, ⟨0, 0, 0⟩, ⟨0, 0, 0⟩, 0⟩, collecting := false,
    sums := ⟨.zero, .zero, .zero⟩, slotCount := 0 }

/-! ## Traverse controller (chapter 2) -/

/-- The legs of SCANNING (R31). -/
inductive Leg where
  | approach
  | fwd
  | rev
  deriving DecidableEq, Repr

/-- The head states (chapter 2.2). STANDARDIZING shows the unit's phase. -/
inductive HeadState where
  | homing
  | parked
  | standardizing
  | scanning (leg : Leg)
  | positioning
  | singlePoint
  | returning
  | fault
  deriving DecidableEq, Repr

/-- The fault causes (R38). -/
inductive FaultCause where
  | none
  | encoder
  | overtravel
  | drive
  | homing
  | standardize
  | tile
  deriving DecidableEq, Repr

/-- A station's mode slot (R40). -/
inductive ModeSlot where
  | none
  | park
  | standardize
  | point (pos : Nat)
  deriving DecidableEq, Repr

/-- The grant (R41). -/
inductive Grant where
  | none
  | hold
  | park (st : Station)
  | standardize
  | point (st : Station) (p : Nat)
  | scan
  deriving DecidableEq, Repr

/-- The direction of a scan (R32). -/
inductive ScanDir where
  | fwd
  | rev
  deriving DecidableEq, Repr

/-- The scan in progress: its direction and the limits read at its start (R31). -/
structure ActiveScan where
  dir : ScanDir
  limitA : Nat
  limitB : Nat
  deriving DecidableEq, Repr

/-- The traverse controller (R24 to R47). DRV_DIR true is toward the B end. -/
structure Head where
  state : HeadState
  cause : FaultCause
  position : BitVec 16
  grant : Grant
  slots : Four ModeSlot
  drvEn : Bool
  drvDir : Bool
  drvSpd : Nat
  encTimer : Timer
  homingTimer : Timer
  scan : Option ActiveScan
  pointPos : Nat
  deriving DecidableEq, Repr

/-- R47: the head has entered HOMING and waits for the drive. -/
def Head.reset : Head :=
  { state := .homing, cause := .none, position := 0, grant := .none,
    slots := ⟨.none, .none, .none, .none⟩, drvEn := false, drvDir := false, drvSpd := 0,
    encTimer := .stopped, homingTimer := .running Config.homing, scan := none, pointPos := 0 }

/-! ## Edge tracker and bin accumulator (chapter 3) -/

/-- The run state of the scan in progress (R49). -/
structure EdgeRun where
  len : Nat
  start : Nat
  leading : Option Nat
  trailing : Option Nat
  deriving DecidableEq, Repr

/-- A clear run state (R49, R51). -/
def EdgeRun.clear : EdgeRun := ⟨0, 0, none, none⟩

/-- A pair of edges, A-side and B-side positions. -/
structure Edges where
  a : Nat
  b : Nat
  deriving DecidableEq, Repr

/-- The edge tracker (R49, R52). -/
structure EdgeTracker where
  run : EdgeRun
  locked : Bool
  lockedEdges : Option Edges
  previous : Option Edges
  inCount : Nat
  outCount : Nat
  deriving DecidableEq, Repr

/-- R64. -/
def EdgeTracker.reset : EdgeTracker := ⟨.clear, false, none, none, 0, 0⟩

/-- The sums of one bin (R60). -/
abbrev BinSums := PerMeas SumCount

/-! ## Profile unit (chapter 4) -/

/-- The step sign of a bin (R74). -/
inductive StepSign where
  | none
  | plus
  | minus
  deriving DecidableEq, Repr

/-- One bin of the profile filter in one measurement (R72 to R76). -/
structure FilterBin where
  value : Val
  sign : StepSign
  age : Nat
  deriving DecidableEq, Repr

/-- What a profile restart leaves (R81). -/
def FilterBin.fresh : FilterBin := ⟨none, .none, 0⟩

/-- A bin layout: N, W and origin (R59, R84). -/
structure Layout where
  n : Nat
  w : Nat
  origin : Nat
  deriving DecidableEq, Repr

/-- The profile unit (chapter 4). -/
structure Profile where
  filter : PerMeas (List FilterBin)
  prevAvg : PerMeas Val
  continuity : Bool
  layout : Option Layout
  deferred : Bool
  deriving DecidableEq, Repr

/-- R86. -/
def Profile.reset : Profile := ⟨⟨[], [], []⟩, ⟨none, none, none⟩, false, none, false⟩

/-! ## Profile ring, trend list, point ring (chapter 5) -/

/-- A record's status (R87). -/
inductive RecordStatus where
  | free
  | filling
  | complete
  | void
  deriving DecidableEq, Repr

/-- The quality flags (R88). -/
structure Quality where
  linkGaps : Bool
  provisional : Bool
  tachHeld : Bool
  noSheet : Bool
  unstandardized : Bool
  noSlope : Bool
  deriving DecidableEq, Repr

/-- No flag set. -/
def Quality.clear : Quality := ⟨false, false, false, false, false, false⟩

/-- What a record holds for one measurement (R88). -/
structure MeasRecord where
  avg : Val
  means : List Val
  devs : List Val
  filt : List Val
  zones : List Val
  spread : Val
  slope : Val
  deriving DecidableEq, Repr

/-- Void values of a record of n bins and z zones (R89). -/
def MeasRecord.void (n z : Nat) : MeasRecord :=
  ⟨none, List.replicate n none, List.replicate n none, List.replicate n none, List.replicate z none, none, none⟩

/-- A scan record (R88). -/
structure ScanRecord where
  status : RecordStatus
  number : Option (BitVec 16)
  dir : ScanDir
  slot : SlotNo
  generation : BitVec 16
  layout : Layout
  zoneCount : Nat
  epoch : Word
  mdStart : BitVec 24
  mdEnd : BitVec 24
  speed : Nat
  edges : Option Edges
  locked : Bool
  quality : Quality
  meas : PerMeas MeasRecord
  holds : Four Bool
  deriving DecidableEq, Repr

/-- A record never used since device reset (R87); its contents: DESIGN CHOICE (log 14). -/
def ScanRecord.free : ScanRecord :=
  { status := .free, number := none, dir := .fwd, slot := .n0, generation := 0, layout := ⟨0, 0, 0⟩,
    zoneCount := 0, epoch := 0, mdStart := 0, mdEnd := 0, speed := 0, edges := none, locked := false,
    quality := .clear, meas := ⟨.void 0 0, .void 0 0, .void 0 0⟩, holds := ⟨false, false, false, false⟩ }

/-- The profile ring (R87). -/
structure Ring where
  records : List ScanRecord
  newest : BitVec 16
  deriving DecidableEq, Repr

/-- R110. -/
def Ring.reset : Ring := ⟨List.replicate Config.ringSize .free, 0⟩

/-- A trend entry (R104). -/
structure TrendEntry where
  number : BitVec 16
  dir : ScanDir
  avg : PerMeas Val
  mdEnd : BitVec 24
  quality : Quality
  deriving DecidableEq, Repr

/-- A point period in progress (R37, R106). -/
structure PointPeriod where
  p : Nat
  length : Nat
  slots : Nat
  sums : PerMeas SumCount
  accepted : Nat
  epoch : Word
  mdStart : BitVec 24
  linkGaps : Bool
  tachHeld : Bool
  deriving DecidableEq, Repr

/-- A point record (R107). -/
structure PointRecord where
  number : BitVec 16
  p : Nat
  mdStart : BitVec 24
  md : BitVec 24
  speed : Nat
  epoch : Word
  accepted : Nat
  avg : PerMeas Val
  quality : Quality
  deriving DecidableEq, Repr

/-- The point accumulator and the point ring (R106, R108). -/
structure Points where
  period : Option PointPeriod
  ring : List PointRecord
  next : BitVec 16
  deriving DecidableEq, Repr

/-- R110. -/
def Points.reset : Points := ⟨none, [], 0⟩

/-! ## Speed unit (chapter 6) -/

/-- The tach watch state (R114). -/
inductive Watch where
  | pulsing
  | held
  | stopped
  deriving DecidableEq, Repr

/-- The speed unit (R111 to R116). TACH_HELD is set exactly while the watch state is HELD. -/
structure Speed where
  increment : Nat
  mdAcc : BitVec 48
  gateCount : Nat
  gateTimer : Timer
  speed : Nat
  watch : Watch
  refPulses : Nat
  emptyGates : Nat
  lossTimer : Timer
  atSpeed : Bool
  deriving DecidableEq, Repr

/-- R117. -/
def Speed.reset : Speed :=
  { increment := 0, mdAcc := 0, gateCount := 0, gateTimer := .running Config.speedGate, speed := 0,
    watch := .stopped, refPulses := 0, emptyGates := 0, lossTimer := .stopped, atSpeed := false }

/-! ## Break supervisor and absent detector (chapter 7) -/

/-- The break states (chapter 7.3). -/
inductive BreakState where
  | idle
  | running
  | break_
  | threading
  | recovering
  deriving DecidableEq, Repr

/-- The cause set (R126). -/
structure CauseSet where
  det : PerDetector Bool
  absent : Bool
  deriving DecidableEq, Repr

/-- One detector: level ASSERTED or not, level age in ms, TRIPPED or not (R118, R119). -/
structure DetectorUnit where
  asserted : Bool
  age : Nat
  tripped : Bool
  deriving DecidableEq, Repr

/-- The break supervisor (R118 to R138). -/
structure Supervisor where
  state : BreakState
  det : PerDetector DetectorUnit
  causes : CauseSet
  count : Nat
  threadingTimer : Timer
  recoveryCount : Nat
  relay : Bool
  deriving DecidableEq, Repr

/-- R118, R141: the levels are taken from the inputs as active HIGH. -/
def Supervisor.reset (inputs : PerDetector Bool) : Supervisor :=
  { state := .idle,
    det := ⟨⟨inputs.wet, 0, false⟩, ⟨inputs.press, 0, false⟩, ⟨inputs.dry, 0, false⟩,
      ⟨inputs.reel, 0, false⟩⟩,
    causes := ⟨⟨false, false, false, false⟩, false⟩, count := 0, threadingTimer := .stopped,
    recoveryCount := 0, relay := false }

/-- The absent detector (R121 to R124). When `assessing` turns to yes is the model's choice (log 28). -/
structure Absent where
  assessing : Bool
  assessed : Nat
  present : Nat
  short : Bool
  deriving DecidableEq, Repr

/-- R122, R124, R141: not assessing, counts 0, flag clear. -/
def Absent.clear : Absent := ⟨false, 0, 0, false⟩

/-! ## Hole detector and limit checker (chapter 8) -/

/-- Where a report came from (R147). -/
inductive ReportSource where
  | none
  | scan (number : BitVec 16)
  | take
  deriving DecidableEq, Repr

/-- A hole report (R147). -/
structure HoleReport where
  source : ReportSource
  count : Nat
  overflow : Bool
  metres : BitVec 24
  mdAt : BitVec 24
  deriving DecidableEq, Repr

/-- The hole detector (chapter 8.1). -/
structure Hole where
  run : Nat
  marker : Bool
  counter : Nat
  overflow : Bool
  mdMark : BitVec 24
  last : HoleReport
  deriving DecidableEq, Repr

/-- R158. -/
def Hole.reset : Hole := ⟨0, false, 0, false, 0, ⟨.none, 0, false, 0, 0⟩⟩

/-- The state of a limit entry (R154). -/
inductive LimitState where
  | clear
  | exceeded
  | unknown
  deriving DecidableEq, Repr

/-- The limit checker and the LIMIT relay (R151 to R157). -/
structure Limits where
  states : List LimitState
  relay : Bool
  deriving DecidableEq, Repr

/-- R158. -/
def Limits.reset : Limits := ⟨List.replicate Config.limitEntries .clear, false⟩

/-! ## Recipe store (chapter 9) -/

/-- R151. -/
inductive LimitTarget where
  | end_
  | avg
  | spread
  | zoneMax
  | zoneMin
  deriving DecidableEq, Repr

/-- R151. -/
inductive Bound where
  | high
  | low
  deriving DecidableEq, Repr

/-- R151. -/
inductive CheckMode where
  | quiet
  | signal
  deriving DecidableEq, Repr

/-- A limit entry (R151). -/
structure LimitEntry where
  target : LimitTarget
  meas : Meas
  bound : Bound
  check : CheckMode
  relay : Bool
  limit : Int
  hysteresis : Nat
  deriving DecidableEq, Repr

/-- The default entry (R164): END; the fields beside the target: DESIGN CHOICE (log 14). -/
def LimitEntry.end_ : LimitEntry := ⟨.end_, .bw, .high, .quiet, false, 0, 0⟩

/-- R123. -/
inductive AbsentMode where
  | strict
  | confirmed
  deriving DecidableEq, Repr

/-- R148. -/
inductive HoleMode where
  | auto
  | manual
  deriving DecidableEq, Repr

/-- The GEOMETRY group (R164). -/
structure Geometry where
  a : Nat
  b : Nat
  origin : Nat
  w : Nat
  n : Nat
  trim : Nat
  deriving DecidableEq, Repr

/-- The MOTION group (R164). -/
structure Motion where
  step : Nat
  pointSamples : Nat
  deriving DecidableEq, Repr

/-- The MEASURE group (R164). -/
structure Measure where
  threshold : Nat
  minSamples : Nat
  stdInterval : Nat
  deriving DecidableEq, Repr

/-- The EDGES group (R164). -/
structure EdgeCfg where
  window : Nat
  lockCount : Nat
  unlockCount : Nat
  deriving DecidableEq, Repr

/-- The FILTER group (R164). -/
structure FilterCfg where
  weight : Nat
  stepLimit : Nat
  voidLimit : Nat
  deriving DecidableEq, Repr

/-- One zone (R77). -/
structure Zone where
  first : Nat
  last : Nat
  deriving DecidableEq, Repr

/-- The BREAK group (R164); debounces in units of 10 ms, threading hold in seconds. -/
structure BreakCfg where
  enables : PerDetector Bool
  debounces : PerDetector Nat
  absentMode : AbsentMode
  autoResume : Bool
  threadingHold : Nat
  recoveryScans : Nat
  deriving DecidableEq, Repr

/-- The HOLES group (R164). -/
structure HoleCfg where
  maxRun : Nat
  mode : HoleMode
  deriving DecidableEq, Repr

/-- The fields of a recipe (R164). -/
structure Recipe where
  geometry : Geometry
  motion : Motion
  measure : Measure
  edges : EdgeCfg
  filter : FilterCfg
  zones : List Zone
  brk : BreakCfg
  holes : HoleCfg
  limits : List LimitEntry
  deriving DecidableEq, Repr

/-- The default values of R164. -/
def Recipe.default : Recipe :=
  { geometry := ⟨400, 4000, 400, 200, 16, 0⟩, motion := ⟨3, 2000⟩, measure := ⟨500, 5, 0⟩,
    edges := ⟨200, 3, 3⟩, filter := ⟨4, 0, 3⟩, zones := [],
    brk := ⟨⟨false, false, false, false⟩, ⟨10, 10, 10, 10⟩, .confirmed, false, 60, 3⟩,
    holes := ⟨4, .auto⟩, limits := List.replicate Config.limitEntries .end_ }

/-- The field groups with their values (R164), as RECIPE WRITE carries and stores them. -/
inductive GroupBody where
  | geometry (g : Geometry)
  | motion (m : Motion)
  | measure (m : Measure)
  | edges (e : EdgeCfg)
  | filter (f : FilterCfg)
  | zones (z : List Zone)
  | brk (b : BreakCfg)
  | holes (h : HoleCfg)
  | limits (l : List LimitEntry)
  deriving DecidableEq, Repr

/-- The field groups (R164). -/
inductive Group where
  | geometry
  | motion
  | measure
  | edges
  | filter
  | zones
  | brk
  | holes
  | limits
  deriving DecidableEq, Repr

/-- The slot states (chapter 9.2). -/
inductive SlotState where
  | empty
  | editing
  | valid
  | pending
  | active
  deriving DecidableEq, Repr

/-- A recipe slot (R163). -/
structure Slot where
  state : SlotState
  generation : BitVec 16
  recipe : Recipe
  deriving DecidableEq, Repr

/-- R159. -/
inductive Polarity where
  | high
  | low
  deriving DecidableEq, Repr

/-- The fields of the machine record (R159). -/
structure MachineRecord where
  frameLength : Nat
  tachIncrement : Nat
  nominal : PerChannel Nat
  zeroDrift : PerChannel Nat
  gainDrift : Nat
  stdSamples : Nat
  minRunSpeed : Nat
  polarity : PerDetector Polarity
  deriving DecidableEq, Repr

/-- The recipe store (R159, R163). `machineSet` is the record's state SET. -/
structure Store where
  machineSet : Bool
  machine : MachineRecord
  slots : Four Slot
  deriving DecidableEq, Repr

/-- R174. -/
def Store.reset : Store :=
  { machineSet := false,
    machine := ⟨0, 0, ⟨0, 0, 0⟩, ⟨0, 0, 0⟩, 0, 0, 0, ⟨.high, .high, .high, .high⟩⟩,
    slots := ⟨⟨.empty, 0, .default⟩, ⟨.empty, 0, .default⟩, ⟨.empty, 0, .default⟩,
      ⟨.empty, 0, .default⟩⟩ }

/-! ## Station ports and notices (chapters 10, 11) -/

/-- The requests of the catalogue of 10.6. -/
inductive RequestKind where
  | status
  | readScan
  | readTrend
  | readPoints
  | readStandardization
  | cancel
  | mode
  | clearFault
  | resume
  | takeCount
  | restartProfiles
  | recipeWrite
  | recipeRead
  | validate
  | select
  | machineWrite
  | machineRead
  | subscribe
  deriving DecidableEq, Repr

/-- The status codes (R186). -/
inductive Status where
  | ok
  | clamped
  | busy
  | unknownKind
  | badLength
  | badField
  | notFound
  | notValid
  | activeSlot
  | state
  | break_
  | timeout
  | cancelled
  | nothingPending
  deriving DecidableEq, Repr

/-- The parts of a record (R94). -/
inductive ScanPart where
  | means
  | deviations
  | profile
  | zones
  deriving DecidableEq, Repr

/-- When a restart or a selection acts (R83, R167). -/
inductive Timing where
  | none
  | immediate
  | atCompletion
  deriving DecidableEq, Repr

/-- What a READ SCAN asks of a record (R94). -/
structure ScanQuery where
  meas : Meas
  part : ScanPart
  first : Nat
  last : Nat
  deriving DecidableEq, Repr

/-- A pending READ SCAN (R97). -/
structure PendingRead where
  tag : Byte
  query : ScanQuery
  minimum : BitVec 16
  waitTimer : Timer
  deriving DecidableEq, Repr

/-- The STATUS snapshot (R187). -/
structure StatusReport where
  head : HeadState
  phase : StdPhase
  cause : FaultCause
  brk : BreakState
  causes : CauseSet
  breakCount : Nat
  link : LinkState
  locked : Bool
  newest : BitVec 16
  epoch : Word
  speed : Nat
  tachHeld : Bool
  active : Option (SlotNo × BitVec 16)
  pending : Option SlotNo
  ownSlot : ModeSlot
  ownHold : Option (BitVec 16)
  ownPending : Bool
  ownDropped : Bool
  deriving DecidableEq, Repr

/-- The READ STANDARDIZATION content (R22). -/
structure StdReport where
  consts : ConstSet
  epoch : Word
  phase : StdPhase
  cand : PerChannel Candidate
  outcome : Outcome
  reasons : PerChannel Reason
  failCount : Nat
  stdDue : Bool
  scanCounter : Nat
  deriving DecidableEq, Repr

/-- The SUBSCRIBE settings of a port: mask bit n is notice kind 0x81 + n; an edge option is true for
EVERY_CHANGE (R191, R194). -/
structure Subscription where
  mask : BitVec 8
  limitEvery : Bool
  linkEvery : Bool
  deriving DecidableEq, Repr

/-- R195. -/
def Subscription.reset : Subscription := ⟨0, true, true⟩

/-- The content of a reply (R196, 12.3). -/
inductive ReplyBody where
  | status (c : Status)
  | report (r : StatusReport)
  /-- a served READ SCAN, sent from the held record at this index of the ring (R93) -/
  | scan (index : Nat) (q : ScanQuery)
  | timeout (newest : BitVec 16)
  | trend (newest : BitVec 16) (entries : List TrendEntry)
  | points (c : Status) (next : BitVec 16) (records : List PointRecord)
  | standardization (r : StdReport)
  | mode (c : Status) (slot : ModeSlot)
  | takeCount (mode : HoleMode) (r : HoleReport) (counter : Nat) (overflow : Bool)
  | restart (t : Timing)
  | select (t : Timing)
  | failedCheck (n : Nat)
  | recipeWrite (c : Status) (st : SlotState) (slot : SlotNo) (body : GroupBody)
  | recipeRead (st : SlotState) (generation : BitVec 16) (slot : SlotNo) (body : GroupBody)
  | machine (c : Status) (set : Bool) (r : MachineRecord)
  | subscription (s : Subscription)
  deriving DecidableEq, Repr

/-- A queued reply: the kind of its request (none for UNKNOWN_KIND, 0x40), its tag, its content. -/
structure Reply where
  kind : Option RequestKind
  tag : Byte
  body : ReplyBody
  deriving DecidableEq, Repr

/-- The notice kinds, 0x81 to 0x88 (12.1). -/
inductive NoticeKind where
  | scanDone
  | breakState
  | limit
  | standardize
  | headState
  | headLink
  | holeReport
  | recipe
  deriving DecidableEq, Repr

/-- Why a RECIPE notice is queued (R171). -/
inductive RecipeCause where
  | activated
  | selected
  | cancelled
  | machine
  deriving DecidableEq, Repr

/-- The snapshot a notice carries (11.1). -/
inductive Notice where
  | scanDone (number : BitVec 16) (dir : ScanDir) (q : Quality) (avg : PerMeas Val)
  | breakState (st : BreakState) (causes : CauseSet) (count : Nat)
  | limit (states : List LimitState) (last : Nat) (entering : Bool) (number : BitVec 16)
  | standardize (o : Outcome) (reasons : PerChannel Reason) (epoch : Word) (failCount : Nat)
  | headState (h : HeadState) (phase : StdPhase) (cause : FaultCause) (grant : Grant)
      (pos : BitVec 16)
  | headLink (st : LinkState) (bad : Nat)
  | holeReport (r : HoleReport)
  | recipe (cause : RecipeCause) (slots : Four (SlotState × BitVec 16)) (active : Option SlotNo)
      (pending : Option SlotNo) (machineSet : Bool)
  deriving DecidableEq, Repr

/-- An entry of a notice queue with its follow-up content (R193). -/
structure NoticeEntry where
  content : Notice
  followUp : Option Notice
  deriving DecidableEq, Repr

/-- The receiver of a port with the characters of the telegram in progress (R177). -/
inductive RxState where
  | hunt
  | receiving (chars : List Byte)
  deriving DecidableEq, Repr

/-- The transmitter of a port: what it sends is the first entry of that queue (R185). -/
inductive TxState where
  | idle
  | reply
  | notice
  deriving DecidableEq, Repr

/-- A station port (chapters 10, 11). -/
structure Port where
  rx : RxState
  gapTimer : Timer
  present : Bool
  presenceTimer : Timer
  pending : Option PendingRead
  replies : List Reply
  dropped : Bool
  tx : TxState
  sub : Subscription
  notices : List NoticeEntry
  deriving DecidableEq, Repr

/-- R189, R195. -/
def Port.reset : Port :=
  { rx := .hunt, gapTimer := .stopped, present := false, presenceTimer := .stopped, pending := none,
    replies := [], dropped := false, tx := .idle, sub := .reset, notices := [] }

/-! ## The whole part -/

/-- The state of the 640 and the queue of commands waiting for it. -/
structure State where
  pins : Pins
  link : HeadLink
  conv : Conversion
  std : StdUnit
  head : Head
  edges : EdgeTracker
  bins : List BinSums
  profile : Profile
  ring : Ring
  trend : List TrendEntry
  points : Points
  speed : Speed
  brk : Supervisor
  absent : Absent
  hole : Hole
  limits : Limits
  store : Store
  ports : Four Port
  pending : List Instr
  deriving DecidableEq, Repr

/-- Every block in its reset state, the inputs as they stand (R23, R47, R64, R86, R110, R117, R141,
R158, R174, R189, R195). -/
def State.resetAt (pins : Pins) (pending : List Instr) : State :=
  { pins := pins, link := .reset, conv := .reset, std := .reset, head := .reset, edges := .reset,
    bins := [], profile := .reset, ring := .reset, trend := [], points := .reset, speed := .reset,
    brk := .reset pins.det, absent := .clear, hole := .reset, limits := .reset, store := .reset,
    ports := ⟨.reset, .reset, .reset, .reset⟩, pending := pending }

/-- The part right after device reset at power-up, with every input low (log 5) and no command waiting.
DRV_RDY is low, so the head waits in HOMING with DRV_EN deasserted (R29). -/
def State.reset : State := State.resetAt .low []

/-! ## The updates of State: one home for each field -/

/-- The state with this pins. -/
def State.setPins (s : State) (x : Pins) : State := { s with pins := x }

/-- The state with this link. -/
def State.setLink (s : State) (x : HeadLink) : State := { s with link := x }

/-- The state with this conv. -/
def State.setConv (s : State) (x : Conversion) : State := { s with conv := x }

/-- The state with this std. -/
def State.setStd (s : State) (x : StdUnit) : State := { s with std := x }

/-- The state with this head. -/
def State.setHead (s : State) (x : Head) : State := { s with head := x }

/-- The state with this edges. -/
def State.setEdges (s : State) (x : EdgeTracker) : State := { s with edges := x }

/-- The state with this bins. -/
def State.setBins (s : State) (x : List BinSums) : State := { s with bins := x }

/-- The state with this profile. -/
def State.setProfile (s : State) (x : Profile) : State := { s with profile := x }

/-- The state with this ring. -/
def State.setRing (s : State) (x : Ring) : State := { s with ring := x }

/-- The state with this trend. -/
def State.setTrend (s : State) (x : List TrendEntry) : State := { s with trend := x }

/-- The state with this points. -/
def State.setPoints (s : State) (x : Points) : State := { s with points := x }

/-- The state with this speed. -/
def State.setSpeed (s : State) (x : Speed) : State := { s with speed := x }

/-- The state with this brk. -/
def State.setBrk (s : State) (x : Supervisor) : State := { s with brk := x }

/-- The state with this absent. -/
def State.setAbsent (s : State) (x : Absent) : State := { s with absent := x }

/-- The state with this hole. -/
def State.setHole (s : State) (x : Hole) : State := { s with hole := x }

/-- The state with this limits. -/
def State.setLimits (s : State) (x : Limits) : State := { s with limits := x }

/-- The state with this store. -/
def State.setStore (s : State) (x : Store) : State := { s with store := x }

/-- The state with this ports. -/
def State.setPorts (s : State) (x : Four Port) : State := { s with ports := x }

/-- The state with this pending. -/
def State.setPending (s : State) (x : List Instr) : State := { s with pending := x }

/-- Why a step could stop with a fault. No rule of the manual stops the part: its FAULT is a head state
(R38), so there is no constructor (log 18). -/
inductive Fault where
  deriving DecidableEq, Repr

/-- Why a step could be refused. -/
inductive Refusal where
  /-- Raised by an arm of exec whose command has no meaning yet; no arm is left so. Safe. -/
  | notModelled (mnemonic : String)
  deriving DecidableEq, Repr

end Sys2Proof.Machine
end

