-- ==== Sys2Proof/Machine/Ops.lean ====
section
/-! DEFINITION. Shared operations: the arithmetic of the Conventions, byte order and check, the small
shapes, and the accessors of the recipe store and the MD metres. -/

namespace Sys2Proof.Machine

open Sys2Proof

/-! ## Arithmetic (00, Conventions) -/

/-- Round half up of the quotient n / d. -/
def roundHalfUp (n d : Nat) : Nat := (2 * n + d) / (2 * d)

/-- Round half away from zero of the quotient n / d: the magnitude as in round half up, the sign kept. -/
def roundHalfAway (n : Int) (d : Nat) : Int :=
  if n < 0 then -(roundHalfUp n.natAbs d : Int) else (roundHalfUp n.natAbs d : Int)

/-- Saturation at ±32767. -/
def saturate (x : Int) : Int := max (-32767) (min 32767 x)

/-- A field outside its range is clamped to it (R160, R165). -/
def clampNat (lo hi x : Nat) : Nat := max lo (min hi x)

/-- The distance of two positions, as plain integers (R52). -/
def distance (a b : Nat) : Nat := (a - b) + (b - a)

/-- "a is ahead of b by d": the difference modulo 65536, read as signed 16 bits. -/
def aheadBy (a b : BitVec 16) : Int := (a - b).toInt

/-! ## Byte order and check -/

/-- Two bytes, the least significant first. -/
def le16 (x : Nat) : List Byte := [BitVec.ofNat 8 x, BitVec.ofNat 8 (x / 256)]

/-- Four bytes, the least significant first. -/
def le32 (x : Nat) : List Byte :=
  [BitVec.ofNat 8 x, BitVec.ofNat 8 (x / 256), BitVec.ofNat 8 (x / 65536), BitVec.ofNat 8 (x / 16777216)]

/-- A signed 16-bit field, two's complement (R196). -/
def leInt16 (x : Int) : List Byte := le16 (BitVec.ofInt 16 x).toNat

/-- A value that can be void: the void code is −32768 (R196). -/
def leVal (v : Val) : List Byte := leInt16 (v.getD (-32768))

/-- A one-byte field. -/
def byte1 (x : Nat) : Byte := BitVec.ofNat 8 x

/-- A flag as one byte. -/
def flagByte (b : Bool) : Byte := if b then 1 else 0

/-- One bit of the CRC-16: polynomial 0x1021, most significant bit first. -/
def crcBit (c : BitVec 16) : BitVec 16 := if c.msb then (c <<< 1) ^^^ 0x1021#16 else c <<< 1

/-- One byte of the CRC-16. -/
def crcByte (c : BitVec 16) (b : Byte) : BitVec 16 :=
  crcBit (crcBit (crcBit (crcBit (crcBit (crcBit (crcBit (crcBit (c ^^^ (b.setWidth 16 <<< 8)))))))))

/-- The CRC-16 of both links: initial value 0xFFFF, no final inversion (00, Conventions). -/
def crc16 (bytes : List Byte) : BitVec 16 := bytes.foldl crcByte 0xFFFF#16

/-- The byte at an offset of a payload, as a number. -/
def u8At (p : List Byte) (i : Nat) : Nat := (p.getD i 0).toNat

/-- The two-byte field at an offset. -/
def u16At (p : List Byte) (i : Nat) : Nat := u8At p i + 256 * u8At p (i + 1)

/-- The four-byte field at an offset. -/
def u32At (p : List Byte) (i : Nat) : Nat := u16At p i + 65536 * u16At p (i + 2)

/-- The signed two-byte field at an offset. -/
def i16At (p : List Byte) (i : Nat) : Int := (BitVec.ofNat 16 (u16At p i)).toInt

/-! ## Small shapes -/

/-- The thing of one station or slot. -/
def Four.get {α : Type} (f : Four α) : Ix4 → α
  | .n0 => f.x0
  | .n1 => f.x1
  | .n2 => f.x2
  | .n3 => f.x3

/-- Another thing for one station or slot. -/
def Four.set {α : Type} (f : Four α) (i : Ix4) (x : α) : Four α :=
  match i with
  | .n0 => { f with x0 := x }
  | .n1 => { f with x1 := x }
  | .n2 => { f with x2 := x }
  | .n3 => { f with x3 := x }

/-- A function on each of the four. -/
def Four.map {α β : Type} (g : α → β) (f : Four α) : Four β := ⟨g f.x0, g f.x1, g f.x2, g f.x3⟩

/-- The first of the four, lowest number first, that a test admits. -/
def Four.first {α : Type} (p : α → Bool) (f : Four α) : Option Ix4 :=
  if p f.x0 then some .n0
  else if p f.x1 then some .n1
  else if p f.x2 then some .n2
  else if p f.x3 then some .n3
  else none

/-- Some of the four passes a test. -/
def Four.any {α : Type} (p : α → Bool) (f : Four α) : Bool := p f.x0 || p f.x1 || p f.x2 || p f.x3

/-- A function on each channel. -/
def PerChannel.map {α β : Type} (g : α → β) (c : PerChannel α) : PerChannel β :=
  ⟨g c.bw, g c.water, g c.gap⟩

/-- A function of two things on each channel. -/
def PerChannel.zip {α β γ : Type} (g : α → β → γ) (a : PerChannel α) (b : PerChannel β) :
    PerChannel γ := ⟨g a.bw b.bw, g a.water b.water, g a.gap b.gap⟩

/-- Every channel passes a test. -/
def PerChannel.all {α : Type} (p : α → Bool) (c : PerChannel α) : Bool := p c.bw && p c.water && p c.gap

/-- The thing of one measurement. -/
def PerMeas.get {α : Type} (m : PerMeas α) : Meas → α
  | .bw => m.bw
  | .moist => m.moist
  | .cal => m.cal

/-- A function on each measurement. -/
def PerMeas.map {α β : Type} (g : α → β) (m : PerMeas α) : PerMeas β := ⟨g m.bw, g m.moist, g m.cal⟩

/-- A function of two things on each measurement. -/
def PerMeas.zip {α β γ : Type} (g : α → β → γ) (a : PerMeas α) (b : PerMeas β) : PerMeas γ :=
  ⟨g a.bw b.bw, g a.moist b.moist, g a.cal b.cal⟩

/-- Some measurement passes a test. -/
def PerMeas.any {α : Type} (p : α → Bool) (m : PerMeas α) : Bool := p m.bw || p m.moist || p m.cal

/-- The thing of one detector. -/
def PerDetector.get {α : Type} (d : PerDetector α) : Detector → α
  | .wet => d.wet
  | .press => d.press
  | .dry => d.dry
  | .reel => d.reel

/-- Another thing for one detector. -/
def PerDetector.set {α : Type} (d : PerDetector α) (i : Detector) (x : α) : PerDetector α :=
  match i with
  | .wet => { d with wet := x }
  | .press => { d with press := x }
  | .dry => { d with dry := x }
  | .reel => { d with reel := x }

/-- A function on each detector. -/
def PerDetector.map {α β : Type} (g : α → β) (d : PerDetector α) : PerDetector β :=
  ⟨g d.wet, g d.press, g d.dry, g d.reel⟩

/-- A function of two things on each detector. -/
def PerDetector.zip {α β γ : Type} (g : α → β → γ) (a : PerDetector α) (b : PerDetector β) :
    PerDetector γ := ⟨g a.wet b.wet, g a.press b.press, g a.dry b.dry, g a.reel b.reel⟩

/-- Some detector passes a test. -/
def PerDetector.any {α : Type} (p : α → Bool) (d : PerDetector α) : Bool :=
  p d.wet || p d.press || p d.dry || p d.reel

/-- A list that keeps its newest n entries (R104, R108). -/
def keepNewest {α : Type} (n : Nat) (l : List α) : List α := l.drop (l.length - n)

/-- The valid values of a list. -/
def validOf (l : List Val) : List Int := l.filterMap id

/-- The exact sum of a list. -/
def sumInt (l : List Int) : Int := l.foldl (· + ·) 0

/-- A value added to a sum unless its count has reached the cap (R60). -/
def SumCount.add (cap : Nat) (sc : SumCount) (v : Option Nat) : SumCount :=
  match v with
  | none => sc
  | some x => if sc.count < cap then ⟨sc.sum + x, sc.count + 1⟩ else sc

/-- Timer started or restarted, unless it is stopped (R24, R27). -/
def Timer.restartIfRunning (t : Timer) (us : Nat) : Timer :=
  match t with
  | .stopped => .stopped
  | .running _ => .running us

/-- The timer runs. -/
def Timer.isRunning : Timer → Bool
  | .stopped => false
  | .running _ => true

/-! ## Accessors -/

/-- The ACTIVE slot, or none (R163). -/
def Store.active (st : Store) : Option SlotNo := st.slots.first (fun x => x.state == .active)

/-- The PENDING slot, or none (R163). -/
def Store.pendingSlot (st : Store) : Option SlotNo := st.slots.first (fun x => x.state == .pending)

/-- The ACTIVE recipe, or none. -/
def State.activeRecipe (s : State) : Option Recipe := s.store.active.map (fun i => (s.store.slots.get i).recipe)

/-- The recipe a scan works under. A scan is in progress only under an ACTIVE recipe (Law 4); without
one the defaults of R164 stand in (log 15). -/
def State.recipe (s : State) : Recipe := s.activeRecipe.getD .default

/-- The MD metres: the upper 24 bits of the MD accumulator (R112). -/
def State.mdMetres (s : State) : BitVec 24 := BitVec.ofNat 24 (s.speed.mdAcc.toNat / 2 ^ 24)

/-- TACH_HELD: set while the watch state is HELD (R114). -/
def State.tachHeld (s : State) : Bool := s.speed.watch == .held

/-- A recipe's bin layout (R84). -/
def Recipe.layout (r : Recipe) : Layout := ⟨r.geometry.n, r.geometry.w, r.geometry.origin⟩

/-- A record of the ring by its index. -/
def Ring.at (r : Ring) (i : Nat) : ScanRecord := r.records.getD i .free

/-- One record of the ring changed. -/
def Ring.modify (r : Ring) (i : Nat) (f : ScanRecord → ScanRecord) : Ring :=
  { r with records := r.records.modify i f }

/-- The record of the scan in progress (Law 1: at most one is FILLING). -/
def Ring.filling (r : Ring) : Option Nat := r.records.findIdx? (fun x => x.status == .filling)

/-- The FILLING record, if any, changed. -/
def Ring.onFilling (r : Ring) (f : ScanRecord → ScanRecord) : Ring :=
  match r.filling with
  | none => r
  | some i => r.modify i f

end Sys2Proof.Machine
end

