-- ==== Sys2Proof/Machine/Flags.lean ====
section
/-! DEFINITION. The flags of the part: how each is judged, and how flags and codes are laid out in bytes
(12.4). -/

namespace Sys2Proof.Machine

open Sys2Proof

/-! ## Judged flags -/

/-- Whether an arrival's slot is good, its check being correct (R3). -/
def slotGood (l : HeadLink) (checkOk : Bool) (seq : Byte) : Bool :=
  checkOk && (l.resync || seq == l.expected)

/-- AT_SPEED: the machine record is SET and the speed is at or above the min run speed (R116). -/
def atSpeedNow (st : Store) (speed : Nat) : Bool := st.machineSet && decide (st.machine.minRunSpeed ≤ speed)

/-- A lost tach, not a stopped machine (R115). -/
def tachLost (st : Store) (sp : Speed) : Bool :=
  st.machineSet && decide (sp.increment ≠ 0) && decide (st.machine.minRunSpeed ≤ sp.speed)

/-- The std status is STANDARDIZED (R10). -/
def standardized (epoch : Word) : Bool := decide (epoch ≠ 0)

/-- The level of a detector from its input and polarity (R118). -/
def levelOf (p : Polarity) (high : Bool) : Bool :=
  match p with
  | .high => high
  | .low => !high

/-- The std interval asks for a standardization at this scan counter (R11). -/
def intervalReached (interval counter : Nat) : Bool := decide (interval ≠ 0) && decide (interval ≤ counter)

/-- The live entries of a limit table: those before the first END (R151). -/
def liveEntries (t : List LimitEntry) : List LimitEntry := t.takeWhile (fun e => e.target != .end_)

/-- The LIMIT relay: some live entry with RELAY set is EXCEEDED (R156). -/
def limitRelayNow (t : List LimitEntry) (states : List LimitState) : Bool :=
  ((liveEntries t).zip states).any (fun p => p.1.relay && p.2 == .exceeded)

/-! ## Codes (12.4) -/

/-- The quality flags byte. -/
def Quality.code (q : Quality) : Nat :=
  q.linkGaps.toNat + 2 * q.provisional.toNat + 4 * q.tachHeld.toNat + 8 * q.noSheet.toNat
    + 16 * q.unstandardized.toNat + 32 * q.noSlope.toNat

/-- The cause set byte. -/
def CauseSet.code (c : CauseSet) : Nat :=
  c.det.wet.toNat + 2 * c.det.press.toNat + 4 * c.det.dry.toNat + 8 * c.det.reel.toNat
    + 16 * c.absent.toNat

/-- Head state. -/
def HeadState.code : HeadState → Nat
  | .homing => 0
  | .parked => 1
  | .standardizing => 2
  | .scanning _ => 3
  | .positioning => 4
  | .singlePoint => 5
  | .returning => 6
  | .fault => 7

/-- Leg or phase: the leg in SCANNING, the phase in STANDARDIZING, else 0. -/
def legOrPhase (h : HeadState) (p : StdPhase) : Nat :=
  match h with
  | .scanning .approach => 1
  | .scanning .fwd => 2
  | .scanning .rev => 3
  | .standardizing =>
    match p with
    | .idle => 0
    | .zero => 1
    | .reference => 2
    | .withdraw => 3
  | .homing | .parked | .positioning | .singlePoint | .returning | .fault => 0

/-- Standardization unit phase. -/
def StdPhase.code : StdPhase → Nat
  | .idle => 0
  | .zero => 1
  | .reference => 2
  | .withdraw => 3

/-- Fault cause. -/
def FaultCause.code : FaultCause → Nat
  | .none => 0
  | .encoder => 1
  | .overtravel => 2
  | .drive => 3
  | .homing => 4
  | .standardize => 5
  | .tile => 6

/-- A station's number. -/
def Ix4.code : Ix4 → Nat
  | .n0 => 0
  | .n1 => 1
  | .n2 => 2
  | .n3 => 3

/-- A station or slot number, 0xFF for none. -/
def slotCode : Option Ix4 → Nat
  | none => 0xFF
  | some i => Ix4.code i

/-- The station or slot of a number 0..3. -/
def ix4? (n : Nat) : Option Ix4 :=
  match n with
  | 0 => some .n0
  | 1 => some .n1
  | 2 => some .n2
  | 3 => some .n3
  | _ => none

/-- Grant. -/
def Grant.code : Grant → Nat
  | .none => 0
  | .hold => 1
  | .park _ => 2
  | .standardize => 3
  | .point _ _ => 4
  | .scan => 5

/-- The station of a grant. -/
def Grant.station : Grant → Option Station
  | .park st => some st
  | .point st _ => some st
  | .none | .hold | .standardize | .scan => Option.none

/-- The P of a grant, 0 unless POINT. -/
def Grant.p : Grant → Nat
  | .point _ p => p
  | .none | .hold | .park _ | .standardize | .scan => 0

/-- Break state. -/
def BreakState.code : BreakState → Nat
  | .idle => 0
  | .running => 1
  | .break_ => 2
  | .threading => 3
  | .recovering => 4

/-- Link state. -/
def LinkState.code : LinkState → Nat
  | .lost => 0
  | .sync => 1

/-- Direction. -/
def ScanDir.code : ScanDir → Nat
  | .fwd => 0
  | .rev => 1

/-- Measurement. -/
def Meas.code : Meas → Nat
  | .bw => 0
  | .moist => 1
  | .cal => 2

/-- Part. -/
def ScanPart.code : ScanPart → Nat
  | .means => 0
  | .deviations => 1
  | .profile => 2
  | .zones => 3

/-- Slot state. -/
def SlotState.code : SlotState → Nat
  | .empty => 0
  | .editing => 1
  | .valid => 2
  | .pending => 3
  | .active => 4

/-- Outcome. -/
def Outcome.code : Outcome → Nat
  | .none => 0
  | .commit => 1
  | .fail => 2
  | .abort => 3

/-- Channel reason. -/
def Reason.code : Reason → Nat
  | .none => 0
  | .pass => 1
  | .noData => 2
  | .tile => 3
  | .denominator => 4
  | .gainRange => 5
  | .zeroDrift => 6
  | .gainDrift => 7
  | .noRecord => 8

/-- Limit entry state. -/
def LimitState.code : LimitState → Nat
  | .clear => 0
  | .exceeded => 1
  | .unknown => 2

/-- RECIPE cause. -/
def RecipeCause.code : RecipeCause → Nat
  | .activated => 0
  | .selected => 1
  | .cancelled => 2
  | .machine => 3

/-- Mode slot. -/
def ModeSlot.code : ModeSlot → Nat
  | .none => 0
  | .park => 1
  | .standardize => 2
  | .point _ => 3

/-- A mode slot's position. STATUS and the MODE reply send it whatever the slot holds; for NONE, PARK and STANDARDIZE R40,
R187 and 12.3 give it no value, and 0 is the model's choice (log 14). -/
def ModeSlot.pos : ModeSlot → Nat
  | .point p => p
  | .none | .park | .standardize => 0

/-- Status code (12.3). -/
def Status.code : Status → Nat
  | .ok => 0
  | .clamped => 1
  | .busy => 2
  | .unknownKind => 3
  | .badLength => 4
  | .badField => 5
  | .notFound => 6
  | .notValid => 7
  | .activeSlot => 8
  | .state => 9
  | .break_ => 10
  | .timeout => 11
  | .cancelled => 12
  | .nothingPending => 13

/-- Timing of a RESTART PROFILES reply (12.3). -/
def Timing.restartCode : Timing → Nat
  | .none => 0
  | .immediate => 0
  | .atCompletion => 1

/-- Timing of a SELECT reply (12.3). -/
def Timing.selectCode : Timing → Nat
  | .none => 0
  | .immediate => 1
  | .atCompletion => 2

/-- Hole reporting mode. -/
def HoleMode.code : HoleMode → Nat
  | .auto => 0
  | .manual => 1

/-- Request kind, 0x01..0x12 (12.1, 12.2). -/
def RequestKind.code : RequestKind → Nat
  | .status => 0x01
  | .readScan => 0x02
  | .readTrend => 0x03
  | .readPoints => 0x04
  | .readStandardization => 0x05
  | .cancel => 0x06
  | .mode => 0x07
  | .clearFault => 0x08
  | .resume => 0x09
  | .takeCount => 0x0A
  | .restartProfiles => 0x0B
  | .recipeWrite => 0x0C
  | .recipeRead => 0x0D
  | .validate => 0x0E
  | .select => 0x0F
  | .machineWrite => 0x10
  | .machineRead => 0x11
  | .subscribe => 0x12

/-- The request of a kind byte, none when it is no request kind (R182, step 2). -/
def RequestKind.ofCode (kind : Byte) : Option RequestKind :=
  match kind.toNat with
  | 0x01 => some .status
  | 0x02 => some .readScan
  | 0x03 => some .readTrend
  | 0x04 => some .readPoints
  | 0x05 => some .readStandardization
  | 0x06 => some .cancel
  | 0x07 => some .mode
  | 0x08 => some .clearFault
  | 0x09 => some .resume
  | 0x0A => some .takeCount
  | 0x0B => some .restartProfiles
  | 0x0C => some .recipeWrite
  | 0x0D => some .recipeRead
  | 0x0E => some .validate
  | 0x0F => some .select
  | 0x10 => some .machineWrite
  | 0x11 => some .machineRead
  | 0x12 => some .subscribe
  | _ => none

/-- The kind of a notice. -/
def Notice.kind : Notice → NoticeKind
  | .scanDone _ _ _ _ => .scanDone
  | .breakState _ _ _ => .breakState
  | .limit _ _ _ _ => .limit
  | .standardize _ _ _ _ => .standardize
  | .headState _ _ _ _ _ => .headState
  | .headLink _ _ => .headLink
  | .holeReport _ => .holeReport
  | .recipe _ _ _ _ _ => .recipe

/-- The mask bit of a notice kind: bit n for kind 0x81 + n (12.2). -/
def NoticeKind.bit : NoticeKind → Nat
  | .scanDone => 0
  | .breakState => 1
  | .limit => 2
  | .standardize => 3
  | .headState => 4
  | .headLink => 5
  | .holeReport => 6
  | .recipe => 7

end Sys2Proof.Machine
end

