-- ==== Sys2Proof/Machine/Operands.lean ====
section
/-! DEFINITION. The operand forms: the payloads of the requests (12.2), the field groups and the machine
record with their clamping (R160, R165), and the bytes of every reply, notice, sample telegram and head
command (12.3 to 12.6). -/

namespace Sys2Proof.Machine

open Sys2Proof

/-! ## Codes on receipt: none where the code is not listed (R196) -/

/-- A flag byte: 0 clear, 1 set. -/
def flagOf? (n : Nat) : Option Bool :=
  match n with
  | 0 => some false
  | 1 => some true
  | _ => none

/-- A measurement code. -/
def measOf? (n : Nat) : Option Meas :=
  match n with
  | 0 => some .bw
  | 1 => some .moist
  | 2 => some .cal
  | _ => none

/-- A part code. -/
def partOf? (n : Nat) : Option ScanPart :=
  match n with
  | 0 => some .means
  | 1 => some .deviations
  | 2 => some .profile
  | 3 => some .zones
  | _ => none

/-- A field group code. -/
def groupOf? (n : Nat) : Option Group :=
  match n with
  | 0 => some .geometry
  | 1 => some .motion
  | 2 => some .measure
  | 3 => some .edges
  | 4 => some .filter
  | 5 => some .zones
  | 6 => some .brk
  | 7 => some .holes
  | 8 => some .limits
  | _ => none

/-- The code of a field group. -/
def groupCode : Group → Nat
  | .geometry => 0
  | .motion => 1
  | .measure => 2
  | .edges => 3
  | .filter => 4
  | .zones => 5
  | .brk => 6
  | .holes => 7
  | .limits => 8

/-- A polarity code. -/
def polarityOf? (n : Nat) : Option Polarity :=
  match n with
  | 0 => some .high
  | 1 => some .low
  | _ => none

/-- A limit target code. -/
def targetOf? (n : Nat) : Option LimitTarget :=
  match n with
  | 0 => some .end_
  | 1 => some .avg
  | 2 => some .spread
  | 3 => some .zoneMax
  | 4 => some .zoneMin
  | _ => none

/-- The code of a limit target. -/
def targetCode : LimitTarget → Nat
  | .end_ => 0
  | .avg => 1
  | .spread => 2
  | .zoneMax => 3
  | .zoneMin => 4

/-! ## Lengths (R182, step 3) -/

/-- The body length of a field group; a ZONES body depends on the zone count it carries. -/
def groupBodyLength (g : Group) (zoneCount : Nat) : Nat :=
  match g with
  | .geometry => 12
  | .motion => 4
  | .measure => 4
  | .edges => 4
  | .filter => 6
  | .zones => 2 + 4 * zoneCount
  | .brk => 14
  | .holes => 2
  | .limits => 160

/-- A RECIPE WRITE payload has the length of its group; one too short for slot and group, or for a zone
count and its pad, does not, and one with an unknown group passes (R182). -/
def recipeWriteLengthOk (p : List Byte) : Bool :=
  decide (2 ≤ p.length) &&
    (match groupOf? (u8At p 1) with
     | none => true
     | some .zones => decide (4 ≤ p.length) && p.length == 2 + groupBodyLength .zones (u8At p 2)
     | some g => p.length == 2 + groupBodyLength g 0)

/-- The payload length fits the kind (12.2). -/
def lengthOk (k : RequestKind) (p : List Byte) : Bool :=
  match k with
  | .status | .readTrend | .readStandardization | .cancel | .clearFault | .resume | .takeCount
  | .restartProfiles | .machineRead => p.length == 0
  | .readScan => p.length == 14
  | .readPoints => p.length == 4
  | .mode => p.length == 4
  | .recipeWrite => recipeWriteLengthOk p
  | .recipeRead => p.length == 2
  | .validate | .select => p.length == 1
  | .machineWrite => p.length == 28
  | .subscribe => p.length == 4

/-! ## Field groups (R164, R165) -/

/-- Four flag bytes for the detectors. -/
def detFlags? (p : List Byte) (i : Nat) : Option (PerDetector Bool) :=
  match flagOf? (u8At p i), flagOf? (u8At p (i + 1)), flagOf? (u8At p (i + 2)),
    flagOf? (u8At p (i + 3)) with
  | some a, some b, some c, some d => some ⟨a, b, c, d⟩
  | _, _, _, _ => none

/-- One limit entry as carried, ten bytes from an offset (12.2). -/
def limitEntryOf? (p : List Byte) (i : Nat) : Option LimitEntry :=
  match targetOf? (u8At p i), measOf? (u8At p (i + 1)), flagOf? (u8At p (i + 2)),
    flagOf? (u8At p (i + 3)), flagOf? (u8At p (i + 4)) with
  | some t, some m, some b, some c, some r =>
    some ⟨t, m, if b then .low else .high, if c then .signal else .quiet, r, i16At p (i + 6),
      u16At p (i + 8)⟩
  | _, _, _, _, _ => none

/-- The limit entries as carried, all of them or none. -/
def limitEntriesOf? (p : List Byte) (i : Nat) : Nat → Option (List LimitEntry)
  | 0 => some []
  | k + 1 =>
    match limitEntryOf? p i, limitEntriesOf? p (i + 10) k with
    | some e, some l => some (e :: l)
    | _, _ => none

/-- The zone pairs as carried. -/
def zonesOf (p : List Byte) (i : Nat) : Nat → List Zone
  | 0 => []
  | k + 1 => ⟨u16At p i, u16At p (i + 2)⟩ :: zonesOf p (i + 4) k

/-- The values of a field group as carried, its body starting at offset i; none when an enumerated field
holds a value not listed, or the zone count exceeds 128 (R165, step 3). -/
def groupBodyOf? (g : Group) (p : List Byte) (i : Nat) : Option GroupBody :=
  match g with
  | .geometry => some (.geometry ⟨u16At p i, u16At p (i + 2), u16At p (i + 4), u16At p (i + 6),
      u16At p (i + 8), u8At p (i + 10)⟩)
  | .motion => some (.motion ⟨u8At p i, u16At p (i + 2)⟩)
  | .measure => some (.measure ⟨u16At p i, u8At p (i + 2), u8At p (i + 3)⟩)
  | .edges => some (.edges ⟨u16At p i, u8At p (i + 2), u8At p (i + 3)⟩)
  | .filter => some (.filter ⟨u8At p i, u16At p (i + 2), u8At p (i + 4)⟩)
  | .zones => if u8At p i ≤ 128 then some (.zones (zonesOf p (i + 2) (u8At p i))) else none
  | .brk =>
    match detFlags? p i, flagOf? (u8At p (i + 8)), flagOf? (u8At p (i + 9)) with
    | some e, some m, some r =>
      some (.brk ⟨e, ⟨u8At p (i + 4), u8At p (i + 5), u8At p (i + 6), u8At p (i + 7)⟩,
        if m then .confirmed else .strict, r, u16At p (i + 10), u8At p (i + 12)⟩)
    | _, _, _ => none
  | .holes => (flagOf? (u8At p (i + 1))).map (fun m => .holes ⟨u8At p i, if m then .manual else .auto⟩)
  | .limits => (limitEntriesOf? p i Config.limitEntries).map .limits

/-- A limit entry with each numeric field in its range; a limit of −32768 is stored as −32767. -/
def LimitEntry.clamped (e : LimitEntry) : LimitEntry :=
  { e with limit := max (-32767) (min 32767 e.limit), hysteresis := clampNat 0 1000 e.hysteresis }

/-- Every numeric field of a group clamped to its range of R164 (R165, step 4). -/
def GroupBody.clamped : GroupBody → GroupBody
  | .geometry g => .geometry ⟨clampNat 0 65535 g.a, clampNat 0 65535 g.b, clampNat 0 65535 g.origin,
      clampNat 20 2000 g.w, clampNat 4 512 g.n, clampNat 0 8 g.trim⟩
  | .motion m => .motion ⟨clampNat 1 7 m.step, clampNat 100 4000 m.pointSamples⟩
  | .measure m => .measure ⟨clampNat 1 32767 m.threshold, clampNat 1 15 m.minSamples,
      clampNat 0 255 m.stdInterval⟩
  | .edges e => .edges ⟨clampNat 4 4000 e.window, clampNat 1 15 e.lockCount, clampNat 1 15 e.unlockCount⟩
  | .filter f => .filter ⟨clampNat 1 16 f.weight, clampNat 0 32767 f.stepLimit, clampNat 1 15 f.voidLimit⟩
  | .zones z => .zones (z.map (fun x => ⟨clampNat 0 511 x.first, clampNat 0 511 x.last⟩))
  | .brk b => .brk { b with
      debounces := b.debounces.map (clampNat 1 200)
      threadingHold := clampNat 0 600 b.threadingHold
      recoveryScans := clampNat 1 8 b.recoveryScans }
  | .holes h => .holes { h with maxRun := clampNat 1 32 h.maxRun }
  | .limits l => .limits (l.map LimitEntry.clamped)

/-- The fields of a group stored in a recipe (R165, step 5). -/
def Recipe.store (r : Recipe) : GroupBody → Recipe
  | .geometry g => { r with geometry := g }
  | .motion m => { r with motion := m }
  | .measure m => { r with measure := m }
  | .edges e => { r with edges := e }
  | .filter f => { r with filter := f }
  | .zones z => { r with zones := z }
  | .brk b => { r with brk := b }
  | .holes h => { r with holes := h }
  | .limits l => { r with limits := l }

/-- The fields of a group as a recipe holds them (R172). -/
def Recipe.read (r : Recipe) : Group → GroupBody
  | .geometry => .geometry r.geometry
  | .motion => .motion r.motion
  | .measure => .measure r.measure
  | .edges => .edges r.edges
  | .filter => .filter r.filter
  | .zones => .zones r.zones
  | .brk => .brk r.brk
  | .holes => .holes r.holes
  | .limits => .limits r.limits

/-- The group of a body. -/
def GroupBody.group : GroupBody → Group
  | .geometry _ => .geometry
  | .motion _ => .motion
  | .measure _ => .measure
  | .edges _ => .edges
  | .filter _ => .filter
  | .zones _ => .zones
  | .brk _ => .brk
  | .holes _ => .holes
  | .limits _ => .limits

/-- One limit entry as bytes. -/
def LimitEntry.bytes (e : LimitEntry) : List Byte :=
  [byte1 (targetCode e.target), byte1 e.meas.code, flagByte (e.bound == .low),
    flagByte (e.check == .signal), flagByte e.relay, 0] ++ leInt16 e.limit ++ le16 e.hysteresis

/-- A group body as bytes (12.2). -/
def GroupBody.bytes : GroupBody → List Byte
  | .geometry g => le16 g.a ++ le16 g.b ++ le16 g.origin ++ le16 g.w ++ le16 g.n ++ [byte1 g.trim, 0]
  | .motion m => [byte1 m.step, 0] ++ le16 m.pointSamples
  | .measure m => le16 m.threshold ++ [byte1 m.minSamples, byte1 m.stdInterval]
  | .edges e => le16 e.window ++ [byte1 e.lockCount, byte1 e.unlockCount]
  | .filter f => [byte1 f.weight, 0] ++ le16 f.stepLimit ++ [byte1 f.voidLimit, 0]
  | .zones z => [byte1 z.length, 0] ++ z.flatMap (fun x => le16 x.first ++ le16 x.last)
  | .brk b =>
    [flagByte b.enables.wet, flagByte b.enables.press, flagByte b.enables.dry, flagByte b.enables.reel,
      byte1 b.debounces.wet, byte1 b.debounces.press, byte1 b.debounces.dry, byte1 b.debounces.reel,
      flagByte (b.absentMode == .confirmed), flagByte b.autoResume] ++ le16 b.threadingHold
      ++ [byte1 b.recoveryScans, 0]
  | .holes h => [byte1 h.maxRun, byte1 h.mode.code]
  | .limits l => l.flatMap LimitEntry.bytes

/-! ## The machine record (R159, R160) -/

/-- The machine body as carried (12.2); none when a polarity is neither HIGH nor LOW. -/
def machineOf? (p : List Byte) : Option MachineRecord :=
  match polarityOf? (u8At p 24), polarityOf? (u8At p 25), polarityOf? (u8At p 26),
    polarityOf? (u8At p 27) with
  | some a, some b, some c, some d =>
    some { frameLength := u16At p 0, tachIncrement := u32At p 2,
           nominal := ⟨u16At p 6, u16At p 8, u16At p 10⟩, zeroDrift := ⟨u16At p 12, u16At p 14, u16At p 16⟩,
           gainDrift := u16At p 18, stdSamples := u16At p 20, minRunSpeed := u16At p 22,
           polarity := ⟨a, b, c, d⟩ }
  | _, _, _, _ => none

/-- The values std samples may have (R159). -/
def stdSamplesListed (n : Nat) : Bool := n == 64 || n == 128 || n == 256 || n == 512 || n == 1024

/-- Every numeric field of the machine record clamped to its range (R160, step 3). -/
def MachineRecord.clamped (m : MachineRecord) : MachineRecord :=
  { m with
    frameLength := clampNat 4000 60000 m.frameLength
    tachIncrement := clampNat 1 16777216 m.tachIncrement
    nominal := m.nominal.map (clampNat 1 32767)
    zeroDrift := m.zeroDrift.map (clampNat 0 65535)
    gainDrift := clampNat 0 24576 m.gainDrift
    minRunSpeed := clampNat 1 3000 m.minRunSpeed }

/-- The machine body as bytes (12.2). -/
def MachineRecord.bytes (m : MachineRecord) : List Byte :=
  le16 m.frameLength ++ le32 m.tachIncrement ++ le16 m.nominal.bw ++ le16 m.nominal.water
    ++ le16 m.nominal.gap ++ le16 m.zeroDrift.bw ++ le16 m.zeroDrift.water ++ le16 m.zeroDrift.gap
    ++ le16 m.gainDrift ++ le16 m.stdSamples ++ le16 m.minRunSpeed
    ++ [flagByte (m.polarity.wet == .low), flagByte (m.polarity.press == .low),
      flagByte (m.polarity.dry == .low), flagByte (m.polarity.reel == .low)]

/-! ## READ SCAN (R94) -/

/-- What a READ SCAN selects. -/
inductive Selector where
  | newest (minimum : Option (BitVec 16)) (waitLimit : Nat)
  | number (n : BitVec 16)
  deriving DecidableEq, Repr

/-- A READ SCAN's fields; none where R94 refuses with BAD_FIELD. A wait limit is clamped to 1..600 s. -/
def readScanOf? (p : List Byte) : Option (Selector × ScanQuery) :=
  match flagOf? (u8At p 0), measOf? (u8At p 3), partOf? (u8At p 4), flagOf? (u8At p 9) with
  | some byNumber, some m, some part, some minGiven =>
    if u16At p 7 < u16At p 5 then none
    else if byNumber && minGiven then none
    else
      some (if byNumber then .number (BitVec.ofNat 16 (u16At p 1))
            else .newest (if minGiven then some (BitVec.ofNat 16 (u16At p 10)) else none)
              (clampNat 1 600 (u16At p 12)),
        ⟨m, part, u16At p 5, u16At p 7⟩)
  | _, _, _, _ => none

/-! ## Reply payloads (12.3, 12.5) -/

/-- The values of a part of a record's measurement. -/
def MeasRecord.part (m : MeasRecord) : ScanPart → List Val
  | .means => m.means
  | .deviations => m.devs
  | .profile => m.filt
  | .zones => m.zones

/-- How many values a part of a record has: N, or the zone count (R96). -/
def ScanRecord.partSize (r : ScanRecord) : ScanPart → Nat
  | .zones => r.zoneCount
  | .means | .deviations | .profile => r.layout.n

/-- The actual range and its values: first and last truncated to the limit (R96). -/
def ScanRecord.range (r : ScanRecord) (q : ScanQuery) : Nat × Nat × List Val :=
  let size := r.partSize q.part
  if size = 0 then (0, 0, [])
  else
    let first := min q.first (size - 1)
    let last := min q.last (size - 1)
    (first, last, (((r.meas.get q.meas).part q.part).drop first).take (last + 1 - first))

/-- A served READ SCAN's payload, from the held record (12.5). -/
def ScanRecord.bytes (r : ScanRecord) (q : ScanQuery) : List Byte :=
  let m := r.meas.get q.meas
  let rg := r.range q
  [byte1 Status.ok.code] ++ le16 ((r.number.getD 0).toNat) ++ [byte1 r.dir.code, byte1 (Ix4.code r.slot)]
    ++ le16 r.generation.toNat ++ le16 r.layout.n ++ le16 r.layout.w ++ le16 r.layout.origin
    ++ [byte1 r.zoneCount] ++ le32 r.epoch.toNat ++ le32 r.mdStart.toNat ++ le32 r.mdEnd.toNat
    ++ le16 r.speed ++ le16 ((r.edges.map (·.a)).getD 0) ++ le16 ((r.edges.map (·.b)).getD 0)
    ++ [flagByte r.locked, byte1 r.quality.code, byte1 q.meas.code, byte1 q.part.code]
    ++ leVal m.avg ++ leVal m.spread ++ leVal m.slope
    ++ le16 rg.1 ++ le16 rg.2.1 ++ le16 rg.2.2.length ++ rg.2.2.flatMap leVal

/-- The 14 bytes of a hole report; bit 7 of the source byte is the overflow given (12.3). -/
def HoleReport.bytes (r : HoleReport) (bit7 : Bool) : List Byte :=
  (match r.source with
   | .none => [byte1 (0 + 128 * bit7.toNat)] ++ le16 0
   | .scan n => [byte1 (1 + 128 * bit7.toNat)] ++ le16 n.toNat
   | .take => [byte1 (2 + 128 * bit7.toNat)] ++ le16 0)
    ++ le16 r.count ++ [flagByte r.overflow] ++ le32 r.metres.toNat ++ le32 r.mdAt.toNat

/-- A trend entry's 16 bytes. -/
def TrendEntry.bytes (e : TrendEntry) : List Byte :=
  le16 e.number.toNat ++ [byte1 e.dir.code, byte1 e.quality.code] ++ leVal e.avg.bw ++ leVal e.avg.moist
    ++ leVal e.avg.cal ++ le32 e.mdEnd.toNat ++ [0, 0]

/-- A point record's 28 bytes. -/
def PointRecord.bytes (r : PointRecord) : List Byte :=
  le16 r.number.toNat ++ le16 r.p ++ le32 r.mdStart.toNat ++ le32 r.md.toNat ++ le16 r.speed
    ++ le32 r.epoch.toNat ++ le16 r.accepted ++ leVal r.avg.bw ++ leVal r.avg.moist ++ leVal r.avg.cal
    ++ [byte1 r.quality.code, 0]

/-- The STATUS payload after the status (12.2). With no slot ACTIVE the generation is 0, with no record held the held scan
number is 0, and with a mode slot other than POINT the position is 0: the manual gives these no value, and 0 is the
model's choice (log 14). -/
def StatusReport.bytes (r : StatusReport) : List Byte :=
  [byte1 r.head.code, byte1 (legOrPhase r.head r.phase), byte1 r.cause.code, byte1 r.brk.code,
    byte1 r.causes.code] ++ le16 r.breakCount ++ [byte1 r.link.code, flagByte r.locked]
    ++ le16 r.newest.toNat ++ le32 r.epoch.toNat ++ [flagByte (standardized r.epoch)] ++ le16 r.speed
    ++ [flagByte r.tachHeld, byte1 (slotCode (r.active.map (·.1)))]
    ++ le16 ((r.active.map (fun x => x.2.toNat)).getD 0)
    ++ [byte1 (slotCode r.pending), byte1 r.ownSlot.code] ++ le16 r.ownSlot.pos
    ++ [flagByte r.ownHold.isSome] ++ le16 ((r.ownHold.map (·.toNat)).getD 0)
    ++ [flagByte r.ownPending, flagByte r.ownDropped]

/-- The READ STANDARDIZATION payload after the status. -/
def StdReport.bytes (r : StdReport) : List Byte :=
  le16 r.consts.zero.bw ++ le16 r.consts.gain.bw ++ le16 r.consts.zero.water ++ le16 r.consts.gain.water
    ++ le16 r.consts.zero.gap ++ le16 r.consts.gain.gap ++ le32 r.epoch.toNat
    ++ [flagByte (standardized r.epoch), byte1 r.phase.code]
    ++ le16 r.cand.bw.z ++ le16 r.cand.bw.refMean ++ le32 r.cand.bw.g
    ++ le16 r.cand.water.z ++ le16 r.cand.water.refMean ++ le32 r.cand.water.g
    ++ le16 r.cand.gap.z ++ le16 r.cand.gap.refMean ++ le32 r.cand.gap.g
    ++ [byte1 r.outcome.code, byte1 r.reasons.bw.code, byte1 r.reasons.water.code,
      byte1 r.reasons.gap.code, byte1 r.failCount, flagByte r.stdDue, byte1 r.scanCounter]

/-- The settings a SUBSCRIBE reply carries. -/
def Subscription.bytes (x : Subscription) : List Byte :=
  le16 x.mask.toNat ++ [flagByte x.limitEvery, flagByte x.linkEvery]

/-- A reply's payload; a served READ SCAN is read from the record it holds (R93, R185). -/
def ReplyBody.bytes (ring : Ring) : ReplyBody → List Byte
  | .status c => [byte1 c.code]
  | .report r => byte1 Status.ok.code :: r.bytes
  | .scan i q => (ring.at i).bytes q
  | .timeout n => byte1 Status.timeout.code :: le16 n.toNat
  | .trend n es => [byte1 Status.ok.code] ++ le16 n.toNat ++ [byte1 es.length] ++ es.flatMap TrendEntry.bytes
  | .points c n rs => [byte1 c.code] ++ le16 n.toNat ++ [byte1 rs.length] ++ rs.flatMap PointRecord.bytes
  | .standardization r => byte1 Status.ok.code :: r.bytes
  | .mode c m => [byte1 c.code, byte1 m.code, 0] ++ le16 m.pos
  | .takeCount m r n o => [byte1 Status.ok.code, byte1 m.code] ++ r.bytes o ++ le16 n
  | .restart t => [byte1 Status.ok.code, byte1 t.restartCode]
  | .select t => [byte1 Status.ok.code, byte1 t.selectCode]
  | .failedCheck n => [byte1 Status.notValid.code, byte1 n]
  | .recipeWrite c st i b =>
    [byte1 c.code, byte1 st.code, byte1 (Ix4.code i), byte1 (groupCode b.group)] ++ b.bytes
  | .recipeRead st g i b =>
    [byte1 Status.ok.code, byte1 st.code] ++ le16 g.toNat
      ++ [byte1 (Ix4.code i), byte1 (groupCode b.group)] ++ b.bytes
  | .machine c set r => [byte1 c.code, flagByte set] ++ r.bytes
  | .subscription x => byte1 Status.ok.code :: x.bytes

/-! ## Notice payloads (12.5) -/

/-- The wire code of a notice kind (12.1). -/
def NoticeKind.code (k : NoticeKind) : Nat := 0x81 + k.bit

/-- A notice's payload. -/
def Notice.bytes : Notice → List Byte
  | .scanDone n d q avg =>
    le16 n.toNat ++ [byte1 d.code, byte1 q.code] ++ leVal avg.bw ++ leVal avg.moist ++ leVal avg.cal
  | .breakState st c n => [byte1 st.code, byte1 c.code] ++ le16 n
  | .limit ss last entering n =>
    ss.map (fun x => byte1 x.code) ++ [byte1 last, flagByte entering] ++ le16 n.toNat
  | .standardize o r e n =>
    [byte1 o.code, byte1 r.bw.code, byte1 r.water.code, byte1 r.gap.code] ++ le32 e.toNat ++ [byte1 n]
  | .headState h p c g pos =>
    [byte1 h.code, byte1 (legOrPhase h p), byte1 c.code, byte1 g.code, byte1 (slotCode g.station)]
      ++ le16 g.p ++ le16 pos.toNat
  | .headLink st n => [byte1 st.code, byte1 n]
  | .holeReport r => r.bytes false
  | .recipe c ss a p m =>
    [byte1 c.code] ++ ([ss.x0, ss.x1, ss.x2, ss.x3].flatMap (fun x => byte1 x.1.code :: le16 x.2.toNat))
      ++ [byte1 (slotCode a), byte1 (slotCode p), flagByte m]

/-! ## Telegrams (12.1, 12.6) -/

/-- A whole station telegram: kind, tag, length, payload, check (R176). -/
def telegramBytes (kind tag : Byte) (payload : List Byte) : List Byte :=
  let body := [kind, tag] ++ le16 payload.length ++ payload
  body ++ le16 (crc16 body).toNat

/-- The kind byte of a reply: the request's kind with 0x40 added, 0x40 for UNKNOWN_KIND (R196). -/
def Reply.kindByte (r : Reply) : Byte :=
  byte1 (match r.kind with
    | none => 0x40
    | some k => 0x40 + k.code)

/-- The characters in which a telegram's bytes are sent: the mark bit set on the first and clear on every
other, each with its stop bit (R175, R197). -/
def sentCharacters : List Byte → List Character
  | [] => []
  | b :: rest => ⟨true, false, b⟩ :: rest.map (fun x => ⟨false, false, x⟩)

/-- The telegram that a port's transmitter is sending, character by character (R175, R176, R185, R196); none
while it is idle. -/
def Port.txTelegram (ring : Ring) (p : Port) : Option (List Character) :=
  match p.tx with
  | .idle => none
  | .reply =>
    p.replies.head?.map (fun r => sentCharacters (telegramBytes r.kindByte r.tag (r.body.bytes ring)))
  | .notice =>
    p.notices.head?.map
      (fun e => sentCharacters (telegramBytes (byte1 e.content.kind.code) 0 e.content.bytes))

/-- The first eight bytes of a sample telegram, those its check covers (R1, R197). -/
def sampleCovered (t : SampleTelegram) : List Byte :=
  [t.seq, t.flags] ++ le16 t.bwRaw.toNat ++ le16 t.waterRaw.toNat ++ le16 t.gapRaw.toNat

/-- The sample telegram that ten received bytes are. -/
def sampleTelegramOf (b : List Byte) : SampleTelegram :=
  { seq := b.getD 0 0, flags := b.getD 1 0, bwRaw := BitVec.ofNat 16 (u16At b 2),
    waterRaw := BitVec.ofNat 16 (u16At b 4), gapRaw := BitVec.ofNat 16 (u16At b 6),
    check := BitVec.ofNat 16 (u16At b 8) }

/-- The check of a sample telegram is correct (R1). -/
def sampleCheckOk (t : SampleTelegram) : Bool := crc16 (sampleCovered t) == t.check

/-- The raw values, OK flags and REF_IN_PLACE of a sample telegram; flag bits 4 to 7 are ignored (R197). -/
def sampleRaw (t : SampleTelegram) : RawSample :=
  { value := ⟨t.bwRaw.toNat, t.waterRaw.toNat, t.gapRaw.toNat⟩,
    ok := ⟨t.flags.getLsbD 0, t.flags.getLsbD 1, t.flags.getLsbD 2⟩,
    refInPlace := t.flags.getLsbD 3 }

/-- The bytes of a head command: the command byte and its check (R197). -/
def headCommandBytes (c : HeadCommand) : List Byte :=
  let b : Byte := match c with
    | .refIn => 0xA1
    | .refOut => 0xA2
  b :: le16 (crc16 [b]).toNat

/-- The telegram a station's transmitter is sending, read from the whole state. -/
def State.txTelegram (s : State) (st : Station) : Option (List Character) :=
  (s.ports.get st).txTelegram s.ring

/-- The telegram that the head link's return direction is sending: the mark bit set on the command byte and
clear on the check (R6, R197); none while the direction is idle. -/
def State.headTx (s : State) : Option (List Character) :=
  s.link.sending.map (fun c => sentCharacters (headCommandBytes c))

end Sys2Proof.Machine
end

