-- ==== Sys2Proof/Machine/Ports.lean ====
section
/-! DEFINITION. The station ports' queues: replies, notices, holds, the transmitter's choice
(R93, R184, R185, R190 to R193). -/

namespace Sys2Proof.Machine

open Sys2Proof

/-- One port changed. -/
def State.onPort (s : State) (st : Station) (f : Port → Port) : State :=
  s.setPorts (s.ports.set st (f (s.ports.get st)))

/-- Every port changed alike. -/
def State.onPorts (s : State) (f : Port → Port) : State := s.setPorts (s.ports.map f)

/-- The reply queue's count, the pending request counted as one (R184). -/
def Port.count (p : Port) : Nat := p.replies.length + p.pending.isSome.toNat

/-- A reply at the back of the queue (R184). -/
def Port.queueReply (p : Port) (r : Reply) : Port := { p with replies := p.replies ++ [r] }

/-- A reply queued for a station: kind of the request, its tag, the content. -/
def State.reply (s : State) (st : Station) (k : RequestKind) (tag : Byte) (b : ReplyBody) : State :=
  s.onPort st (fun p => p.queueReply ⟨some k, tag, b⟩)

/-- The edge option of a kind admits the notice (R191). -/
def Subscription.admits (x : Subscription) : Notice → Bool
  | .limit _ _ entering _ => x.limitEvery || entering
  | .headLink st _ => x.linkEvery || st == .lost
  | .scanDone _ _ _ _ | .breakState _ _ _ | .standardize _ _ _ _ | .headState _ _ _ _ _
  | .holeReport _ | .recipe _ _ _ _ _ => true

/-- The kind is in a station's mask. -/
def Subscription.includes (x : Subscription) (k : NoticeKind) : Bool := x.mask.getLsbD k.bit

/-- A port takes a notice (R190). -/
def Port.takes (p : Port) (n : Notice) : Bool :=
  p.present && (n.kind == .breakState || p.sub.includes n.kind) && p.sub.admits n

/-- A waiting entry of the kind replaced in place, or a new entry at the back (R192). -/
def replaceOrAppend (n : Notice) : List NoticeEntry → List NoticeEntry
  | [] => [⟨n, none⟩]
  | e :: rest => if e.content.kind = n.kind then ⟨n, none⟩ :: rest else e :: replaceOrAppend n rest

/-- A taken notice in the queue: an entry being sent keeps its content and holds the notice as its
follow-up content (R192, R193). -/
def Port.enqueue (p : Port) (n : Notice) : Port :=
  match p.tx, p.notices with
  | .notice, e :: rest =>
    if e.content.kind = n.kind then { p with notices := ⟨e.content, some n⟩ :: rest }
    else { p with notices := e :: replaceOrAppend n rest }
  | _, _ => { p with notices := replaceOrAppend n p.notices }

/-- A notice offered to one port. -/
def Port.offer (n : Notice) (p : Port) : Port := if p.takes n then p.enqueue n else p

/-- A notice offered to each of the four ports (R190). -/
def State.offer (s : State) (n : Notice) : State := s.onPorts (Port.offer n)

/-- The transmitter's choice when it is idle: the oldest reply, else the oldest notice (R185). -/
def Port.choose (p : Port) : Port :=
  match p.tx with
  | .idle =>
    if p.replies.isEmpty then (if p.notices.isEmpty then p else { p with tx := .notice })
    else { p with tx := .reply }
  | .reply | .notice => p

/-- At the end of a step every idle transmitter chooses (log 7). -/
def State.settle (s : State) : State := s.onPorts Port.choose

/-- The station is in the hold set of some record (R93). -/
def Ring.holdsFor (r : Ring) (st : Station) : Option ScanRecord :=
  r.records.find? (fun x => x.holds.get st)

/-- The station leaves every hold set (R93). -/
def Ring.release (r : Ring) (st : Station) : Ring :=
  { r with records := r.records.map (fun x => { x with holds := x.holds.set st false }) }

/-- The station enters the hold set of the record at an index. -/
def Ring.hold (r : Ring) (i : Nat) (st : Station) : Ring :=
  r.modify i (fun x => { x with holds := x.holds.set st true })

/-- A READ SCAN served from the record at an index: the reply queued, the station in its hold set
(R93, R95). -/
def State.serveScan (s : State) (st : Station) (tag : Byte) (q : ScanQuery) (i : Nat) : State :=
  (s.setRing (s.ring.hold i st)).reply st .readScan tag (.scan i q)

/-- A pending READ SCAN ends with a reply; its wait timer stops with it (R98 to R101). -/
def State.endPending (s : State) (st : Station) (b : ReplyBody) : State :=
  match (s.ports.get st).pending with
  | none => s
  | some r => (s.onPort st (fun p => { p with pending := none })).reply st .readScan r.tag b

/-- Every pending READ SCAN ends with reply BREAK (R99). -/
def State.endPendingByBreak (s : State) : State :=
  (((s.endPending .n0 (.status .break_)).endPending .n1 (.status .break_)).endPending .n2
    (.status .break_)).endPending .n3 (.status .break_)

/-- A pending READ SCAN whose minimum newest has reached is served from the record at an index (R98). -/
def State.servePending (s : State) (i : Nat) (st : Station) : State :=
  match (s.ports.get st).pending with
  | none => s
  | some r =>
    if aheadBy r.minimum s.ring.newest ≤ 0 then
      (s.onPort st (fun p => { p with pending := none })).serveScan st r.tag r.query i
    else s

/-- The last character of the telegram being sent has gone (R185, R193). -/
def Port.lastCharacter (p : Port) : Port :=
  match p.tx with
  | .idle => p
  | .reply => { p with replies := p.replies.tail, tx := .idle }
  | .notice =>
    match p.notices with
    | [] => { p with tx := .idle }
    | e :: rest =>
      { p with
        tx := .idle
        notices := match e.followUp with
          | none => rest
          | some n => rest ++ [⟨n, none⟩] }

/-- The telegram being sent is a served READ SCAN reply. -/
def Port.sendsScan (p : Port) : Bool :=
  match p.tx, p.replies with
  | .reply, r :: _ =>
    match r.body with
    | .scan _ _ => true
    | _ => false
  | _, _ => false

/-- What a SUBSCRIBE does to the notice queue: a waiting entry whose kind leaves the mask is removed, one
being sent loses its follow-up; BREAK_STATE entries stay (R194). -/
def Port.resubscribe (p : Port) (x : Subscription) : Port :=
  let stays (e : NoticeEntry) : Bool := e.content.kind == .breakState || x.includes e.content.kind
  { p with
    sub := x
    notices := match p.tx, p.notices with
      | .notice, e :: rest => (if stays e then e else { e with followUp := none }) :: rest.filter stays
      | _, l => l.filter stays }

/-- What a station's absence leaves of its port; the receiver stays as it is (R181, R195). -/
def Port.tornDown (p : Port) : Port :=
  { Port.reset with rx := p.rx, gapTimer := p.gapTimer }

end Sys2Proof.Machine
end

