-- ==== Sys2Proof/Machine/Detect.lean ====
section
/-! DEFINITION. Conversion of an accepted sample (R7, R8), and what the absent detector and the hole
detector make of it (R121 to R124, R142 to R145). -/

namespace Sys2Proof.Machine

open Sys2Proof

/-! ## Conversion -/

/-- One converted value (R7). -/
def convertChannel (z g raw : Nat) (ok : Bool) : Option Nat :=
  if !ok then none
  else if raw ≤ z then some 0
  else some (min 32767 (roundHalfUp ((raw - z) * g) 16384))

/-- The present threshold: the ACTIVE recipe's, 1 while none is ACTIVE (R8). -/
def State.presentThreshold (s : State) : Nat :=
  match s.activeRecipe with
  | none => 1
  | some r => r.measure.threshold

/-- The moisture of a sample (R8). -/
def moistureOf (threshold : Nat) (bw water : Option Nat) : Option Nat :=
  match bw, water with
  | some b, some w => if b < threshold then none else some (min 10000 (roundHalfUp (w * 10000) b))
  | _, _ => none

/-- The class of a sample: present when bw is valid and at or above the threshold (R8). -/
def presentOf (threshold : Nat) (bw : Option Nat) : Bool :=
  match bw with
  | none => false
  | some b => decide (threshold ≤ b)

/-- The converted sample of an accepted sample (R7 to R9). -/
def State.convert (s : State) (t : SampleTelegram) : Sample :=
  let c := s.conv.consts
  let raw := sampleRaw t
  let bw := convertChannel c.zero.bw c.gain.bw raw.value.bw raw.ok.bw
  let water := convertChannel c.zero.water c.gain.water raw.value.water raw.ok.water
  { bw := bw, water := water, moist := moistureOf s.presentThreshold bw water,
    cal := convertChannel c.zero.gap c.gain.gap raw.value.gap raw.ok.gap,
    present := presentOf s.presentThreshold bw, pos := s.head.position.toNat, epoch := s.conv.epoch }

/-! ## Assessment (R121) -/

/-- The head is in a measuring state: SCANNING on any leg, or SINGLE_POINT. -/
def HeadState.measuring : HeadState → Bool
  | .scanning _ => true
  | .singlePoint => true
  | .homing | .parked | .standardizing | .positioning | .returning | .fault => false

/-- The conditions of R121 other than the sample's own position. -/
def State.assessingNow (s : State) : Bool :=
  s.head.state.measuring && s.link.state == .sync && s.edges.locked && s.speed.atSpeed

/-- A position lies inside the locked interval, both ends included (R56). -/
def EdgeTracker.inside (e : EdgeTracker) (pos : Nat) : Bool :=
  e.locked &&
    match e.lockedEdges with
    | none => false
    | some x => decide (x.a ≤ pos) && decide (pos ≤ x.b)

/-- The position that R121 tests: the sample's, in SINGLE_POINT the point position P. -/
def State.assessPos (s : State) (pos : Nat) : Nat :=
  match s.head.state with
  | .singlePoint => s.head.pointPos
  | .homing | .parked | .standardizing | .scanning _ | .positioning | .returning | .fault => pos

/-- A sample latched at a position is assessed (R121, R142). -/
def State.assesses (s : State) (pos : Nat) : Bool := s.assessingNow && s.edges.inside (s.assessPos pos)

/-- The end of a stretch (R143). -/
def Hole.endStretch (h : Hole) : Hole := { h with run := 0, marker := false }

/-- The hole detector's stretch ends. -/
def State.endStretch (s : State) : State := s.setHole s.hole.endStretch

/-- Assessment stops: the absence counts and the flag clear, the stretch ends (R124, R143). -/
def State.stopAssessment (s : State) : State := (s.setAbsent .clear).endStretch

/-! ## The absent detector (R122, R123) -/

/-- One converted sample; the window's end is judged by absentWindowEnd. The detector is set assessing by the first accepted
sample taken while the conditions of R121 other than its position hold, inside the interval or outside: R121 and R124
leave the moment open, and this one is the model's choice (log 28). -/
def State.absentTake (s : State) (x : Sample) : State :=
  if s.assesses x.pos then
    s.setAbsent { s.absent with
      assessing := true
      assessed := s.absent.assessed + 1
      present := s.absent.present + x.present.toNat }
  else s.setAbsent { s.absent with assessing := s.assessingNow }

/-- What a window end comes to (R123): whether SHEET_ABSENT is declared, and the flag after. -/
def absentJudge (mode : Option AbsentMode) (short flag : Bool) : Bool × Bool :=
  match mode with
  | none => (false, false)
  | some .strict => (short, false)
  | some .confirmed => (short && flag, short && !flag)

/-- The absent mode of the ACTIVE recipe. -/
def State.absentMode (s : State) : Option AbsentMode := s.activeRecipe.map (fun r => r.brk.absentMode)

/-- The judgement of the window that the assessed samples now fill (R122, R123). -/
def State.absentVerdict (s : State) : Bool × Bool :=
  absentJudge s.absentMode (decide (s.absent.present < Config.shortBelow)) s.absent.short

/-- The counts of the next window and the flag after a window end. -/
def State.absentNextWindow (s : State) : State :=
  s.setAbsent { s.absent with assessed := 0, present := 0, short := s.absentVerdict.2 }

/-- The assessed samples fill a window. -/
def Absent.full (a : Absent) : Bool := decide (Config.absentWindow ≤ a.assessed)

/-! ## The hole detector (R144, R145) -/

/-- A hole found (R145). -/
def Hole.found (h : Hole) : Hole :=
  if h.counter < Config.hold16 then { h with counter := h.counter + 1 } else { h with overflow := true }

/-- One assessed sample (R144). -/
def Hole.take (h : Hole) (maxRun : Nat) (present : Bool) : Hole :=
  if present then
    if !h.marker then { h with marker := true, run := 0 }
    else if 1 ≤ h.run ∧ h.run ≤ maxRun then { h.found with run := 0 }
    else { h with run := 0 }
  else if h.marker then { h with run := min Config.holeRunHold (h.run + 1) }
  else h

/-- One converted sample: assessed, or outside the interval while assessing, which ends the stretch, or
without effect (R142, R143). -/
def State.holeTake (s : State) (x : Sample) : State :=
  if s.assesses x.pos then s.setHole (s.hole.take s.recipe.holes.maxRun x.present)
  else if s.assessingNow then s.endStretch
  else s

/-! ## Hole reports (R147, R150) -/

/-- The report a transfer makes now (R147). -/
def State.holeReportNow (s : State) (src : ReportSource) : HoleReport :=
  { source := src, count := s.hole.counter, overflow := s.hole.overflow,
    metres := s.mdMetres - s.hole.mdMark, mdAt := s.mdMetres }

/-- A transfer: the report becomes the last report, the mark moves, counter and flag return to 0 (R147). -/
def State.holeTransfer (s : State) (src : ReportSource) : State :=
  s.setHole { s.hole with
    counter := 0
    overflow := false
    mdMark := s.mdMetres
    last := s.holeReportNow src }

end Sys2Proof.Machine
end

