-- ==== Sys2Proof/Machine/Edges.lean ====
section
/-! DEFINITION. The edge tracker (R48 to R58) and the bin accumulator (R59 to R63). -/

namespace Sys2Proof.Machine

open Sys2Proof

/-! ## Edges of one scan -/

/-- One sample of the scan sequence (R49). -/
def EdgeRun.take (r : EdgeRun) (present : Bool) (pos : Nat) : EdgeRun :=
  if !present then { r with len := 0 }
  else if r.len = 0 then { r with len := 1, start := pos }
  else if r.len + 1 < Config.edgeConfirm then { r with len := r.len + 1 }
  else
    { r with
      len := Config.edgeConfirm
      leading := if r.len < Config.edgeConfirm ∧ r.leading = none then some r.start else r.leading
      trailing := some pos }

/-- The found edges by the scan's direction; void when there is no qualifying run (R50). -/
def EdgeRun.resolve (r : EdgeRun) (dir : ScanDir) : Option Edges :=
  match r.leading, r.trailing with
  | some l, some t =>
    match dir with
    | .fwd => some ⟨l, t⟩
    | .rev => some ⟨t, l⟩
  | _, _ => none

/-! ## The edge lock -/

/-- The expected edges of a completing scan (R52). -/
def EdgeTracker.expected (e : EdgeTracker) : Option Edges := if e.locked then e.lockedEdges else e.previous

/-- A completed scan is in window (R52). -/
def inWindow (expected found : Option Edges) (window : Nat) : Bool :=
  match expected, found with
  | some x, some y => decide (distance y.a x.a ≤ window) && decide (distance y.b x.b ≤ window)
  | _, _ => false

/-- The lock's update at a completion (R53, R54). -/
def EdgeTracker.judge (e : EdgeTracker) (cfg : EdgeCfg) (found : Option Edges) : EdgeTracker :=
  let hit := inWindow e.expected found cfg.window
  let e' :=
    if e.locked then
      if hit then { e with outCount := 0, lockedEdges := found }
      else if cfg.unlockCount ≤ e.outCount + 1 then
        { e with locked := false, lockedEdges := none, inCount := 0, outCount := 0 }
      else { e with outCount := e.outCount + 1 }
    else if hit then
      if cfg.lockCount ≤ e.inCount + 1 then
        { e with locked := true, lockedEdges := found, inCount := 0, outCount := 0 }
      else { e with inCount := e.inCount + 1 }
    else { e with inCount := 0 }
  { e' with previous := found }

/-- What a profile restart does to the tracker; the run state stays (R57). -/
def EdgeTracker.restart (e : EdgeTracker) : EdgeTracker :=
  { e with locked := false, lockedEdges := none, previous := none, inCount := 0, outCount := 0 }

/-- The tracker changed; a withdrawal of the locked interval stops assessment (R56, R124). -/
def State.updateEdges (s : State) (e : EdgeTracker) : State :=
  if s.edges.locked && !e.locked then (s.setEdges e).stopAssessment else s.setEdges e

/-- One converted sample while a scan is in progress (R48, R49). -/
def State.edgeTake (s : State) (x : Sample) : State :=
  if s.head.scan.isSome then s.setEdges { s.edges with run := s.edges.run.take x.present x.pos } else s

/-! ## Bins -/

/-- The bin that a position falls in (R59). -/
def Geometry.binOf (g : Geometry) (pos : Nat) : Option Nat :=
  if g.origin ≤ pos ∧ pos < g.origin + g.n * g.w then some ((pos - g.origin) / g.w) else none

/-- A present sample's valid values in a bin's sums (R60). -/
def BinSums.add (b : BinSums) (x : Sample) : BinSums :=
  ⟨b.bw.add Config.hold16 x.bw, b.moist.add Config.hold16 x.moist, b.cal.add Config.hold16 x.cal⟩

/-- One converted sample while a scan is in progress (R60). -/
def State.binTake (s : State) (x : Sample) : State :=
  if s.head.scan.isSome && x.present then
    match s.recipe.geometry.binOf x.pos with
    | none => s
    | some i => s.setBins (s.bins.modify i (BinSums.add · x))
  else s

/-- Empty sums for N bins (R61). -/
def emptyBins (n : Nat) : List BinSums := List.replicate n ⟨.zero, .zero, .zero⟩

/-- Bin i is in-sheet for the found edges (R62). -/
def Geometry.inSheet (g : Geometry) (found : Option Edges) (i : Nat) : Bool :=
  match found with
  | none => false
  | some e =>
    decide ((e.a : Int) + g.trim * g.w ≤ (g.origin : Int) + i * g.w)
      && decide ((g.origin : Int) + (i + 1) * g.w - 1 ≤ (e.b : Int) - g.trim * g.w)

/-- The in-sheet marks of the N bins (R62). -/
def Geometry.marks (g : Geometry) (found : Option Edges) : List Bool :=
  (List.range g.n).map (g.inSheet found)

end Sys2Proof.Machine
end

