-- ==== Sys2Proof/Machine/ProfileUnit.lean ====
section
/-! DEFINITION. The profile arithmetic (R65 to R86). -/

namespace Sys2Proof.Machine

open Sys2Proof

/-! ## Means, average, slope, correction, deviation -/

/-- A bin mean (R66). -/
def binMean (marked : Bool) (minSamples : Nat) (sc : SumCount) : Val :=
  if marked && decide (minSamples ≤ sc.count) then some (roundHalfUp sc.sum sc.count) else none

/-- The scan average of the bin means, n bins being in-sheet (R67). -/
def scanAverage (means : List Val) (n : Nat) : Val :=
  let v := (validOf means).length
  if v = 0 ∨ 2 * v < n then none else some (roundHalfUp (sumInt (validOf means)).toNat v)

/-- The slope term: none where it is withheld (R69). -/
def slopeTerm (continuity : Bool) (prev avg : Val) : Option Int :=
  match continuity, prev, avg with
  | true, some p, some a => some (saturate (a - p))
  | _, _, _ => none

/-- The measurement order of bin i (R70). -/
def orderOf (dir : ScanDir) (n i : Nat) : Nat :=
  match dir with
  | .fwd => i
  | .rev => n - 1 - i

/-- The correction of bin i (R70). -/
def correction (dir : ScanDir) (n : Nat) (slope : Int) (i : Nat) : Int :=
  roundHalfAway (slope * (2 * (orderOf dir n i : Int) - ((n : Int) - 1))) (2 * (n - 1))

/-- The deviation of a bin (R71). -/
def deviation (mean avg : Val) (c : Int) : Val :=
  match mean, avg with
  | some m, some a => some (saturate (m - a - c))
  | _, _ => none

/-! ## The filter -/

/-- The sign of a nonzero error (R74). -/
def signOf (e : Int) : StepSign := if 0 < e then .plus else .minus

/-- The normal update (R75). -/
def normalUpdate (weight : Nat) (f e : Int) : Int := f + roundHalfAway (e * weight) 16

/-- One bin of the filter from its deviation (R72 to R75). -/
def FilterBin.update (cfg : FilterCfg) (b : FilterBin) (d : Val) : FilterBin :=
  match d, b.value with
  | none, none => { b with age := min 15 (b.age + 1) }
  | none, some _ =>
    if cfg.voidLimit ≤ min 15 (b.age + 1) then ⟨none, .none, min 15 (b.age + 1)⟩
    else { b with age := min 15 (b.age + 1) }
  | some x, none => ⟨some x, .none, 0⟩
  | some x, some f =>
    if cfg.stepLimit = 0 ∨ (x - f).natAbs ≤ cfg.stepLimit then
      ⟨some (normalUpdate cfg.weight f (x - f)), .none, 0⟩
    else if b.sign = signOf (x - f) then ⟨some x, .none, 0⟩
    else ⟨some (normalUpdate cfg.weight f (x - f)), signOf (x - f), 0⟩

/-- The filter of one measurement at a completion. -/
def filterStep (cfg : FilterCfg) (filter : List FilterBin) (devs : List Val) : List FilterBin :=
  List.zipWith (FilterBin.update cfg) filter devs

/-! ## Zones and spread -/

/-- A zone value from the filtered values (R77). -/
def zoneValue (filt : List Val) (z : Zone) : Val :=
  let b := z.last + 1 - z.first
  let valid := validOf ((filt.drop z.first).take b)
  if valid.length = 0 ∨ 2 * valid.length < b then none
  else some (roundHalfAway (sumInt valid) valid.length)

/-- The larger of the values of a list and a start. -/
def maxInt (x : Int) (l : List Int) : Int := l.foldl max x

/-- The smaller of the values of a list and a start. -/
def minInt (x : Int) (l : List Int) : Int := l.foldl min x

/-- The spread of the filtered values (R78). -/
def spreadOf (filt : List Val) : Val :=
  match validOf filt with
  | [] => none
  | x :: l => some (min 32767 (maxInt x l - minInt x l))

/-! ## One measurement at a completion (R65, steps 1 to 9) -/

/-- The bin means of one measurement (R66). -/
def meansOf (r : Recipe) (marks : List Bool) (sums : List SumCount) : List Val :=
  List.zipWith (fun m sc => binMean m r.measure.minSamples sc) marks sums

/-- The deviations of one measurement (R70, R71). -/
def deviationsOf (dir : ScanDir) (n : Nat) (slope : Int) (avg : Val) (means : List Val) : List Val :=
  means.mapIdx (fun i m => deviation m avg (correction dir n slope i))

/-- What the profile unit forms for one measurement: its record, its filter after, and whether the slope
term was withheld. -/
structure MeasResult where
  record : MeasRecord
  filter : List FilterBin
  withheld : Bool
  deriving DecidableEq, Repr

/-- One measurement's work at a completion. -/
def measWork (r : Recipe) (dir : ScanDir) (marks : List Bool) (continuity : Bool)
    (prev : Val) (filter : List FilterBin) (sums : List SumCount) : MeasResult :=
  let means := meansOf r marks sums
  let avg := scanAverage means (marks.countP id)
  let slope := slopeTerm continuity prev avg
  let devs := deviationsOf dir r.geometry.n (slope.getD 0) avg means
  let filter' := filterStep r.filter filter devs
  let filt := filter'.map (·.value)
  { record :=
      { avg := avg, means := means, devs := devs, filt := filt, zones := r.zones.map (zoneValue filt),
        spread := spreadOf filt, slope := some (slope.getD 0) }
    filter := filter'
    withheld := slope.isNone }

/-! ## Profile restart (R81, R82) -/

/-- A fresh filter for a bin count. -/
def freshFilter (n : Nat) : PerMeas (List FilterBin) :=
  ⟨List.replicate n .fresh, List.replicate n .fresh, List.replicate n .fresh⟩

/-- What a restart does to the profile unit (R81); filter layout and deferred flag stay. -/
def Profile.restart (p : Profile) : Profile :=
  { p with
    filter := freshFilter ((p.layout.map (·.n)).getD 0)
    prevAvg := ⟨none, none, none⟩
    continuity := false }

/-- A profile restart, with the edge tracker (R57, R81). -/
def State.profileRestart (s : State) : State :=
  (s.setProfile s.profile.restart).updateEdges s.edges.restart

/-- The continuity marker cleared (R68). -/
def State.clearContinuity (s : State) : State := s.setProfile { s.profile with continuity := false }

/-- A waiting restart applied at an abort (R82). -/
def State.deferredAtAbort (s : State) : State :=
  if s.profile.deferred then
    (s.setProfile { s.profile with deferred := false }).profileRestart
  else s

/-- The profile unit's part of an activation: a restart under a changed layout, else the marker cleared
(R84). -/
def State.profileActivation (s : State) (l : Layout) : State :=
  if s.profile.layout = some l then s.clearContinuity
  else (s.setProfile { s.profile with layout := some l }).profileRestart

end Sys2Proof.Machine
end

