-- ==== Sys2Proof/Machine/RingOps.lean ====
section
/-! DEFINITION. Adoption of a pending set (R10), the profile ring and the trend list (R87 to R92, R98,
R104), the point accumulator and the point ring (R106 to R108). -/

namespace Sys2Proof.Machine

open Sys2Proof

/-! ## Adoption (R10) -/

/-- The epoch after an adoption; 0 is kept for the state after device reset (R10). -/
def nextEpoch (e : Word) : Word := if e + 1 = 0 then 1 else e + 1

/-- A boundary: a held pending set becomes the set in force (R10). -/
def State.adopt (s : State) : State :=
  match s.conv.pendingSet with
  | none => s
  | some c => s.setConv { consts := c, epoch := nextEpoch s.conv.epoch, pendingSet := none }

/-- The pending set is discarded (R19, R20). -/
def State.dropPendingSet (s : State) : State := s.setConv { s.conv with pendingSet := none }

/-! ## Picking and writing the record of a scan start (R89) -/

/-- The record may be picked at once: FREE or VOID. -/
def ScanRecord.open_ (r : ScanRecord) : Bool := r.status == .free || r.status == .void

/-- The record is COMPLETE and nobody holds it. -/
def ScanRecord.reusable (r : ScanRecord) : Bool := r.status == .complete && !(r.holds.any id)

/-- How far newest is ahead of a record's number. -/
def Ring.behind (ring : Ring) (r : ScanRecord) : Int := aheadBy ring.newest (r.number.getD 0)

/-- The better of two picks among COMPLETE records: the one further behind newest. -/
def Ring.older (ring : Ring) (best : Option Nat) (i : Nat) : Option Nat :=
  if (ring.at i).reusable then
    match best with
    | none => some i
    | some j => if ring.behind (ring.at j) < ring.behind (ring.at i) then some i else some j
  else best

/-- The index of the record to fill (R89). A pick always succeeds by the Laws; index 0 stands in (log 15). -/
def Ring.pick (ring : Ring) : Nat :=
  match ring.records.findIdx? ScanRecord.open_ with
  | some i => i
  | none => ((List.range ring.records.length).foldl ring.older none).getD 0

/-- The record of a scan start: its old contents lost, every per-measurement value void, the fields of the start
written (R32, R88 to R90). -/
def State.freshRecord (s : State) (dir : ScanDir) : ScanRecord :=
  let slot := s.store.active.getD .n0
  let void := MeasRecord.void s.recipe.layout.n s.recipe.zones.length
  { ScanRecord.free with
    status := .filling
    dir := dir
    slot := slot
    generation := (s.store.slots.get slot).generation
    layout := s.recipe.layout
    zoneCount := s.recipe.zones.length
    epoch := s.conv.epoch
    mdStart := s.mdMetres
    meas := ⟨void, void, void⟩
    quality := { Quality.clear with unstandardized := !(standardized s.conv.epoch), tachHeld := s.tachHeld } }

/-- The ring picks a record and it becomes FILLING (R89). -/
def State.startRecord (s : State) (dir : ScanDir) : State :=
  s.setRing (s.ring.modify s.ring.pick (fun _ => s.freshRecord dir))

/-- The FILLING record becomes VOID (R92). -/
def State.voidRecord (s : State) : State :=
  s.setRing (s.ring.onFilling (fun r => { r with status := .void }))

/-! ## Flags gained during a scan or a period (R4, R90, R106) -/

/-- LINK_GAPS on the FILLING record and on the period in progress (R4). -/
def State.markLinkGaps (s : State) : State :=
  (s.setRing (s.ring.onFilling (fun r => { r with quality := { r.quality with linkGaps := true } }))).setPoints
    { s.points with period := s.points.period.map (fun p => { p with linkGaps := true }) }

/-- TACH_HELD on the FILLING record and on the period in progress (R115). -/
def State.markTachHeld (s : State) : State :=
  (s.setRing (s.ring.onFilling (fun r => { r with quality := { r.quality with tachHeld := true } }))).setPoints
    { s.points with period := s.points.period.map (fun p => { p with tachHeld := true }) }

/-! ## Closing a record (R91) -/

/-- The trend summary of a completed record (R104). -/
def ScanRecord.summary (r : ScanRecord) : TrendEntry :=
  { number := r.number.getD 0, dir := r.dir, avg := r.meas.map (·.avg), mdEnd := r.mdEnd, quality := r.quality }

/-- The SCAN_DONE notice of a completed record (R91). -/
def ScanRecord.notice (r : ScanRecord) : Notice :=
  .scanDone (r.number.getD 0) r.dir r.quality (r.meas.map (·.avg))

/-- Steps 1 to 3 of R91 on the record itself. -/
def State.closedRecord (s : State) (r : ScanRecord) : ScanRecord :=
  { r with
    status := .complete
    number := some (s.ring.newest + 1)
    mdEnd := s.mdMetres
    speed := s.speed.speed
    quality := { r.quality with
      tachHeld := r.quality.tachHeld || s.tachHeld
      provisional := r.quality.provisional || s.brk.state == .recovering } }

/-- Every pending READ SCAN whose minimum is reached is served from the record at an index (R98). -/
def State.serveAllPending (s : State) (i : Nat) : State :=
  (((s.servePending i .n0).servePending i .n1).servePending i .n2).servePending i .n3

/-- The close of the record at an index, in the order of R91. -/
def State.closeAt (s : State) (i : Nat) : State :=
  let r := s.closedRecord (s.ring.at i)
  ((((s.setRing { (s.ring.modify i (fun _ => r)) with newest := s.ring.newest + 1 }).setTrend
    (keepNewest Config.trendSize (s.trend ++ [r.summary]))).offer r.notice).serveAllPending i)

/-! ## The point accumulator and the point ring -/

/-- A point period starts with the boundary of R10 (R37, R106). -/
def State.startPeriod (s : State) : State :=
  let s := s.adopt
  s.setPoints { s.points with
    period := some
      { p := s.head.pointPos, length := s.recipe.motion.pointSamples, slots := 0,
        sums := ⟨.zero, .zero, .zero⟩, accepted := 0, epoch := s.conv.epoch, mdStart := s.mdMetres,
        linkGaps := false, tachHeld := s.tachHeld } }

/-- A period in progress is dropped without a record (R37). -/
def State.dropPeriod (s : State) : State := s.setPoints { s.points with period := none }

/-- A slot declared during a period (R37). -/
def State.periodSlot (s : State) : State :=
  s.setPoints { s.points with period := s.points.period.map (fun p => { p with slots := p.slots + 1 }) }

/-- A valid value of a present sample added to a point sum. -/
def SumCount.addValid (sc : SumCount) (v : Option Nat) : SumCount :=
  match v with
  | none => sc
  | some x => ⟨sc.sum + x, sc.count + 1⟩

/-- A converted sample handed to the point accumulator (R106). -/
def PointPeriod.take (p : PointPeriod) (x : Sample) : PointPeriod :=
  { p with
    accepted := p.accepted + 1
    sums :=
      if x.present then
        ⟨p.sums.bw.addValid x.bw, p.sums.moist.addValid x.moist, p.sums.cal.addValid x.cal⟩
      else p.sums }

/-- One converted sample while the head is SINGLE_POINT (R9, R106). -/
def State.pointTake (s : State) (x : Sample) : State :=
  match s.head.state with
  | .singlePoint => s.setPoints { s.points with period := s.points.period.map (fun p => p.take x) }
  | .homing | .parked | .standardizing | .scanning _ | .positioning | .returning | .fault => s

/-- A point average (R107). -/
def pointAverage (length accepted : Nat) (sc : SumCount) : Val :=
  if sc.count = 0 ∨ 2 * accepted < length then none else some (roundHalfUp sc.sum sc.count)

/-- The point record of a period that ends now (R107). -/
def State.pointRecord (s : State) (p : PointPeriod) : PointRecord :=
  { number := s.points.next, p := p.p, mdStart := p.mdStart, md := s.mdMetres, speed := s.speed.speed,
    epoch := p.epoch, accepted := p.accepted, avg := p.sums.map (pointAverage p.length p.accepted),
    quality := { Quality.clear with
      linkGaps := p.linkGaps
      tachHeld := p.tachHeld || s.tachHeld
      unstandardized := !(standardized p.epoch)
      provisional := s.brk.state == .recovering } }

/-- The end of a period: its record appended, the next point number raised (R107, R108). -/
def State.recordPeriod (s : State) (p : PointPeriod) : State :=
  s.setPoints
    { period := none, ring := keepNewest Config.pointRingSize (s.points.ring ++ [s.pointRecord p]),
      next := s.points.next + 1 }

end Sys2Proof.Machine
end

