-- ==== Sys2Proof/Machine/StdProc.lean ====
section
/-! DEFINITION. The head commands (R6) and the standardization procedure (R11 to R21), as far as it
touches its own units; what the head does at its end stands in Machine/Traverse.lean. -/

namespace Sys2Proof.Machine

open Sys2Proof

/-! ## Head commands (R6) -/

/-- A head command is raised. -/
def HeadLink.raise (l : HeadLink) (c : HeadCommand) : HeadLink :=
  match l.sending with
  | none => { l with sending := some c }
  | some _ => { l with waiting := some c }

/-- A head command is raised. -/
def State.raise (s : State) (c : HeadCommand) : State := s.setLink (s.link.raise c)

/-- The last character of the command being sent has gone; a waiting command starts. -/
def HeadLink.commandSent (l : HeadLink) : HeadLink := { l with sending := l.waiting, waiting := none }

/-! ## Start (R12) -/

/-- The values a procedure takes from the machine record. -/
def MachineRecord.stdParams (m : MachineRecord) : StdParams :=
  { samples := m.stdSamples, nominal := m.nominal, zeroDrift := m.zeroDrift, gainDrift := m.gainDrift }

/-- The start common to every procedure: reasons NONE, candidates 0, values taken (R12). -/
def StdUnit.begin_ (u : StdUnit) (m : MachineRecord) : StdUnit :=
  { u with
    reasons := ⟨.none, .none, .none⟩
    cand := ⟨⟨0, 0, 0⟩, ⟨0, 0, 0⟩, ⟨0, 0, 0⟩⟩
    params := m.stdParams }

/-- A collection starts: sums, counts and slot count 0 (R13). -/
def StdUnit.collect (u : StdUnit) : StdUnit :=
  { u with collecting := true, sums := ⟨.zero, .zero, .zero⟩, slotCount := 0 }

/-- Entry to phase ZERO (R12). -/
def StdUnit.enterZero (u : StdUnit) : StdUnit := { u.collect with phase := .zero }

/-! ## End (R18 to R21) -/

/-- Every STANDARDIZE entry of the mode-request table is consumed (R12, R18, R19). -/
def State.consumeStd (s : State) : State :=
  s.setHead { s.head with
    slots := s.head.slots.map (fun m => if m = .standardize then ModeSlot.none else m) }

/-- The STANDARDIZE notice of the outcome (R21). -/
def State.stdNotice (s : State) : State :=
  s.offer (.standardize s.std.outcome s.std.reasons s.conv.epoch s.std.failCount)

/-- The unit at rest with an outcome. -/
def StdUnit.finish (u : StdUnit) (o : Outcome) : StdUnit :=
  { u with phase := .idle, outcome := o, collecting := false, tileTimer := .stopped, withdrawTimer := .stopped }

/-- Outcome COMMIT (R18). -/
def State.stdCommit (s : State) : State :=
  let s := s.adopt
  ((s.setStd { s.std.finish .commit with failCount := 0, scanCounter := 0, stdDue := false }).consumeStd).stdNotice

/-- Outcome FAIL (R19). -/
def State.stdFail (s : State) : State :=
  let s := s.dropPendingSet
  ((s.setStd { s.std.finish .fail with
      failCount := min 3 (s.std.failCount + 1)
      scanCounter := 0
      stdDue := false }).consumeStd).stdNotice

/-- Outcome FAIL at once under an EMPTY machine record (R12). -/
def State.stdNoRecord (s : State) : State :=
  ((s.setStd { s.std.finish .fail with
      reasons := ⟨.noRecord, .noRecord, .noRecord⟩
      stdDue := false }).consumeStd).stdNotice

/-- REF_OUT at an abort when REF_IN has been sent and REF_OUT has not: in phase REFERENCE (R20). -/
def State.abortRefOut (s : State) : State :=
  match s.std.phase with
  | .reference => s.raise .refOut
  | .idle | .zero | .withdraw => s

/-- Outcome ABORT (R20); no effect on an idle unit. -/
def State.stdAbort (s : State) : State :=
  if s.std.phase = .idle then s
  else
    let s := s.abortRefOut.dropPendingSet
    (s.setStd (s.std.finish .abort)).stdNotice

/-! ## Phases -/

/-- Entry to REFERENCE: REF_IN and the tile timer (R15). -/
def State.enterReference (s : State) : State :=
  (s.setStd { s.std with phase := .reference, collecting := false, tileTimer := .running Config.tile }).raise .refIn

/-- Entry to WITHDRAW: REF_OUT and the withdraw timer (R17). -/
def State.enterWithdraw (s : State) : State :=
  (s.setStd { s.std with
    phase := .withdraw
    collecting := false
    tileTimer := .stopped
    withdrawTimer := .running Config.withdraw }).raise .refOut

/-- One channel takes a raw value into its sum (R13). -/
def channelTake (samples : Nat) (fits ok : Bool) (v : Nat) (r : Reason) (sc : SumCount) : SumCount :=
  if fits && ok && r == .none && decide (sc.count < samples) then ⟨sc.sum + v, sc.count + 1⟩ else sc

/-- An accepted sample taken into the sums of a collection (R13). -/
def StdUnit.take (u : StdUnit) (raw : RawSample) : StdUnit :=
  let fits := raw.refInPlace == (u.phase == .reference)
  let n := u.params.samples
  { u with
    sums :=
      ⟨channelTake n fits raw.ok.bw raw.value.bw u.reasons.bw u.sums.bw,
        channelTake n fits raw.ok.water raw.value.water u.reasons.water u.sums.water,
        channelTake n fits raw.ok.gap raw.value.gap u.reasons.gap u.sums.gap⟩ }

/-- The slot's sample, if accepted, then the slot itself (R13). -/
def StdUnit.slot (u : StdUnit) (raw : Option RawSample) : StdUnit :=
  let u' := match raw with
    | none => u
    | some x => u.take x
  { u' with slotCount := u'.slotCount + 1 }

/-- A channel still below its count at the slot limit fails with NO_DATA (R13). -/
def noDataAt (limit : Bool) (samples : Nat) (r : Reason) (sc : SumCount) : Reason :=
  if limit && r == .none && decide (sc.count < samples) then .noData else r

/-- The slot-limit test (R13). -/
def StdUnit.limitTest (u : StdUnit) : StdUnit :=
  { u with
    reasons := u.reasons.zip (noDataAt (decide (4 * u.params.samples ≤ u.slotCount)) u.params.samples) u.sums }

/-- Every channel taking part is collected or has failed (R13). -/
def StdUnit.collected (u : StdUnit) : Bool :=
  (u.reasons.zip (fun r (sc : SumCount) => r != .none || decide (u.params.samples ≤ sc.count)) u.sums).all id

/-- A channel's Z candidate (R14). -/
def zeroCandidate (samples : Nat) (r : Reason) (sc : SumCount) : Candidate :=
  if r = .none then ⟨roundHalfUp sc.sum samples, 0, 0⟩ else ⟨0, 0, 0⟩

/-- The end of the ZERO collection (R14). -/
def State.zeroEnd (s : State) : State :=
  let u := s.std
  let s' := s.setStd { u with cand := u.reasons.zip (zeroCandidate u.params.samples) u.sums }
  if u.reasons.all (fun r => r != .none) then s'.enterWithdraw else s'.enterReference

/-- The checks of R16 for one collected channel: its G candidate and its reason. Drift checks only when
the epoch in force is not 0. -/
def gainCheck (drift : Bool) (nominal zeroDrift gainDrift zForce gForce z refMean : Nat) : Nat × Reason :=
  if refMean ≤ z then (0, .denominator)
  else
    let g := roundHalfUp (nominal * 16384) (refMean - z)
    if g < 8192 ∨ 32768 < g then (g, .gainRange)
    else if drift && decide (zeroDrift < distance z zForce) then (g, .zeroDrift)
    else if drift && decide (gainDrift < distance g gForce) then (g, .gainDrift)
    else (g, .pass)

/-- One channel at the end of the REFERENCE collection (R16). -/
def channelEnd (samples : Nat) (drift : Bool) (nominal zeroDrift gainDrift zForce gForce : Nat)
    (r : Reason) (sc : SumCount) (c : Candidate) : Candidate × Reason :=
  if r = .none then
    let m := roundHalfUp sc.sum samples
    let k := gainCheck drift nominal zeroDrift gainDrift zForce gForce c.z m
    (⟨c.z, m, k.1⟩, k.2)
  else (c, r)

/-- The three channels at the end of the REFERENCE collection. -/
def State.referenceResults (s : State) : PerChannel (Candidate × Reason) :=
  let u := s.std
  let p := u.params
  let f := s.conv.consts
  let drift := standardized s.conv.epoch
  ⟨channelEnd p.samples drift p.nominal.bw p.zeroDrift.bw p.gainDrift f.zero.bw f.gain.bw
      u.reasons.bw u.sums.bw u.cand.bw,
    channelEnd p.samples drift p.nominal.water p.zeroDrift.water p.gainDrift f.zero.water f.gain.water
      u.reasons.water u.sums.water u.cand.water,
    channelEnd p.samples drift p.nominal.gap p.zeroDrift.gap p.gainDrift f.zero.gap f.gain.gap
      u.reasons.gap u.sums.gap u.cand.gap⟩

/-- Every channel's reason is PASS. -/
def allPass (r : PerChannel Reason) : Bool := r.all (fun x => x == .pass)

/-- The candidates as a set of constants. -/
def candidateSet (c : PerChannel Candidate) : ConstSet := ⟨c.map (·.z), c.map (·.g)⟩

/-- The end of the REFERENCE collection (R16). -/
def State.referenceEnd (s : State) : State :=
  let r := s.referenceResults
  let s' := s.setStd { s.std with cand := r.map (·.1), reasons := r.map (·.2) }
  (if allPass (r.map (·.2)) then
    s'.setConv { s'.conv with pendingSet := some (candidateSet (r.map (·.1))) }
   else s').enterWithdraw

/-- One slot of a running collection (R13), with the end it may bring. -/
def State.collectionSlot (s : State) (raw : Option RawSample) : State :=
  let u := (s.std.slot raw).limitTest
  let s' := s.setStd u
  if u.collected then
    match u.phase with
    | .zero => s'.zeroEnd
    | .reference => s'.referenceEnd
    | .idle | .withdraw => s'
  else s'

/-- The tile is seen: the wait ends and the REFERENCE collection starts (R15). -/
def State.tileSeen (s : State) : State := s.setStd { s.std.collect with tileTimer := .stopped }

/-- The tile wait has expired (R15). -/
def State.tileExpired (s : State) : State :=
  (s.setStd { s.std with
    reasons := s.std.reasons.map (fun r => if r = .none then .tile else r) }).enterWithdraw

/-- The stuck-tile case: PASS becomes TILE, then R19 (R17); the fault follows it (log 26). -/
def State.stuckTile (s : State) : State :=
  (s.setStd { s.std with reasons := s.std.reasons.map (fun r => if r = .pass then .tile else r) }).stdFail

/-- The accepted sample shows the tile in the gap. -/
def tileIn (raw : Option RawSample) : Bool :=
  match raw with
  | none => false
  | some x => x.refInPlace

/-- The accepted sample shows the tile withdrawn. -/
def tileOut (raw : Option RawSample) : Bool :=
  match raw with
  | none => false
  | some x => !x.refInPlace

end Sys2Proof.Machine
end

