-- ==== Sys2Proof/Machine/Traverse.lean ====
section
/-! DEFINITION. The traverse controller: the drive port, the head states, the claims and the arbiter's
decisions (R24 to R46). An abort of a scan activates a PENDING recipe (R34); that act is a parameter here and
is given by Machine/Break.lean. -/

namespace Sys2Proof.Machine

open Sys2Proof

/-! ## Head state, notice and drive port -/

/-- A change from one head state to another leaves the measuring states (R124). -/
def leavesMeasuring (a b : HeadState) : Bool :=
  match a, b with
  | .scanning _, .scanning _ => false
  | .singlePoint, .singlePoint => false
  | .scanning _, _ => true
  | .singlePoint, _ => true
  | .homing, _ | .parked, _ | .standardizing, _ | .positioning, _ | .returning, _ | .fault, _ => false

/-- The head's state changed; leaving a measuring state stops assessment (R124). -/
def State.toHead (s : State) (h : HeadState) : State :=
  if leavesMeasuring s.head.state h then (s.setHead { s.head with state := h }).stopAssessment
  else s.setHead { s.head with state := h }

/-- The HEAD_STATE notice of a change (R46). -/
def State.headNotice (s : State) : State :=
  s.offer (.headState s.head.state s.std.phase s.head.cause s.head.grant s.head.position)

/-- The grant recorded (R41). -/
def State.grantTo (s : State) (g : Grant) : State := s.setHead { s.head with grant := g }

/-- DRV_EN deasserted, DRV_SPD 0, the encoder-loss timer stopped; DRV_DIR as last driven (R25, R27). -/
def State.driveOff (s : State) : State :=
  s.setHead { s.head with drvEn := false, drvSpd := 0, encTimer := .stopped }

/-- DRV_EN asserted with a direction and a step, the encoder-loss timer started (R25, R27). -/
def State.drive (s : State) (towardB : Bool) (step : Nat) : State :=
  s.setHead { s.head with
    drvEn := true
    drvDir := towardB
    drvSpd := step
    encTimer := .running Config.encoderLoss }

/-- The direction toward a target; at the target the direction stays (log 16). -/
def State.directionTo (s : State) (target : Nat) : Bool :=
  if s.head.position.toNat < target then true
  else if target < s.head.position.toNat then false
  else s.head.drvDir

/-- The traverse step of the ACTIVE recipe, or 1 with no recipe ACTIVE (R25). -/
def State.traverseStep (s : State) : Nat := (s.activeRecipe.map (fun r => r.motion.step)).getD 1

/-- A still state, from which a move needs DRV_RDY (R26). -/
def HeadState.still : HeadState → Bool
  | .parked => true
  | .standardizing => true
  | .singlePoint => true
  | .homing | .scanning _ | .positioning | .returning | .fault => false

/-- A move cannot begin: the head is still and DRV_RDY is low (R26). -/
def State.driveMissing (s : State) : Bool := s.head.state.still && !s.pins.drvRdy

/-! ## Claims (R40, R41) -/

/-- Rank 1 (R41). -/
def State.holdPresent (s : State) : Bool := s.brk.state == .break_ || s.brk.state == .threading

/-- Rank 2: the lowest-numbered station holding PARK (R41). -/
def State.parkStation (s : State) : Option Station := s.head.slots.first (fun m => m == .park)

/-- Rank 3 (R41). -/
def State.stdClaim (s : State) : Bool := s.std.stdDue || s.head.slots.any (fun m => m == .standardize)

/-- The slot holds POINT. -/
def ModeSlot.isPoint : ModeSlot → Bool
  | .point _ => true
  | .none | .park | .standardize => false

/-- Rank 4: the lowest-numbered station holding POINT, with P clamped to the ACTIVE recipe's limits (R41). -/
def State.pointClaim (s : State) : Option (Station × Nat) :=
  (s.head.slots.first ModeSlot.isPoint).map
    (fun st => (st, clampNat s.recipe.geometry.a s.recipe.geometry.b (s.head.slots.get st).pos))

/-- Rank 5 (R41). -/
def State.scanClaim (s : State) : Bool :=
  s.store.active.isSome && (s.brk.state == .running || s.brk.state == .recovering)

/-- The winning claim of ranks 3 to 5, as the grant it gives. -/
def State.lowWinner (s : State) : Grant :=
  if s.stdClaim then .standardize
  else
    match s.pointClaim with
    | some (st, p) => .point st p
    | none => if s.scanClaim then .scan else .none

/-- The winning claim, as the grant it gives (R41). -/
def State.winner (s : State) : Grant :=
  if s.holdPresent then .hold
  else
    match s.parkStation with
    | some st => .park st
    | none => s.lowWinner

/-! ## The start of a scan (R32) -/

/-- A scan starts; after an APPROACH leg the continuity marker is cleared (R32, R68). -/
def State.startScan (s : State) (dir : ScanDir) (fromApproach : Bool) : State :=
  let s := s.adopt
  let s := (((s.startRecord dir).setBins (emptyBins s.recipe.geometry.n)).setEdges
    { s.edges with run := .clear }).endStretch
  let s := if fromApproach then s.clearContinuity else s
  let s := (s.setHead { s.head with
    scan := some ⟨dir, s.recipe.geometry.a, s.recipe.geometry.b⟩ }).toHead
      (.scanning (match dir with | .fwd => .fwd | .rev => .rev))
  s.drive (match dir with | .fwd => true | .rev => false) s.traverseStep

/-! ## Abort and fault -/

/-- The abort of a scan in progress, if any; `act` is the activation that may follow it (R34). -/
def State.scanAbortWith (act : State → State) (s : State) : State :=
  match s.head.scan with
  | none => s
  | some _ =>
    let s := (((s.voidRecord).setBins []).setEdges { s.edges with run := .clear }).clearContinuity.endStretch
    act (s.setHead { s.head with scan := none }).deferredAtAbort

/-- Entry to FAULT with a cause (R38); the head is in FAULT before the abort's consequences act. -/
def State.faultEntryWith (act : State → State) (cause : FaultCause) (s : State) : State :=
  let s := (s.driveOff.toHead .fault)
  let s := s.setHead { s.head with cause := cause, grant := .none, homingTimer := .stopped }
  ((s.scanAbortWith act).dropPeriod.stdAbort).headNotice

/-- A fault of a head with no scan in progress, so that nothing activates. -/
def State.faultStill (s : State) (cause : FaultCause) : State := s.faultEntryWith id cause

/-! ## Moves (R31, R35, R36) -/

/-- The head enters a state under a grant; a change of head state queues its notice (R46). -/
def State.enterHead (s : State) (h : HeadState) (g : Grant) : State := ((s.toHead h).grantTo g).headNotice

/-- The arrival at A on the APPROACH leg (R31). -/
def State.arriveApproach (s : State) : State := s.startScan .fwd true

/-- The APPROACH leg begins; with the head at A it arrives at once (R31). -/
def State.beginApproach (s : State) (g : Grant) : State :=
  if s.driveMissing then s.faultStill .drive
  else
    let was := s.head.state
    let s := ((s.toHead (.scanning .approach)).grantTo g).drive (s.directionTo s.recipe.geometry.a) s.traverseStep
    let s := match was with
      | .scanning _ => s
      | .homing | .parked | .standardizing | .positioning | .singlePoint | .returning | .fault => s.headNotice
    if s.head.position.toNat = s.recipe.geometry.a then s.arriveApproach else s

/-- The arrival at P (R36, R37). -/
def State.arrivePoint (s : State) : State := ((s.driveOff.toHead .singlePoint).headNotice).startPeriod

/-- POSITIONING begins toward P; with the head at P it arrives at once (R36). -/
def State.beginPositioning (s : State) (st : Station) (p : Nat) : State :=
  if s.driveMissing then s.faultStill .drive
  else
    let s := (s.toHead .positioning).grantTo (.point st p)
    let s := ((s.setHead { s.head with pointPos := p }).drive (s.directionTo p) s.traverseStep).headNotice
    if s.head.position.toNat = p then s.arrivePoint else s

/-! ## Decisions with the head at park (R44, last column) -/

/-- The head stays at park, or comes to PARKED from STANDARDIZING. -/
def State.stayParked (s : State) (g : Grant) : State :=
  match s.head.state with
  | .parked => s.grantTo g
  | .homing | .standardizing | .scanning _ | .positioning | .singlePoint | .returning | .fault =>
    s.enterHead .parked g

/-- The decision at park for a winner other than standardization. -/
def State.decideParkedOther (s : State) (g : Grant) : State :=
  match g with
  | .hold => s.stayParked .hold
  | .park st => s.stayParked (.park st)
  | .point st p => s.beginPositioning st p
  | .scan => s.beginApproach .scan
  | .standardize => s.stayParked .none
  | .none => s.stayParked .none

/-- The head enters STANDARDIZING and the procedure starts, or ends at once with NO_RECORD, which is the end
of standardization and decides again (R12, R30). A procedure that follows another at once is no change of
head state (log 10). -/
def State.startStd (s : State) : State :=
  let was := s.head.state
  let u := s.std.begin_ s.store.machine
  let s := (s.toHead .standardizing).grantTo .standardize
  let s := s.setStd (if s.store.machineSet then u.enterZero else u)
  let s := if was = .standardizing then s else s.headNotice
  if s.store.machineSet then s
  else
    let s := s.stdNoRecord
    s.decideParkedOther s.winner

/-- A decision at arrival in PARKED, at the end of standardization, or at a change while PARKED (R44). -/
def State.decideParked (s : State) : State :=
  match s.winner with
  | .standardize => s.startStd
  | .hold => s.decideParkedOther .hold
  | .park st => s.decideParkedOther (.park st)
  | .point st p => s.decideParkedOther (.point st p)
  | .scan => s.decideParkedOther .scan
  | .none => s.decideParkedOther .none

/-- While the head is PARKED each change of a claim is a decision point (R42). -/
def State.redecideIfParked (s : State) : State :=
  match s.head.state with
  | .parked => s.decideParked
  | .homing | .standardizing | .scanning _ | .positioning | .singlePoint | .returning | .fault => s

/-- The end of a procedure: the decision is taken with the head at park (R30, R42). -/
def State.stdEnded (s : State) : State :=
  match s.head.state with
  | .standardizing => s.decideParked
  | .homing | .parked | .scanning _ | .positioning | .singlePoint | .returning | .fault => s

/-! ## Returning -/

/-- The arrival at park (R35): the notice of the change first, then the decision (log 10). -/
def State.arriveParked (s : State) : State := ((s.driveOff.toHead .parked).headNotice).decideParked

/-- RETURNING begins; at position 0 it arrives at once (R35). -/
def State.beginReturning (s : State) (g : Grant) : State :=
  if s.driveMissing then s.faultStill .drive
  else
    let s := (((s.toHead .returning).grantTo g).drive false s.traverseStep).headNotice
    if s.head.position = 0 then s.arriveParked else s

/-! ## A claim takes effect at once (R43) -/

/-- The grant of a claim of rank 1 or 2 (R43). -/
def State.highGrant (s : State) : Grant :=
  if s.holdPresent then .hold
  else
    match s.parkStation with
    | some st => .park st
    | none => .none

/-- The break hold or a PARK claim takes effect at once (R43). In SCANNING the head is turned before the
consequences of the abort act, and the notice follows them. -/
def State.claimTakesEffectWith (act : State → State) (s : State) : State :=
  match s.head.state with
  | .scanning _ =>
    let s := (s.toHead .returning).scanAbortWith act
    s.beginReturning s.highGrant
  | .positioning => s.beginReturning s.highGrant
  | .singlePoint => s.dropPeriod.beginReturning s.highGrant
  | .standardizing => s.stdAbort.enterHead .parked s.highGrant
  | .returning | .parked => s.grantTo s.highGrant
  | .homing | .fault => s

/-! ## Decisions at a completion and at the end of a period (R44) -/

/-- The direction of the scan back. -/
def ScanDir.back : ScanDir → ScanDir
  | .fwd => .rev
  | .rev => .fwd

/-- Standardization wins at a completion: one more REV scan from B, unless a recipe activated (R44). -/
def State.stdAtCompletion (s : State) (dir : ScanDir) (activated : Bool) : State :=
  match dir with
  | .rev => s.beginReturning .standardize
  | .fwd =>
    if activated then s.beginReturning .standardize else (s.grantTo .standardize).startScan .rev false

/-- Default scanning wins at a completion: the scan back, or an approach if a recipe activated (R44). -/
def State.scanAtCompletion (s : State) (dir : ScanDir) (activated : Bool) : State :=
  if activated then s.beginApproach .scan else (s.grantTo .scan).startScan dir.back false

/-- The decision at a scan completion (R44). The last three arms are not reached by the Laws (log 15). -/
def State.decideCompletion (s : State) (dir : ScanDir) (activated : Bool) : State :=
  match s.winner with
  | .standardize => s.stdAtCompletion dir activated
  | .point st p => s.beginPositioning st p
  | .scan => s.scanAtCompletion dir activated
  | .hold => s.beginReturning .hold
  | .park st => s.beginReturning (.park st)
  | .none => s.beginReturning .none

/-- The decision at the end of a point period (R44). -/
def State.decidePeriodEnd (s : State) : State :=
  match s.winner with
  | .standardize => s.beginReturning .standardize
  | .point st p =>
    if p = s.head.pointPos then (s.grantTo (.point st p)).startPeriod else s.beginPositioning st p
  | .scan => s.beginApproach .scan
  | .hold => s.beginReturning .hold
  | .park st => s.beginReturning (.park st)
  | .none => s.beginReturning .none

/-! ## Homing (R29) -/

/-- The search begins: DRV_EN asserted, toward A, step 1 (R29). -/
def State.beginSearch (s : State) : State := s.drive false 1

/-- An overtravel switch is asserted (R28). -/
def Pins.overtravel (p : Pins) : Bool := p.otA || p.otB

/-- What the head does once it is in HOMING: it searches or waits for the drive, and an asserted switch
faults it at once (R28, R29). -/
def State.homingBegun (s : State) : State :=
  let s := if s.pins.drvRdy then s.beginSearch else s
  if s.pins.overtravel then s.faultStill .overtravel else s

/-- Entry to HOMING at an accepted CLEAR FAULT (R29, R39); its notice precedes a fault that follows at once. -/
def State.enterHoming (s : State) : State :=
  let s := (s.toHead .homing).setHead
    { s.head with
      state := .homing
      cause := .none
      grant := .none
      homingTimer := .running Config.homing
      drvEn := false
      drvDir := false
      drvSpd := 0
      encTimer := .stopped }
  s.headNotice.homingBegun

/-- The end of homing at the index (R29). -/
def State.indexFound (s : State) : State :=
  let s := s.setHead { s.head with position := 0, homingTimer := .stopped }
  s.arriveParked

end Sys2Proof.Machine
end

