-- ==== Sys2Proof/Machine/Break.lean ====
section
/-! DEFINITION. The break supervisor's transitions (R125 to R139) and the activation of a recipe (R120, R157,
R168 to R171). -/

namespace Sys2Proof.Machine

open Sys2Proof

/-! ## Entries of the break states -/

/-- The BREAK_STATE notice (R139). -/
def State.breakNotice (s : State) : State := s.offer (.breakState s.brk.state s.brk.causes s.brk.count)

/-- The sources of the TRIPPED detectors (R126); a disabled detector is CLEAR. -/
def Supervisor.tripped (b : Supervisor) : PerDetector Bool := b.det.map (·.tripped)

/-- Every enabled detector is CLEAR (R130). -/
def Supervisor.allClear (b : Supervisor) : Bool := !(b.tripped.any id)

/-- Entry to RECOVERING (R134); the decision that the withdrawn hold brings comes last (log 9). -/
def State.recoveringEntry (s : State) : State :=
  let s := s.setBrk { s.brk with state := .recovering, threadingTimer := .stopped, recoveryCount := 0, relay := false }
  let s := s.profileRestart
  let s := s.setStd { s.std with stdDue := true }
  s.breakNotice.redecideIfParked

/-- The threading timer's expiry (R131). -/
def State.threadingExpiry (s : State) : State :=
  let s := s.setBrk { s.brk with threadingTimer := .stopped }
  if s.recipe.brk.autoResume then s.recoveringEntry else s

/-- The change to THREADING (R130); a threading hold of 0 expires at the entry (R131). -/
def State.threadingEntry (s : State) : State :=
  let hold := s.recipe.brk.threadingHold
  let s := s.setBrk { s.brk with
    state := .threading
    relay := false
    threadingTimer := .running (hold * Config.second) }
  let s := s.breakNotice
  if hold = 0 then s.threadingExpiry else s

/-- The condition of R130 judged in BREAK. -/
def State.judgeThreading (s : State) : State :=
  if s.brk.state = .break_ ∧ s.brk.allClear then s.threadingEntry else s

/-- Entry to BREAK (R128); `act` is the activation that may follow the abort of a scan. -/
def State.breakEntryWith (act : State → State) (absent : Bool) (s : State) : State :=
  let s := s.setBrk { s.brk with
    state := .break_
    threadingTimer := .stopped
    count := min Config.hold16 (s.brk.count + 1)
    causes := ⟨s.brk.tripped, absent⟩
    relay := true }
  ((s.claimTakesEffectWith act).clearContinuity.endPendingByBreak.breakNotice).judgeThreading

/-- Sources join the cause set in BREAK (R129). -/
def State.addCauses (s : State) (trips : PerDetector Bool) : State :=
  (s.setBrk { s.brk with
    causes := { s.brk.causes with det := s.brk.causes.det.zip (· || ·) trips } }).breakNotice

/-! ## Changes of detectors handed to the break state machine -/

/-- What the break state machine does with detectors that tripped and detectors that cleared, `entry` being
its entry to BREAK (R127, R129 to R131). Changes of one re-judging are taken together (log 12). -/
def State.judgeDetectorsWith (entry : State → State) (trips clears : PerDetector Bool) (s : State) : State :=
  match s.brk.state with
  | .idle => s
  | .running | .recovering | .threading => if trips.any id then entry s else s
  | .break_ =>
    if trips.any id then s.addCauses trips
    else if clears.any id then s.judgeThreading
    else s

/-- What an activation's re-judging does in the break states (R125, R136). -/
def State.judgeActivationWith (entry : State → State) (trips clears : PerDetector Bool) (s : State) : State :=
  match s.brk.state with
  | .idle => if s.brk.allClear then s.recoveringEntry else entry s
  | .running | .recovering | .threading | .break_ => s.judgeDetectorsWith entry trips clears

/-- The re-judging inside an entry to BREAK: trips join the cause set; the condition of R130 is judged when
the entry's own effects are done (log 11). -/
def State.judgeInEntry (trips _clears : PerDetector Bool) (s : State) : State :=
  if trips.any id then s.addCauses trips else s

/-! ## Activation (R169) -/

/-- One slot at the activation of another: the ACTIVE slot becomes VALID and no slot stays PENDING. -/
def Slot.yield (x : Slot) : Slot :=
  match x.state with
  | .active | .pending => { x with state := .valid }
  | .empty | .editing | .valid => x

/-- The store's single step (R169). -/
def Store.activate (st : Store) (i : SlotNo) : Store :=
  let slots := st.slots.map Slot.yield
  let x := slots.get i
  { st with slots := slots.set i { x with state := .active, generation := x.generation + 1 } }

/-- The index of the highest-numbered changed entry of two lists of states. -/
def lastChanged (old new : List LimitState) : Option Nat :=
  ((List.range old.length).filter (fun i => old[i]? != new[i]?)).getLast?

/-- Every entry state CLEAR and the relay released; a LIMIT notice when one was not CLEAR (R157). -/
def State.clearLimits (s : State) : State :=
  let old := s.limits.states
  let s := s.setLimits .reset
  match lastChanged old s.limits.states with
  | none => s
  | some i => s.offer (.limit s.limits.states i false s.ring.newest)

/-- One detector re-judged (R120). -/
def DetectorUnit.rejudge (u : DetectorUnit) (enabled : Bool) (debounce : Nat) : DetectorUnit :=
  if !enabled then { u with tripped := false }
  else if debounce * Config.debounceUnit ≤ u.age then { u with tripped := u.asserted }
  else u

/-- The detectors re-judged under a recipe's enables and debounces (R120). -/
def BreakCfg.rejudge (c : BreakCfg) (d : PerDetector DetectorUnit) : PerDetector DetectorUnit :=
  ⟨d.wet.rejudge c.enables.wet c.debounces.wet, d.press.rejudge c.enables.press c.debounces.press,
    d.dry.rejudge c.enables.dry c.debounces.dry, d.reel.rejudge c.enables.reel c.debounces.reel⟩

/-- Changes to TRIPPED. -/
def newTrips (old new : PerDetector DetectorUnit) : PerDetector Bool :=
  old.zip (fun a b => !a.tripped && b.tripped) new

/-- Changes to CLEAR. -/
def newClears (old new : PerDetector DetectorUnit) : PerDetector Bool :=
  old.zip (fun a b => a.tripped && !b.tripped) new

/-- The RECIPE notice (R171). -/
def State.recipeNotice (s : State) (c : RecipeCause) : State :=
  s.offer (.recipe c (s.store.slots.map (fun x => (x.state, x.generation))) s.store.active s.store.pendingSlot
    s.store.machineSet)

/-- An APPROACH leg re-aims at the ACTIVE recipe's A, at its step (R31). -/
def State.reaim (s : State) : State :=
  match s.head.state with
  | .scanning .approach =>
    let s := s.drive (s.directionTo s.recipe.geometry.a) s.traverseStep
    if s.head.position.toNat = s.recipe.geometry.a then s.arriveApproach else s
  | .scanning .fwd | .scanning .rev | .homing | .parked | .standardizing | .positioning | .singlePoint
  | .returning | .fault => s

/-- The activation of a slot, `judge` being the break state machine's part (R169). -/
def State.activateWith (judge : PerDetector Bool → PerDetector Bool → State → State) (i : SlotNo)
    (s : State) : State :=
  let s := s.setStore (s.store.activate i)
  let s := (s.profileActivation s.recipe.layout).clearLimits
  let old := s.brk.det
  let new := s.recipe.brk.rejudge old
  let s := judge (newTrips old new) (newClears old new) (s.setBrk { s.brk with det := new })
  ((s.recipeNotice .activated).redecideIfParked).reaim

/-- An activation from a break state machine at rest: the slot is ACTIVE, so no further activation can
follow an abort that it brings. -/
def State.activate (s : State) (i : SlotNo) : State :=
  s.activateWith (State.judgeActivationWith (State.breakEntryWith id false)) i

/-- A PENDING slot, if any, activates (R168). -/
def State.activatePending (s : State) : State :=
  match s.store.pendingSlot with
  | none => s
  | some i => s.activate i

/-- A PENDING slot, if any, activates inside an entry to BREAK (R168). -/
def State.activateInEntry (s : State) : State :=
  match s.store.pendingSlot with
  | none => s
  | some i => s.activateWith State.judgeInEntry i

/-! ## The entries with their activations -/

/-- Entry to BREAK (R128). -/
def State.breakEntry (s : State) (absent : Bool) : State := s.breakEntryWith State.activateInEntry absent

/-- Entry to FAULT (R38). -/
def State.faultEntry (s : State) (cause : FaultCause) : State := s.faultEntryWith State.activatePending cause

/-- A PARK claim takes effect at once (R43). -/
def State.parkTakesEffect (s : State) : State := s.claimTakesEffectWith State.activatePending

/-- Detector changes outside an activation (R119, R127, R129, R130). -/
def State.judgeDetectors (s : State) (trips clears : PerDetector Bool) : State :=
  s.judgeDetectorsWith (State.breakEntry · false) trips clears

/-- A fault whatever the head state but FAULT (R38). -/
def State.faultUnlessFaulted (s : State) (cause : FaultCause) : State :=
  match s.head.state with
  | .fault => s
  | .homing | .parked | .standardizing | .scanning _ | .positioning | .singlePoint | .returning =>
    s.faultEntry cause

end Sys2Proof.Machine
end

