-- ==== Sys2Proof/Machine/Completion.lean ====
section
/-! DEFINITION. A scan completion in the order of R33: edges, profile and record (R55, R65, R91), counters,
limits and holes (R11, R135, R148, R153), activation (R168), decision (R44). -/

namespace Sys2Proof.Machine

open Sys2Proof

/-! ## Step 1: the edge tracker (R55) -/

/-- The tracker's part: a waiting restart, then the judgement; the run state is used up (R55). -/
def State.completeEdges (s : State) (found : Option Edges) : State :=
  let s := s.setEdges { s.edges with run := .clear }
  let s := if s.profile.deferred then s.updateEdges s.edges.restart else s
  s.updateEdges (s.edges.judge s.recipe.edges found)

/-! ## Step 1: the profile unit (R65, R79) -/

/-- The profile after a waiting restart (R65, step 3). -/
def Profile.afterDeferred (p : Profile) : Profile := if p.deferred then p.restart else p

/-- The work on the three measurements (R65). -/
def State.profileResults (s : State) (dir : ScanDir) (found : Option Edges) : PerMeas MeasResult :=
  let r := s.recipe
  let p := s.profile.afterDeferred
  let marks := r.geometry.marks found
  ⟨measWork r dir marks p.continuity p.prevAvg.bw p.filter.bw (s.bins.map (·.bw)),
    measWork r dir marks p.continuity p.prevAvg.moist p.filter.moist (s.bins.map (·.moist)),
    measWork r dir marks p.continuity p.prevAvg.cal p.filter.cal (s.bins.map (·.cal))⟩

/-- The unit after step 10 of R65 (R68). -/
def Profile.completed (p : Profile) (res : PerMeas MeasResult) : Profile :=
  { p.afterDeferred with
    filter := res.map (·.filter)
    prevAvg := res.map (·.record.avg)
    continuity := true
    deferred := false }

/-- The results written into the FILLING record (R55, R79). -/
def ScanRecord.withResults (r : ScanRecord) (found : Option Edges) (locked : Bool)
    (res : PerMeas MeasResult) : ScanRecord :=
  { r with
    edges := found
    locked := locked
    meas := res.map (·.record)
    quality := { r.quality with noSheet := found.isNone, noSlope := res.any (·.withheld) } }

/-- The FILLING record, if any, closed (R91). -/
def State.closeFilling (s : State) : State :=
  match s.ring.filling with
  | none => s
  | some i => s.closeAt i

/-- Step 1 of R33; the scan is then no longer in progress and the stretch ends (R143). -/
def State.completeRecord (s : State) (dir : ScanDir) : State :=
  let found := s.edges.run.resolve dir
  let res := s.profileResults dir found
  let s := s.completeEdges found
  let s := s.setProfile (s.profile.completed res)
  let s := s.setRing (s.ring.onFilling (fun r => r.withResults found s.edges.locked res))
  let s := s.closeFilling
  ((s.setHead { s.head with scan := none }).setBins []).endStretch

/-! ## Step 2 -/

/-- The scan counter and std-due (R11). -/
def State.completeStd (s : State) : State :=
  let n := min 255 (s.std.scanCounter + 1)
  s.setStd { s.std with
    scanCounter := n
    stdDue := s.std.stdDue || intervalReached s.recipe.measure.stdInterval n }

/-- The recovery count, and RUNNING when it reaches the recovery scans (R135). -/
def State.completeRecovery (s : State) : State :=
  if s.brk.state = .recovering then
    let n := min 8 (s.brk.recoveryCount + 1)
    let s := s.setBrk { s.brk with recoveryCount := n }
    if s.recipe.brk.recoveryScans ≤ n then (s.setBrk { s.brk with state := .running }).breakNotice else s
  else s

/-- The largest of the valid values of a list. -/
def maxVal (l : List Val) : Val :=
  match validOf l with
  | [] => none
  | x :: t => some (maxInt x t)

/-- The smallest of the valid values of a list. -/
def minVal (l : List Val) : Val :=
  match validOf l with
  | [] => none
  | x :: t => some (minInt x t)

/-- The value an entry checks (R152). -/
def LimitEntry.value (e : LimitEntry) (r : ScanRecord) : Val :=
  let m := r.meas.get e.meas
  match e.target with
  | .avg => m.avg
  | .spread => m.spread
  | .zoneMax => maxVal m.zones
  | .zoneMin => minVal m.zones
  | .end_ => none

/-- The state of an entry within its band: EXCEEDED stays, the others become CLEAR (R154). -/
def LimitState.band : LimitState → LimitState
  | .exceeded => .exceeded
  | .clear => .clear
  | .unknown => .clear

/-- The judgement of one live entry (R154). -/
def LimitEntry.judge (e : LimitEntry) (v : Val) (old : LimitState) : LimitState :=
  match v with
  | none =>
    match e.check with
    | .quiet => old
    | .signal => .unknown
  | some x =>
    match e.bound with
    | .high => if e.limit < x then .exceeded else if x ≤ e.limit - e.hysteresis then .clear else old.band
    | .low => if x < e.limit then .exceeded else if e.limit + e.hysteresis ≤ x then .clear else old.band

/-- The states after an evaluation: the live entries judged, the others as they were (R153). -/
def evaluateStates (table : List LimitEntry) (r : ScanRecord) (old : List LimitState) : List LimitState :=
  let live := liveEntries table
  List.zipWith (fun e o => e.judge (e.value r) o) live old ++ old.drop live.length

/-- Some entry changed into EXCEEDED or UNKNOWN (R154, R155). -/
def entering (old new : List LimitState) : Bool :=
  (old.zip new).any (fun p => p.1 != p.2 && p.2 != .clear)

/-- The evaluation of a completed record, with its notice and the relay (R153, R155, R156). -/
def State.evaluateLimits (s : State) (r : ScanRecord) : State :=
  if r.quality.provisional || decide (r.speed < s.store.machine.minRunSpeed) then s
  else
    let old := s.limits.states
    let new := evaluateStates s.recipe.limits r old
    let s := s.setLimits ⟨new, limitRelayNow s.recipe.limits new⟩
    match lastChanged old new with
    | none => s
    | some i => s.offer (.limit new i (entering old new) (r.number.getD 0))

/-- A transfer with its notice (R147, R150). -/
def State.reportHoles (s : State) (src : ReportSource) : State :=
  let s := s.holeTransfer src
  s.offer (.holeReport s.hole.last)

/-- The hole report of a completion: made in AUTO (R148). -/
def State.completeHoles (s : State) : State :=
  match s.recipe.holes.mode with
  | .auto => s.reportHoles (.scan s.ring.newest)
  | .manual => s

/-- The record that carries the newest number (R95). -/
def Ring.newestRecord (r : Ring) : Option Nat :=
  r.records.findIdx? (fun x => x.status == .complete && x.number == some r.newest)

/-- The evaluation of the record just closed (R153). -/
def State.completeLimits (s : State) : State :=
  match s.ring.newestRecord with
  | none => s
  | some i => s.evaluateLimits (s.ring.at i)

/-! ## The whole completion (R33) -/

/-- A completion in a direction: steps 1 to 4. The head still on its leg decides; a break that the activation
brought has moved it already. -/
def State.completeScan (s : State) (dir : ScanDir) : State :=
  let s := (s.completeRecord dir).completeStd.completeRecovery.completeLimits.completeHoles
  let activated := s.store.pendingSlot.isSome
  let s := s.activatePending
  match s.head.state with
  | .scanning _ => s.decideCompletion dir activated
  | .homing | .parked | .standardizing | .positioning | .singlePoint | .returning | .fault => s

end Sys2Proof.Machine
end

