-- ==== Sys2Proof/Machine/SlotOps.lean ====
section
/-! DEFINITION. The declaration of a slot and everything that comes about inside it (R1 to R5, R9, R13,
R37, R122). -/

namespace Sys2Proof.Machine

open Sys2Proof

/-! ## The receiver's part (R1 to R4) -/

/-- An arrival at the receiver: the timer, the judgement, the window counts (R2 to R4). -/
def HeadLink.arrive (l : HeadLink) (good : Bool) (seq : Byte) : HeadLink :=
  { l with
    missingTimer := .running Config.missingFirst
    expected := if good then seq + 1 else l.expected
    resync := l.resync && !good
    slotCount := l.slotCount + 1
    badCount := l.badCount + (!good).toNat }

/-- A missing slot at the receiver (R2 to R4). -/
def HeadLink.miss (l : HeadLink) : HeadLink :=
  { l with
    missingTimer := .running Config.missingNext
    slotCount := l.slotCount + 1
    badCount := l.badCount + 1 }

/-- The first arrival after device reset raises REF_OUT (R6). -/
def HeadLink.firstArrival (l : HeadLink) : HeadLink :=
  if l.missingTimer.isRunning then l else l.raise .refOut

/-- A slot judged good whose sample is handed on: the link state is SYNC (R3, R5). -/
def HeadLink.accepts (l : HeadLink) (t : SampleTelegram) : Bool :=
  slotGood l (sampleCheckOk t) t.seq && l.state == .sync

/-- The link after the slot of a declaration. -/
def HeadLink.declare (l : HeadLink) : SlotDecl → HeadLink
  | .arrival t => (l.firstArrival).arrive (slotGood l (sampleCheckOk t) t.seq) t.seq
  | .missing => l.miss

/-- The accepted sample of a declaration, if any. -/
def HeadLink.acceptedOf (l : HeadLink) : SlotDecl → Option SampleTelegram
  | .arrival t => if l.accepts t then some t else none
  | .missing => none

/-! ## The accepted sample (R5, R9) -/

/-- The converted sample handed to its consumers (R9). -/
def State.handOn (s : State) (x : Sample) : State :=
  ((((s.edgeTake x).binTake x).pointTake x).absentTake x).holeTake x

/-- The end of an absence window (R122, R123); a declaration outside RUNNING and RECOVERING is discarded. -/
def State.absentWindowEnd (s : State) : State :=
  if s.absent.full then
    let declared := s.absentVerdict.1
    let s := s.absentNextWindow
    match s.brk.state with
    | .running | .recovering => if declared then s.breakEntry true else s
    | .idle | .break_ | .threading => s
  else s

/-! ## The slot at the standardization unit (R13 to R19) -/

/-- WITHDRAW ends by the tile clearing: COMMIT, or FAIL with its fault at the third failure (R18, R19). -/
def State.withdrawEnd (s : State) : State :=
  if allPass s.std.reasons then s.stdCommit.stdEnded
  else
    let s := s.stdFail
    if 3 ≤ s.std.failCount then s.faultEntry .standardize else s.stdEnded

/-- One slot at the unit, by the phase it finds. -/
def State.stdSlot (s : State) (raw : Option RawSample) : State :=
  match s.std.phase with
  | .idle => s
  | .zero => s.collectionSlot raw
  | .reference =>
    if s.std.collecting then s.collectionSlot raw
    else if tileIn raw then s.tileSeen.collectionSlot raw
    else s
  | .withdraw => if tileOut raw then s.withdrawEnd else s

/-! ## The window end of the link (R4) -/

/-- The link state of a window's bad count (R4). -/
def windowResult (bad : Nat) : LinkState := if bad < Config.lostFrom then .sync else .lost

/-- The link after a window end: counts 0, the resync flag set on entry to LOST (R3, R4). -/
def HeadLink.windowEnd (l : HeadLink) : HeadLink :=
  let r := windowResult l.badCount
  { l with
    state := r
    resync := l.resync || (r == .lost && l.state == .sync)
    slotCount := 0
    badCount := 0 }

/-- The report of a LOST result: LINK_GAPS, the abort of a procedure with its decision, the stop of assessment
(R4, R20, R124). -/
def State.linkLost (s : State) : State :=
  let s := s.markLinkGaps.stopAssessment
  if s.std.phase = .idle then s else s.stdAbort.stdEnded

/-- The end of a window of 64 slots (R4). -/
def State.linkWindowEnd (s : State) : State :=
  if Config.windowSlots ≤ s.link.slotCount then
    let was := s.link
    let s := s.setLink s.link.windowEnd
    let s := if s.link.state = was.state then s else s.offer (.headLink s.link.state was.badCount)
    match s.link.state with
    | .lost => s.linkLost
    | .sync => s
  else s

/-! ## The end of a point period (R37) -/

/-- The period has had its slots. -/
def PointPeriod.over (p : PointPeriod) : Bool := decide (p.length ≤ p.slots)

/-- The end of a period, its record and the decision (R37, R44). -/
def State.pointPeriodEnd (s : State) : State :=
  match s.head.state, s.points.period with
  | .singlePoint, some p => if p.over then (s.recordPeriod p).decidePeriodEnd else s
  | _, _ => s

/-! ## The whole declaration -/

/-- What an accepted sample does before the consequences of the slot itself; only an assessed sample can end an
absence window (R122). -/
def State.takeSample (s : State) (t : Option SampleTelegram) : State :=
  match t with
  | none => s
  | some y =>
    let x := s.convert y
    if s.assesses x.pos then (s.handOn x).absentWindowEnd else s.handOn x

/-- One declared slot (log 8): counted in the period, its sample handed on, the absence window, the
standardization unit, the link window, the period's end. -/
def State.declareSlot (s : State) (d : SlotDecl) : State :=
  let acc := s.link.acceptedOf d
  let s := (s.setLink (s.link.declare d)).periodSlot.takeSample acc
  ((s.stdSlot (acc.map sampleRaw)).linkWindowEnd).pointPeriodEnd

/-- The declaration can come about: the missing-slot timer runs, or the slot is an arrival (R2). -/
def State.canDeclare (s : State) : SlotDecl → Bool
  | .arrival _ => true
  | .missing => s.link.missingTimer.isRunning

/-- A declaration, if it can come about (log 1). -/
def State.declareIf (s : State) (cond : Bool) (d : SlotDecl) : State :=
  if cond && s.canDeclare d then s.declareSlot d else s

/-! ## The conditions of the rows that name a consequence (log 2) -/

/-- The next slot is the 64th of its window (R4). -/
def State.endsWindow (s : State) : Bool := decide (Config.windowSlots ≤ s.link.slotCount + 1)

/-- The next slot reaches the slot limit of a collection (R13). -/
def State.reachesSlotLimit (s : State) : Bool :=
  s.std.collecting && decide (4 * s.std.params.samples ≤ s.std.slotCount + 1)

/-- The next slot is the last of the point period (R37). -/
def State.endsPeriod (s : State) : Bool :=
  match s.points.period with
  | none => false
  | some p => decide (p.length ≤ p.slots + 1)

/-- The sample of this arrival is assessed and is the 64th of its absence window (R122). -/
def State.endsAbsentWindow (s : State) (t : SampleTelegram) : Bool :=
  s.link.accepts t && s.assesses s.head.position.toNat
    && decide (Config.absentWindow ≤ s.absent.assessed + 1)

end Sys2Proof.Machine
end

