-- ==== Sys2Proof/Machine/SpeedUnit.lean ====
section
/-! DEFINITION. The speed unit (R111 to R116) and the detector inputs (R118, R119). -/

namespace Sys2Proof.Machine

open Sys2Proof

/-! ## The MD accumulator and the speed -/

/-- Added to the MD accumulator, modulo 2^48 (R111). -/
def Speed.credit (u : Speed) (x : Nat) : Speed := { u with mdAcc := u.mdAcc + BitVec.ofNat 48 x }

/-- The speed computed from a gate count (R113). -/
def computedSpeed (g increment : Nat) : Nat := min 3000 (roundHalfUp (g * increment * 600) (2 ^ 24))

/-- A tach pulse (R111, R114). -/
def Speed.pulse (u : Speed) : Speed :=
  { u.credit u.increment with
    gateCount := min Config.hold16 (u.gateCount + 1)
    lossTimer := .running Config.tachLoss
    watch := .pulsing
    emptyGates := match u.watch with
      | .stopped => 0
      | .pulsing | .held => u.emptyGates }

/-- A gate end by the watch state, before the gate count returns to 0 (R113). The empty-gate count holds at 5
(log 17). -/
def Speed.gateByWatch (u : Speed) : Speed :=
  match u.watch with
  | .pulsing =>
    if 0 < u.gateCount then
      { u with speed := computedSpeed u.gateCount u.increment, refPulses := u.gateCount, emptyGates := 0 }
    else { u with emptyGates := min 5 (u.emptyGates + 1) }
  | .held => u.credit (u.refPulses * u.increment)
  | .stopped => { u with speed := 0 }

/-- A gate end; the gate runs on (R113). -/
def Speed.gateEnd (u : Speed) : Speed :=
  { u.gateByWatch with gateCount := 0, gateTimer := .running Config.speedGate }

/-- The loss timer's expiry with the tach lost (R115). -/
def Speed.lose (u : Speed) : Speed :=
  { u.credit (u.emptyGates * u.refPulses * u.increment) with
    watch := .held, emptyGates := 0, lossTimer := .stopped }

/-- The loss timer's expiry with the machine stopped (R115). -/
def Speed.stop (u : Speed) : Speed := { u with watch := .stopped, emptyGates := 0, lossTimer := .stopped }

/-- AT_SPEED re-judged; its clearing stops assessment (R116, R124). -/
def State.rejudgeAtSpeed (s : State) : State :=
  let now := atSpeedNow s.store s.speed.speed
  let s' := s.setSpeed { s.speed with atSpeed := now }
  if s.speed.atSpeed && !now then s'.stopAssessment else s'

/-- The gate end in the part (R113, R116). -/
def State.gateEnd (s : State) : State := (s.setSpeed s.speed.gateEnd).rejudgeAtSpeed

/-- The loss timer's expiry in the part (R115). -/
def State.lossExpiry (s : State) : State :=
  if tachLost s.store s.speed then (s.setSpeed s.speed.lose).markTachHeld
  else s.setSpeed s.speed.stop

/-! ## The detectors -/

/-- A new level, its age from 0 (R118). -/
def DetectorUnit.relevel (u : DetectorUnit) (asserted : Bool) : DetectorUnit :=
  { u with asserted := asserted, age := 0 }

/-- A transition of a detector input (R118). -/
def State.levelChange (s : State) (d : Detector) (high : Bool) : State :=
  let s := s.setPins { s.pins with det := s.pins.det.set d high }
  let u := (s.brk.det.get d).relevel (levelOf (s.store.machine.polarity.get d) high)
  s.setBrk { s.brk with det := s.brk.det.set d u }

/-- A change of polarity flips the level and restarts the level age (R118). -/
def DetectorUnit.repolarize (u : DetectorUnit) (changed : Bool) : DetectorUnit :=
  if changed then u.relevel (!u.asserted) else u

/-- The detector is enabled: the ACTIVE recipe enables it (R119). -/
def State.enabled (s : State) (d : Detector) : Bool :=
  match s.activeRecipe with
  | none => false
  | some r => r.brk.enables.get d

/-- The debounce expiry can come about: the detector is enabled and its level opposes its state (R119). -/
def State.canExpire (s : State) (d : Detector) : Bool :=
  s.enabled d && ((s.brk.det.get d).asserted != (s.brk.det.get d).tripped)

/-- The debounce expiry (R119): the level age has reached the debounce time (log 4), the detector takes the
state of its level and the change is handed on. -/
def State.debounceExpiry (s : State) (d : Detector) : State :=
  let u := s.brk.det.get d
  let reached := max u.age (s.recipe.brk.debounces.get d * Config.debounceUnit)
  let new := s.brk.det.set d { u with tripped := u.asserted, age := reached }
  let old := s.brk.det
  (s.setBrk { s.brk with det := new }).judgeDetectors (newTrips old new) (newClears old new)

/-! ## What an idle step does (log 3) -/

/-- A level age one millisecond older, holding at 2000 (R118). -/
def DetectorUnit.older (u : DetectorUnit) : DetectorUnit := { u with age := min Config.ageHold (u.age + 1) }

/-- Every level age one millisecond older. -/
def State.tick (s : State) : State := s.setBrk { s.brk with det := s.brk.det.map DetectorUnit.older }

end Sys2Proof.Machine
end

