-- ==== Sys2Proof/Machine/Requests.lean ====
section
/-! DEFINITION. The requests as their owning blocks serve them. A reply is queued before the consequences of
its request and so before every notice (log 13). -/

namespace Sys2Proof.Machine

open Sys2Proof

/-! ## STATUS (R187) -/

/-- The snapshot for a station (R187). -/
def State.statusReport (s : State) (st : Station) : StatusReport :=
  { head := s.head.state, phase := s.std.phase, cause := s.head.cause, brk := s.brk.state,
    causes := s.brk.causes, breakCount := s.brk.count, link := s.link.state, locked := s.edges.locked,
    newest := s.ring.newest, epoch := s.conv.epoch, speed := s.speed.speed, tachHeld := s.tachHeld,
    active := s.store.active.map (fun i => (i, (s.store.slots.get i).generation)),
    pending := s.store.pendingSlot, ownSlot := s.head.slots.get st,
    ownHold := (s.ring.holdsFor st).map (fun r => r.number.getD 0),
    ownPending := (s.ports.get st).pending.isSome, ownDropped := (s.ports.get st).dropped }

/-- STATUS: the reply, then REPLIES_DROPPED cleared (R187). -/
def State.serveStatus (s : State) (st : Station) (tag : Byte) : State :=
  (s.reply st .status tag (.report (s.statusReport st))).onPort st (fun p => { p with dropped := false })

/-! ## READ SCAN, READ TREND, READ POINTS, CANCEL (R94 to R101, R105, R109) -/

/-- A refusal, or any reply of the status alone. -/
def State.answer (s : State) (st : Station) (k : RequestKind) (tag : Byte) (c : Status) : State :=
  s.reply st k tag (.status c)

/-- The COMPLETE record of a number at most 64 behind newest (R95). -/
def Ring.numbered (r : Ring) (n : BitVec 16) : Option Nat :=
  if 0 ≤ aheadBy r.newest n ∧ aheadBy r.newest n ≤ Config.scanReach then
    r.records.findIdx? (fun x => x.status == .complete && x.number == some n)
  else none

/-- Served from the record found, or NOT_FOUND (R95). -/
def State.serveFound (s : State) (st : Station) (tag : Byte) (q : ScanQuery) (i : Option Nat) : State :=
  match i with
  | none => s.answer st .readScan tag .notFound
  | some i => s.serveScan st tag q i

/-- A READ SCAN becomes the station's pending request (R97). -/
def State.makePending (s : State) (st : Station) (tag : Byte) (q : ScanQuery) (m : BitVec 16) (wait : Nat) : State :=
  s.onPort st (fun p => { p with pending := some ⟨tag, q, m, .running (wait * Config.second)⟩ })

/-- A READ SCAN with a minimum (R97). -/
def State.serveMinimum (s : State) (st : Station) (tag : Byte) (q : ScanQuery) (m : BitVec 16) (wait : Nat) : State :=
  if aheadBy m s.ring.newest ≤ 0 then s.serveFound st tag q s.ring.newestRecord
  else if Config.scanReach < aheadBy m s.ring.newest then s.answer st .readScan tag .badField
  else if s.holdPresent then s.answer st .readScan tag .break_
  else s.makePending st tag q m wait

/-- READ SCAN (R93 to R97). -/
def State.serveReadScan (s : State) (st : Station) (tag : Byte) (p : List Byte) : State :=
  if (s.ring.holdsFor st).isSome then s.answer st .readScan tag .busy
  else
    match readScanOf? p with
    | none => s.answer st .readScan tag .badField
    | some (.number n, q) => s.serveFound st tag q (s.ring.numbered n)
    | some (.newest none _, q) => s.serveFound st tag q s.ring.newestRecord
    | some (.newest (some m) wait, q) => s.serveMinimum st tag q m wait

/-- READ TREND (R105). -/
def State.serveReadTrend (s : State) (st : Station) (tag : Byte) : State :=
  s.reply st .readTrend tag (.trend s.ring.newest s.trend)

/-- The point numbers from a number on, a count of them (R109). -/
def inPointRange (first : BitVec 16) (count : Nat) (n : BitVec 16) : Bool :=
  decide (0 ≤ aheadBy n first) && decide (aheadBy n first < count)

/-- READ POINTS (R109). -/
def State.serveReadPoints (s : State) (st : Station) (tag : Byte) (p : List Byte) : State :=
  let first := BitVec.ofNat 16 (u16At p 0)
  let count := u16At p 2
  if count = 0 then s.answer st .readPoints tag .badField
  else
    s.reply st .readPoints tag
      (.points (if 32 < count then .clamped else .ok) s.points.next
        (s.points.ring.filter (fun r => inPointRange first (min 32 count) r.number)))

/-- The READ STANDARDIZATION content (R22). -/
def State.stdReport (s : State) : StdReport :=
  { consts := s.conv.consts, epoch := s.conv.epoch, phase := s.std.phase, cand := s.std.cand,
    outcome := s.std.outcome, reasons := s.std.reasons, failCount := s.std.failCount,
    stdDue := s.std.stdDue, scanCounter := s.std.scanCounter }

/-- READ STANDARDIZATION (R22). -/
def State.serveReadStandardization (s : State) (st : Station) (tag : Byte) : State :=
  s.reply st .readStandardization tag (.standardization s.stdReport)

/-- CANCEL (R101). -/
def State.serveCancel (s : State) (st : Station) (tag : Byte) : State :=
  match (s.ports.get st).pending with
  | none => s.answer st .cancel tag .nothingPending
  | some _ => (s.endPending st (.status .cancelled)).answer st .cancel tag .ok

/-! ## MODE, CLEAR FAULT, RESUME (R39, R40, R132) -/

/-- A station's mode slot set. -/
def State.setSlot (s : State) (st : Station) (m : ModeSlot) : State :=
  s.setHead { s.head with slots := s.head.slots.set st m }

/-- The MODE reply: the slot as it stands (R40). -/
def State.modeReply (s : State) (st : Station) (tag : Byte) (c : Status) : State :=
  s.reply st .mode tag (.mode c (s.head.slots.get st))

/-- MODE RELEASE (R40, R42). -/
def State.modeRelease (s : State) (st : Station) (tag : Byte) : State :=
  ((s.setSlot st .none).modeReply st tag .ok).redecideIfParked

/-- MODE PARK (R40, R43). -/
def State.modePark (s : State) (st : Station) (tag : Byte) : State :=
  ((s.setSlot st .park).modeReply st tag .ok).parkTakesEffect.redecideIfParked

/-- MODE STANDARDIZE: std-due is set (R11, R40). -/
def State.modeStandardize (s : State) (st : Station) (tag : Byte) : State :=
  let s := (s.setSlot st .standardize).modeReply st tag .ok
  (s.setStd { s.std with stdDue := true }).redecideIfParked

/-- MODE POINT: clamped to the ACTIVE recipe's limits, refused with none ACTIVE (R40). -/
def State.modePoint (s : State) (st : Station) (tag : Byte) (pos : Nat) : State :=
  match s.activeRecipe with
  | none => s.modeReply st tag .state
  | some r =>
    let p := clampNat r.geometry.a r.geometry.b pos
    ((s.setSlot st (.point p)).modeReply st tag (if p = pos then .ok else .clamped)).redecideIfParked

/-- MODE (R40). -/
def State.serveMode (s : State) (st : Station) (tag : Byte) (p : List Byte) : State :=
  match u8At p 0 with
  | 0 => s.modeRelease st tag
  | 1 => s.modePark st tag
  | 2 => s.modeStandardize st tag
  | 3 => s.modePoint st tag (u16At p 2)
  | _ => s.modeReply st tag .badField

/-- CLEAR FAULT (R39). -/
def State.serveClearFault (s : State) (st : Station) (tag : Byte) : State :=
  if s.head.state = .fault ∧ s.pins.drvRdy then
    let s := s.answer st .clearFault tag .ok
    (s.setStd { s.std with failCount := 0 }).enterHoming
  else s.answer st .clearFault tag .state

/-- RESUME (R132). -/
def State.serveResume (s : State) (st : Station) (tag : Byte) : State :=
  if s.brk.state = .threading then (s.answer st .resume tag .ok).recoveringEntry
  else s.answer st .resume tag .state

/-! ## TAKE COUNT, RESTART PROFILES (R83, R149) -/

/-- The reporting mode a TAKE COUNT reads: MANUAL while no slot is ACTIVE (R149). -/
def State.holeMode (s : State) : HoleMode := (s.activeRecipe.map (fun r => r.holes.mode)).getD .manual

/-- The TAKE COUNT reply (R149). -/
def State.takeCountReply (s : State) (st : Station) (tag : Byte) (m : HoleMode) : State :=
  s.reply st .takeCount tag (.takeCount m s.hole.last s.hole.counter s.hole.overflow)

/-- TAKE COUNT (R149, R150). -/
def State.serveTakeCount (s : State) (st : Station) (tag : Byte) : State :=
  match s.holeMode with
  | .auto => s.takeCountReply st tag .auto
  | .manual =>
    let s := (s.holeTransfer .take).takeCountReply st tag .manual
    s.offer (.holeReport s.hole.last)

/-- RESTART PROFILES (R82, R83). -/
def State.serveRestart (s : State) (st : Station) (tag : Byte) : State :=
  match s.ring.filling with
  | some _ =>
    (s.setProfile { s.profile with deferred := true }).reply st .restartProfiles tag (.restart .atCompletion)
  | none => (s.reply st .restartProfiles tag (.restart .immediate)).profileRestart

/-! ## RECIPE WRITE, RECIPE READ, VALIDATE, SELECT (R165 to R167, R172) -/

/-- One recipe slot changed. -/
def Store.onSlot (st : Store) (i : SlotNo) (f : Slot → Slot) : Store :=
  { st with slots := st.slots.set i (f (st.slots.get i)) }

/-- The slot is in force or about to be: ACTIVE or PENDING. -/
def SlotState.locked : SlotState → Bool
  | .active => true
  | .pending => true
  | .empty | .editing | .valid => false

/-- An accepted RECIPE WRITE's effect on its slot (R165, step 5). -/
def Slot.write (x : Slot) (b : GroupBody) : Slot := { x with state := .editing, recipe := x.recipe.store b }

/-- RECIPE WRITE from its steps 2 on (R165). -/
def State.writeRecipe (s : State) (st : Station) (tag : Byte) (p : List Byte) (i : SlotNo) (g : Group) : State :=
  if (s.store.slots.get i).state.locked then s.answer st .recipeWrite tag .activeSlot
  else
    match groupBodyOf? g p 2 with
    | none => s.answer st .recipeWrite tag .badField
    | some b =>
      let c := b.clamped
      (s.setStore (s.store.onSlot i (Slot.write · c))).reply st .recipeWrite tag
        (.recipeWrite (if c = b then .ok else .clamped) .editing i c)

/-- RECIPE WRITE (R165). -/
def State.serveRecipeWrite (s : State) (st : Station) (tag : Byte) (p : List Byte) : State :=
  match ix4? (u8At p 0), groupOf? (u8At p 1) with
  | some i, some g => s.writeRecipe st tag p i g
  | _, _ => s.answer st .recipeWrite tag .badField

/-- RECIPE READ (R172). -/
def State.serveRecipeRead (s : State) (st : Station) (tag : Byte) (p : List Byte) : State :=
  match ix4? (u8At p 0), groupOf? (u8At p 1) with
  | some i, some g =>
    let x := s.store.slots.get i
    s.reply st .recipeRead tag (.recipeRead x.state x.generation i (x.recipe.read g))
  | _, _ => s.answer st .recipeRead tag .badField

/-- Each zone has first ≤ last < N and starts above the end of the one before (R166, check 4). -/
def zonesOk (n : Nat) : Option Nat → List Zone → Bool
  | _, [] => true
  | prev, z :: rest =>
    decide (z.first ≤ z.last) && decide (z.last < n) &&
      (match prev with
       | none => true
       | some l => decide (l < z.first)) && zonesOk n (some z.last) rest

/-- No live limit entry has a zone target under a zone count of 0 (R166, check 5). -/
def zoneTargetsOk (r : Recipe) : Bool :=
  !r.zones.isEmpty || (liveEntries r.limits).all (fun e => e.target != .zoneMax && e.target != .zoneMin)

/-- The first check of VALIDATE that fails, in order (R166). -/
def Store.failedCheck (st : Store) (r : Recipe) : Option Nat :=
  let g := r.geometry
  if !st.machineSet then some 1
  else if !(decide (400 ≤ g.a) && decide (g.a < g.b) && decide (g.b ≤ st.machine.frameLength)) then some 2
  else if !(decide (g.a ≤ g.origin) && decide (g.origin + g.n * g.w ≤ g.b)) then some 3
  else if !zonesOk g.n none r.zones then some 4
  else if !zoneTargetsOk r then some 5
  else none

/-- VALIDATE of a slot (R166). -/
def State.validateSlot (s : State) (st : Station) (tag : Byte) (i : SlotNo) : State :=
  let x := s.store.slots.get i
  match x.state with
  | .empty => s.answer st .validate tag .state
  | .active | .pending => s.answer st .validate tag .ok
  | .editing | .valid =>
    match s.store.failedCheck x.recipe with
    | some n => s.reply st .validate tag (.failedCheck n)
    | none => (s.setStore (s.store.onSlot i (fun y => { y with state := .valid }))).answer st .validate tag .ok

/-- VALIDATE (R166). -/
def State.serveValidate (s : State) (st : Station) (tag : Byte) (p : List Byte) : State :=
  match ix4? (u8At p 0) with
  | none => s.answer st .validate tag .badField
  | some i => s.validateSlot st tag i

/-- A waiting selection withdrawn: the PENDING slot becomes VALID (R167). -/
def Slot.withdraw (x : Slot) : Slot :=
  match x.state with
  | .pending => { x with state := .valid }
  | .empty | .editing | .valid | .active => x

/-- No slot PENDING. -/
def Store.withdraw (st : Store) : Store := { st with slots := st.slots.map Slot.withdraw }

/-- The slot becomes the one PENDING slot (R167). -/
def Store.choose (st : Store) (i : SlotNo) : Store := st.withdraw.onSlot i (fun x => { x with state := .pending })

/-- The SELECT reply. -/
def State.selectReply (s : State) (st : Station) (tag : Byte) (t : Timing) : State :=
  s.reply st .select tag (.select t)

/-- SELECT of a slot by its state (R167). -/
def State.selectSlot (s : State) (st : Station) (tag : Byte) (i : SlotNo) : State :=
  match (s.store.slots.get i).state with
  | .empty | .editing => s.answer st .select tag .notValid
  | .pending => s.selectReply st tag .atCompletion
  | .active =>
    if s.store.pendingSlot.isSome then
      ((s.setStore s.store.withdraw).selectReply st tag .none).recipeNotice .cancelled
    else s.selectReply st tag .none
  | .valid =>
    if s.head.scan.isSome then
      ((s.setStore (s.store.choose i)).selectReply st tag .atCompletion).recipeNotice .selected
    else ((s.setStore (s.store.choose i)).selectReply st tag .immediate).activatePending

/-- SELECT (R167). -/
def State.serveSelect (s : State) (st : Station) (tag : Byte) (p : List Byte) : State :=
  match ix4? (u8At p 0) with
  | none => s.answer st .select tag .badField
  | some i => s.selectSlot st tag i

/-! ## MACHINE WRITE, MACHINE READ (R160 to R162) -/

/-- The head states that admit a MACHINE WRITE (R160, step 1). -/
def HeadState.admitsMachineWrite : HeadState → Bool
  | .parked => true
  | .homing => true
  | .fault => true
  | .standardizing | .scanning _ | .positioning | .singlePoint | .returning => false

/-- The frame length lies below scan limit B of the ACTIVE or of the PENDING slot (R160, step 4). -/
def Store.frameTooShort (st : Store) (len : Nat) : Bool :=
  st.slots.any (fun x => x.state.locked && decide (len < x.recipe.geometry.b))

/-- EDITING and VALID slots become EDITING (R161, step 2). -/
def Slot.invalidate (x : Slot) : Slot :=
  match x.state with
  | .editing | .valid => { x with state := .editing }
  | .empty | .pending | .active => x

/-- The new values handed to the blocks: increment, AT_SPEED, polarities (R161, step 3). -/
def State.handMachine (s : State) (old : MachineRecord) : State :=
  let m := s.store.machine
  let s := (s.setSpeed { s.speed with increment := m.tachIncrement }).rejudgeAtSpeed
  s.setBrk { s.brk with
    det := s.brk.det.zip DetectorUnit.repolarize (old.polarity.zip (fun a b => a != b) m.polarity) }

/-- The reply to MACHINE WRITE and MACHINE READ: the record as it stands. -/
def State.machineReply (s : State) (st : Station) (k : RequestKind) (tag : Byte) (c : Status) : State :=
  s.reply st k tag (.machine c s.store.machineSet s.store.machine)

/-- An accepted MACHINE WRITE (R161). -/
def State.acceptMachine (s : State) (st : Station) (tag : Byte) (c : Status) (m : MachineRecord) : State :=
  let old := s.store.machine
  let s := s.setStore { machineSet := true, machine := m, slots := s.store.slots.map Slot.invalidate }
  ((s.machineReply st .machineWrite tag c).handMachine old).recipeNotice .machine

/-- MACHINE WRITE from its step 2 on (R160). -/
def State.judgeMachine (s : State) (st : Station) (tag : Byte) (m : MachineRecord) : State :=
  if !stdSamplesListed m.stdSamples || s.store.frameTooShort m.clamped.frameLength then
    s.machineReply st .machineWrite tag .badField
  else s.acceptMachine st tag (if m.clamped = m then .ok else .clamped) m.clamped

/-- MACHINE WRITE (R160). -/
def State.serveMachineWrite (s : State) (st : Station) (tag : Byte) (p : List Byte) : State :=
  if s.head.state.admitsMachineWrite then
    match machineOf? p with
    | none => s.machineReply st .machineWrite tag .badField
    | some m => s.judgeMachine st tag m
  else s.machineReply st .machineWrite tag .state

/-- MACHINE READ (R162). -/
def State.serveMachineRead (s : State) (st : Station) (tag : Byte) : State :=
  s.machineReply st .machineRead tag .ok

/-! ## SUBSCRIBE (R194) -/

/-- A SUBSCRIBE's settings; none where R194 refuses. -/
def subscriptionOf? (p : List Byte) : Option Subscription :=
  match flagOf? (u8At p 2), flagOf? (u8At p 3) with
  | some l, some h => if u16At p 0 < 256 then some ⟨BitVec.ofNat 8 (u16At p 0), l, h⟩ else none
  | _, _ => none

/-- SUBSCRIBE (R194). -/
def State.serveSubscribe (s : State) (st : Station) (tag : Byte) (p : List Byte) : State :=
  match subscriptionOf? p with
  | none => s.answer st .subscribe tag .badField
  | some x => (s.onPort st (fun q => q.resubscribe x)).reply st .subscribe tag (.subscription x)

/-! ## The request discipline (R182) -/

/-- A request handed to its owner (R182, step 5). -/
def State.serve (s : State) (k : RequestKind) (st : Station) (tag : Byte) (p : List Byte) : State :=
  match k with
  | .status => s.serveStatus st tag
  | .readScan => s.serveReadScan st tag p
  | .readTrend => s.serveReadTrend st tag
  | .readPoints => s.serveReadPoints st tag p
  | .readStandardization => s.serveReadStandardization st tag
  | .cancel => s.serveCancel st tag
  | .mode => s.serveMode st tag p
  | .clearFault => s.serveClearFault st tag
  | .resume => s.serveResume st tag
  | .takeCount => s.serveTakeCount st tag
  | .restartProfiles => s.serveRestart st tag
  | .recipeWrite => s.serveRecipeWrite st tag p
  | .recipeRead => s.serveRecipeRead st tag p
  | .validate => s.serveValidate st tag p
  | .select => s.serveSelect st tag p
  | .machineWrite => s.serveMachineWrite st tag p
  | .machineRead => s.serveMachineRead st tag
  | .subscribe => s.serveSubscribe st tag p

/-- STATUS and CANCEL are served while a request is pending (R183). -/
def RequestKind.servedWhilePending : RequestKind → Bool
  | .status => true
  | .cancel => true
  | .readScan | .readTrend | .readPoints | .readStandardization | .mode | .clearFault | .resume
  | .takeCount | .restartProfiles | .recipeWrite | .recipeRead | .validate | .select | .machineWrite
  | .machineRead | .subscribe => false

/-- Steps 3 to 5 of R182. -/
def State.judgeKnown (s : State) (k : RequestKind) (st : Station) (tag : Byte) (p : List Byte) : State :=
  if !lengthOk k p then s.answer st k tag .badLength
  else if (s.ports.get st).pending.isSome && !k.servedWhilePending then s.answer st k tag .busy
  else s.serve k st tag p

/-- An UNKNOWN_KIND reply (R182, step 2; R196). -/
def State.answerUnknown (s : State) (st : Station) (tag : Byte) : State :=
  s.onPort st (fun q => q.queueReply ⟨none, tag, .status .unknownKind⟩)

/-- Steps 2 to 5 of R182. -/
def State.judgeKind (s : State) (st : Station) (kind tag : Byte) (p : List Byte) : State :=
  match RequestKind.ofCode kind with
  | none => s.answerUnknown st tag
  | some k => s.judgeKnown k st tag p

/-- A good telegram makes its station PRESENT and restarts the presence timer (R180). -/
def Port.hear (p : Port) : Port := { p with present := true, presenceTimer := .running Config.presence }

/-- The receiver at rest: HUNT, the gap timer stopped (R177). -/
def Port.hunt (p : Port) : Port := { p with rx := .hunt, gapTimer := .stopped }

/-- The reply queue has room (R182, step 1; R184). -/
def Port.hasRoom (p : Port) : Bool := decide (p.count < Config.replyRoom)

/-- A good telegram at a port: presence (R180), then the judgement of R182. -/
def State.telegram (s : State) (st : Station) (kind tag : Byte) (p : List Byte) : State :=
  let s := s.onPort st Port.hear
  if (s.ports.get st).hasRoom then s.judgeKind st kind tag p
  else s.onPort st (fun q => { q with dropped := true })

/-- The arrival of a telegram: the receiver returns to HUNT and the telegram is taken; one whose payload is
longer than 1100 bytes is dropped (R177, log 21). -/
def State.telegramArrival (s : State) (st : Station) (kind tag : Byte) (p : List Byte) : State :=
  let s := s.onPort st Port.hunt
  if p.length ≤ Config.maxPayload then s.telegram st kind tag p else s

end Sys2Proof.Machine
end

