-- ==== Sys2Proof/Machine/Receiver.lean ====
section
/-! DEFINITION. The receivers, character by character (R1, R175 to R178), the presence watch (R180, R181)
and the end of a transmission (R185). -/

namespace Sys2Proof.Machine

open Sys2Proof

/-! ## A station's receiver (R177) -/

/-- What the characters of a telegram in progress come to after one has been stored (R177). -/
inductive RxStep where
  | more
  | drop
  | arrive (kind tag : Byte) (payload : List Byte)
  deriving DecidableEq, Repr

/-- The payload length of the characters received (R176). -/
def rxLength (chars : List Byte) : Nat := u16At chars 2

/-- The telegram of a whole series of characters: its check compared (R177). -/
def rxJudge (chars : List Byte) : RxStep :=
  let n := rxLength chars
  if le16 (crc16 (chars.take (n + 4))).toNat = (chars.drop (n + 4)).take 2 then
    .arrive (chars.getD 0 0) (chars.getD 1 0) ((chars.drop 4).take n)
  else .drop

/-- The length test at the second length byte and the completion test (R177). -/
def rxTest (chars : List Byte) : RxStep :=
  if chars.length < 4 then .more
  else if Config.maxPayload < rxLength chars then .drop
  else if chars.length < rxLength chars + 6 then .more
  else rxJudge chars

/-- A telegram begins with a marked character (R177). -/
def Port.beginRx (p : Port) (b : Byte) : Port :=
  { p with rx := .receiving [b], gapTimer := .running Config.gap }

/-- A character stored in the telegram in progress, with its tests (R177). -/
def State.storeChar (s : State) (st : Station) (chars : List Byte) (b : Byte) : State :=
  let cs := chars ++ [b]
  match rxTest cs with
  | .more => s.onPort st (fun p => { p with rx := .receiving cs, gapTimer := .running Config.gap })
  | .drop => s.onPort st Port.hunt
  | .arrive k t pl => s.telegramArrival st k t pl

/-- One character taken by a station's receiver (R177). -/
def State.takeChar (s : State) (st : Station) (c : Character) : State :=
  match (s.ports.get st).rx with
  | .hunt => if c.mark && !c.framingError then s.onPort st (fun p => p.beginRx c.data) else s
  | .receiving chars =>
    if c.framingError then s.onPort st Port.hunt
    else if c.mark then s.onPort st (fun p => p.beginRx c.data)
    else s.storeChar st chars c.data

/-- The start bit of a character is seen: the gap timer stops (R178). -/
def State.startBit (s : State) (st : Station) : State :=
  s.onPort st (fun p => { p with gapTimer := .stopped })

/-- What a station's receiver does with a line event; a character comes with its start bit (R177, R178). -/
def State.takeLine (s : State) (st : Station) : LineEvent → State
  | .startBit => s.startBit st
  | .character c => (s.startBit st).takeChar st c

/-- A telegram in progress is dropped (R177 to R179). -/
def State.dropTelegram (s : State) (st : Station) : State := s.onPort st Port.hunt

/-! ## Presence (R181) -/

/-- A station becomes ABSENT: its port torn down, its hold released, its mode slot NONE (R181). -/
def State.absence (s : State) (st : Station) : State :=
  let s := s.onPort st Port.tornDown
  let s := s.setRing (s.ring.release st)
  (s.setSlot st .none).redecideIfParked

/-! ## The end of a transmission (R185) -/

/-- The last character of the telegram being sent has gone: a hold ends, the entry leaves its queue
(R93, R185, R193). -/
def State.transmitted (s : State) (st : Station) : State :=
  let s := if (s.ports.get st).sendsScan then s.setRing (s.ring.release st) else s
  s.onPort st Port.lastCharacter

/-! ## The head link receiver (R1) -/

/-- The bytes of the head telegram in progress. -/
def State.setHeadRx (s : State) (x : Option (List Byte)) : State := s.setLink { s.link with rx := x }

/-- An unmarked character inside a head telegram: stored, and the tenth brings the arrival (R1). -/
def State.storeHeadChar (s : State) (bytes : List Byte) (b : Byte) : State :=
  let bs := bytes ++ [b]
  if bs.length < 10 then s.setHeadRx (some bs)
  else (s.setHeadRx none).declareSlot (.arrival (sampleTelegramOf bs))

/-- One character taken on the head link (R1). -/
def State.takeHeadChar (s : State) (c : Character) : State :=
  if c.framingError then s.setHeadRx none
  else if c.mark then s.setHeadRx (some [c.data])
  else
    match s.link.rx with
    | none => s
    | some bytes => s.storeHeadChar bytes c.data

end Sys2Proof.Machine
end

