-- ==== Sys2Proof/Machine/LinkFamily.lean ====
section
/-! DEFINITION. The commands of device reset and of the head link (R1 to R6, R23). -/

namespace Sys2Proof.Machine

open Sys2Proof

/-- A step that ends with every idle transmitter choosing (log 7). -/
def State.done (s : State) : Host.Outcome State Fault Refusal := .next s.settle

/-- DEVICE_RESET: every block in its reset state, the head in HOMING (R23, R29, R47). -/
def execDeviceReset (s : State) : Host.Outcome State Fault Refusal :=
  ((State.resetAt s.pins s.pending).homingBegun).done

/-- SAMPLE_TELEGRAM_ARRIVAL: the arrival of a head telegram declares one slot (R1 to R3). -/
def execSampleTelegramArrival (t : SampleTelegram) (s : State) : Host.Outcome State Fault Refusal :=
  ((s.setHeadRx none).declareSlot (.arrival t)).done

/-- MISSING_SLOT: the missing-slot timer expires (R2). -/
def execMissingSlot (s : State) : Host.Outcome State Fault Refusal :=
  (s.declareIf true .missing).done

/-- The receiver before a declared slot: an arrival ends the telegram in progress (R1). -/
def State.beforeSlot (s : State) : SlotDecl → State
  | .arrival _ => s.setHeadRx none
  | .missing => s

/-- WINDOW_END: the declaration of a window's 64th slot (R4, log 2). -/
def execWindowEnd (d : SlotDecl) (s : State) : Host.Outcome State Fault Refusal :=
  (if s.endsWindow && s.canDeclare d then (s.beforeSlot d).declareSlot d else s).done

/-- HEAD_COMMAND_SENT: the last character of a head command has gone (R6). -/
def execHeadCommandSent (s : State) : Host.Outcome State Fault Refusal :=
  .next (s.setLink s.link.commandSent)

/-- HEAD_LINK_CHARACTER: a character on the head link (R1, R197). -/
def execHeadLinkCharacter (c : Character) (s : State) : Host.Outcome State Fault Refusal :=
  (s.takeHeadChar c).done

end Sys2Proof.Machine
end

