-- ==== Sys2Proof/Machine/StdFamily.lean ====
section
/-! DEFINITION. The commands of the standardization unit (R13, R15, R17). -/

namespace Sys2Proof.Machine

open Sys2Proof

/-- STD_SLOT_LIMIT: the declaration of the slot that reaches a collection's slot limit (R13, log 2). -/
def execStdSlotLimit (d : SlotDecl) (s : State) : Host.Outcome State Fault Refusal :=
  (if s.reachesSlotLimit && s.canDeclare d then (s.beforeSlot d).declareSlot d else s).done

/-- The tile wait is on: phase REFERENCE before its collection (R15). -/
def StdUnit.awaitsTile (u : StdUnit) : Bool := u.phase == .reference && !u.collecting

/-- TILE_TIMER_EXPIRY (R15). -/
def execTileTimerExpiry (s : State) : Host.Outcome State Fault Refusal :=
  (if s.std.awaitsTile then s.tileExpired else s).done

/-- WITHDRAW_TIMER_EXPIRY: the stuck-tile case and its fault (R17, R19). The STANDARDIZE notice is queued before the
HEAD_STATE notice of the fault: the manual leaves their order open, and this one is the model's choice (log 26). -/
def execWithdrawTimerExpiry (s : State) : Host.Outcome State Fault Refusal :=
  (if s.std.phase = .withdraw then s.stuckTile.faultEntry .tile else s).done

end Sys2Proof.Machine
end

