-- ==== Sys2Proof/Machine/MotionFamily.lean ====
section
/-! DEFINITION. The commands of the traverse controller (R24 to R29, R37). -/

namespace Sys2Proof.Machine

open Sys2Proof

/-- A count changes the position by one, modulo 65536, and restarts a running encoder-loss timer (R24, R27). -/
def Head.count (h : Head) (dir : CountDir) : Head :=
  { h with
    position := match dir with
      | .towardB => h.position + 1
      | .towardA => h.position - 1
    encTimer := h.encTimer.restartIfRunning Config.encoderLoss }

/-- The arrival that the position now makes, by the head state (R24, R31, R33, R35, R36). -/
def State.arrival (s : State) : State :=
  match s.head.state with
  | .scanning .approach => if s.head.position.toNat = s.recipe.geometry.a then s.arriveApproach else s
  | .scanning .fwd | .scanning .rev =>
    match s.head.scan with
    | some ⟨.fwd, _, b⟩ => if s.head.position.toNat = b then s.completeScan .fwd else s
    | some ⟨.rev, a, _⟩ => if s.head.position.toNat = a then s.completeScan .rev else s
    | none => s
  | .positioning => if s.head.position.toNat = s.head.pointPos then s.arrivePoint else s
  | .returning => if s.head.position = 0 then s.arriveParked else s
  | .homing | .parked | .standardizing | .singlePoint | .fault => s

/-- ENCODER_COUNT (R24). -/
def execEncoderCount (dir : CountDir) (s : State) : Host.Outcome State Fault Refusal :=
  ((s.setHead (s.head.count dir)).arrival).done

/-- INDEX_PULSE: acts in HOMING (R24, R29). -/
def execIndexPulse (s : State) : Host.Outcome State Fault Refusal :=
  (if s.head.state = .homing then s.indexFound else s).done

/-- DRV_RDY_LOW: a fault while DRV_EN is asserted (R26). -/
def execDrvRdyLow (s : State) : Host.Outcome State Fault Refusal :=
  let s := s.setPins { s.pins with drvRdy := false }
  (if s.head.drvEn then s.faultUnlessFaulted .drive else s).done

/-- DRV_RDY_HIGH: the waiting search begins (R29). -/
def execDrvRdyHigh (s : State) : Host.Outcome State Fault Refusal :=
  let s := s.setPins { s.pins with drvRdy := true }
  .next (if s.head.state = .homing ∧ s.head.drvEn = false then s.beginSearch else s)

/-- ENCODER_LOSS_TIMER_EXPIRY (R27). -/
def execEncoderLossTimerExpiry (s : State) : Host.Outcome State Fault Refusal :=
  (if s.head.encTimer.isRunning then s.faultUnlessFaulted .encoder else s).done

/-- The level of an overtravel input. -/
def Pins.setOt (p : Pins) (sw : OtSwitch) (high : Bool) : Pins :=
  match sw with
  | .a => { p with otA := high }
  | .b => { p with otB := high }

/-- OVERTRAVEL: an asserted switch faults the head in every state but FAULT (R28). -/
def execOvertravel (sw : OtSwitch) (asserted : Bool) (s : State) : Host.Outcome State Fault Refusal :=
  let s := s.setPins (s.pins.setOt sw asserted)
  (if asserted then s.faultUnlessFaulted .overtravel else s).done

/-- HOMING_TIMER_EXPIRY (R29). -/
def execHomingTimerExpiry (s : State) : Host.Outcome State Fault Refusal :=
  (if s.head.state = .homing then s.faultEntry .homing else s).done

/-- POINT_PERIOD_END: the declaration of a period's last slot (R37, log 2). -/
def execPointPeriodEnd (d : SlotDecl) (s : State) : Host.Outcome State Fault Refusal :=
  (if s.endsPeriod && s.canDeclare d then (s.beforeSlot d).declareSlot d else s).done

end Sys2Proof.Machine
end

