-- ==== Sys2Proof/Machine/SpeedFamily.lean ====
section
/-! DEFINITION. The commands of the speed unit (R111, R113, R115). -/

namespace Sys2Proof.Machine

open Sys2Proof

/-- TACH_PULSE (R111, R114). -/
def execTachPulse (s : State) : Host.Outcome State Fault Refusal :=
  .next (s.setSpeed s.speed.pulse)

/-- SPEED_GATE_END (R113, R116). -/
def execSpeedGateEnd (s : State) : Host.Outcome State Fault Refusal :=
  .next s.gateEnd

/-- LOSS_TIMER_EXPIRY (R115). -/
def execLossTimerExpiry (s : State) : Host.Outcome State Fault Refusal :=
  .next (if s.speed.lossTimer.isRunning then s.lossExpiry else s)

end Sys2Proof.Machine
end

