-- ==== Sys2Proof/Machine/BreakFamily.lean ====
section
/-! DEFINITION. The commands of the break supervisor and the absent detector (R118, R119, R122, R131). -/

namespace Sys2Proof.Machine

open Sys2Proof

/-- DETECTOR_LEVEL_CHANGE: a transition of a detector input (R118). -/
def execDetectorLevelChange (d : Detector) (high : Bool) (s : State) : Host.Outcome State Fault Refusal :=
  .next (if s.pins.det.get d = high then s else s.levelChange d high)

/-- DEBOUNCE_EXPIRY (R119, log 4). -/
def execDebounceExpiry (d : Detector) (s : State) : Host.Outcome State Fault Refusal :=
  (if s.canExpire d then s.debounceExpiry d else s).done

/-- ABSENT_WINDOW_END: the arrival of the 64th assessed sample of a window (R122, log 2). -/
def execAbsentWindowEnd (t : SampleTelegram) (s : State) : Host.Outcome State Fault Refusal :=
  (if s.endsAbsentWindow t then (s.setHeadRx none).declareSlot (.arrival t) else s).done

/-- THREADING_TIMER_EXPIRY (R131). -/
def execThreadingTimerExpiry (s : State) : Host.Outcome State Fault Refusal :=
  (if s.brk.state = .threading ∧ s.brk.threadingTimer.isRunning then s.threadingExpiry else s).done

end Sys2Proof.Machine
end

