-- ==== Sys2Proof/Machine/PortFamily.lean ====
section
/-! DEFINITION. The commands of the station ports other than requests (R100, R177 to R181, R185). -/

namespace Sys2Proof.Machine

open Sys2Proof

/-- WAIT_TIMER_EXPIRY: a pending READ SCAN ends with TIMEOUT (R100). -/
def execWaitTimerExpiry (st : Station) (s : State) : Host.Outcome State Fault Refusal :=
  (s.endPending st (.timeout s.ring.newest)).done

/-- GAP_TIMER_EXPIRY (R178): after a start bit the timer is stopped, and the telegram goes on. -/
def execGapTimerExpiry (st : Station) (s : State) : Host.Outcome State Fault Refusal :=
  .next (if (s.ports.get st).gapTimer.isRunning then s.dropTelegram st else s)

/-- TELEGRAM_DROPPED: a telegram with a failed check (R177, R179). -/
def execTelegramDropped (st : Station) (s : State) : Host.Outcome State Fault Refusal :=
  .next (s.dropTelegram st)

/-- PRESENCE_TIMER_EXPIRY: the station becomes ABSENT (R180, R181). -/
def execPresenceTimerExpiry (st : Station) (s : State) : Host.Outcome State Fault Refusal :=
  (if (s.ports.get st).presenceTimer.isRunning then s.absence st else s).done

/-- LAST_CHARACTER_SENT (R185). -/
def execLastCharacterSent (st : Station) (s : State) : Host.Outcome State Fault Refusal :=
  (s.transmitted st).done

/-- STATION_CHARACTER_TAKEN: a character with its start bit, or its start bit alone (R177, R178). -/
def execStationCharacterTaken (st : Station) (e : LineEvent) (s : State) : Host.Outcome State Fault Refusal :=
  (s.takeLine st e).done

end Sys2Proof.Machine
end

