-- ==== Sys2Proof/Machine/RequestFamily.lean ====
section
/-! DEFINITION. The requests (10.6), each as its telegram arrives. -/

namespace Sys2Proof.Machine

open Sys2Proof

/-- The arrival of a request's telegram at its port (R177, R180, R182), and the end of the step. -/
def State.request (s : State) (k : RequestKind) (st : Station) (tag : Byte) (p : List Byte) :
    Host.Outcome State Fault Refusal :=
  (s.telegramArrival st (byte1 k.code) tag p).done

/-- UNKNOWN_KIND: a good telegram, judged by the kind it carries (R182, log 22). -/
def execUnknownKind (st : Station) (kind tag : Byte) (p : List Byte) (s : State) : Host.Outcome State Fault Refusal :=
  (s.telegramArrival st kind tag p).done

/-- STATUS (R187). -/
def execStatus (st : Station) (tag : Byte) (p : List Byte) (s : State) : Host.Outcome State Fault Refusal :=
  s.request .status st tag p

/-- READ_SCAN (R94). -/
def execReadScan (st : Station) (tag : Byte) (p : List Byte) (s : State) : Host.Outcome State Fault Refusal :=
  s.request .readScan st tag p

/-- READ_TREND (R105). -/
def execReadTrend (st : Station) (tag : Byte) (p : List Byte) (s : State) : Host.Outcome State Fault Refusal :=
  s.request .readTrend st tag p

/-- READ_POINTS (R109). -/
def execReadPoints (st : Station) (tag : Byte) (p : List Byte) (s : State) : Host.Outcome State Fault Refusal :=
  s.request .readPoints st tag p

/-- READ_STANDARDIZATION (R22). -/
def execReadStandardization (st : Station) (tag : Byte) (p : List Byte) (s : State) : Host.Outcome State Fault Refusal :=
  s.request .readStandardization st tag p

/-- CANCEL (R101). -/
def execCancel (st : Station) (tag : Byte) (p : List Byte) (s : State) : Host.Outcome State Fault Refusal :=
  s.request .cancel st tag p

/-- MODE (R40). -/
def execMode (st : Station) (tag : Byte) (p : List Byte) (s : State) : Host.Outcome State Fault Refusal :=
  s.request .mode st tag p

/-- CLEAR_FAULT (R39). -/
def execClearFault (st : Station) (tag : Byte) (p : List Byte) (s : State) : Host.Outcome State Fault Refusal :=
  s.request .clearFault st tag p

/-- RESUME (R132). -/
def execResume (st : Station) (tag : Byte) (p : List Byte) (s : State) : Host.Outcome State Fault Refusal :=
  s.request .resume st tag p

/-- TAKE_COUNT (R149). -/
def execTakeCount (st : Station) (tag : Byte) (p : List Byte) (s : State) : Host.Outcome State Fault Refusal :=
  s.request .takeCount st tag p

/-- RESTART_PROFILES (R83). -/
def execRestartProfiles (st : Station) (tag : Byte) (p : List Byte) (s : State) : Host.Outcome State Fault Refusal :=
  s.request .restartProfiles st tag p

/-- RECIPE_WRITE (R165). -/
def execRecipeWrite (st : Station) (tag : Byte) (p : List Byte) (s : State) : Host.Outcome State Fault Refusal :=
  s.request .recipeWrite st tag p

/-- RECIPE_READ (R172). -/
def execRecipeRead (st : Station) (tag : Byte) (p : List Byte) (s : State) : Host.Outcome State Fault Refusal :=
  s.request .recipeRead st tag p

/-- VALIDATE (R166). -/
def execValidate (st : Station) (tag : Byte) (p : List Byte) (s : State) : Host.Outcome State Fault Refusal :=
  s.request .validate st tag p

/-- SELECT (R167). -/
def execSelect (st : Station) (tag : Byte) (p : List Byte) (s : State) : Host.Outcome State Fault Refusal :=
  s.request .select st tag p

/-- MACHINE_WRITE (R160). -/
def execMachineWrite (st : Station) (tag : Byte) (p : List Byte) (s : State) : Host.Outcome State Fault Refusal :=
  s.request .machineWrite st tag p

/-- MACHINE_READ (R162). -/
def execMachineRead (st : Station) (tag : Byte) (p : List Byte) (s : State) : Host.Outcome State Fault Refusal :=
  s.request .machineRead st tag p

/-- SUBSCRIBE (R194). -/
def execSubscribe (st : Station) (tag : Byte) (p : List Byte) (s : State) : Host.Outcome State Fault Refusal :=
  s.request .subscribe st tag p

end Sys2Proof.Machine
end

