-- ==== Sys2Proof/Machine/Dispatch.lean ====
section
/-! DEFINITION. The meaning of every command: one arm for each constructor of Instr. -/

namespace Sys2Proof.Machine

open Sys2Proof

/-- A command's effect on everything but the queue. -/
def exec (i : Instr) (s : State) : Host.Outcome State Fault Refusal :=
  match i with
  | .deviceReset => Sys2Proof.Machine.execDeviceReset s
  | .sampleTelegramArrival t => Sys2Proof.Machine.execSampleTelegramArrival t s
  | .missingSlot => Sys2Proof.Machine.execMissingSlot s
  | .windowEnd d => Sys2Proof.Machine.execWindowEnd d s
  | .headCommandSent => Sys2Proof.Machine.execHeadCommandSent s
  | .stdSlotLimit d => Sys2Proof.Machine.execStdSlotLimit d s
  | .tileTimerExpiry => Sys2Proof.Machine.execTileTimerExpiry s
  | .withdrawTimerExpiry => Sys2Proof.Machine.execWithdrawTimerExpiry s
  | .encoderCount dir => Sys2Proof.Machine.execEncoderCount dir s
  | .indexPulse => Sys2Proof.Machine.execIndexPulse s
  | .drvRdyLow => Sys2Proof.Machine.execDrvRdyLow s
  | .drvRdyHigh => Sys2Proof.Machine.execDrvRdyHigh s
  | .encoderLossTimerExpiry => Sys2Proof.Machine.execEncoderLossTimerExpiry s
  | .overtravel sw asserted => Sys2Proof.Machine.execOvertravel sw asserted s
  | .homingTimerExpiry => Sys2Proof.Machine.execHomingTimerExpiry s
  | .pointPeriodEnd d => Sys2Proof.Machine.execPointPeriodEnd d s
  | .waitTimerExpiry st => Sys2Proof.Machine.execWaitTimerExpiry st s
  | .tachPulse => Sys2Proof.Machine.execTachPulse s
  | .speedGateEnd => Sys2Proof.Machine.execSpeedGateEnd s
  | .lossTimerExpiry => Sys2Proof.Machine.execLossTimerExpiry s
  | .detectorLevelChange det high => Sys2Proof.Machine.execDetectorLevelChange det high s
  | .debounceExpiry det => Sys2Proof.Machine.execDebounceExpiry det s
  | .absentWindowEnd t => Sys2Proof.Machine.execAbsentWindowEnd t s
  | .threadingTimerExpiry => Sys2Proof.Machine.execThreadingTimerExpiry s
  | .gapTimerExpiry st => Sys2Proof.Machine.execGapTimerExpiry st s
  | .telegramDropped st => Sys2Proof.Machine.execTelegramDropped st s
  | .presenceTimerExpiry st => Sys2Proof.Machine.execPresenceTimerExpiry st s
  | .lastCharacterSent st => Sys2Proof.Machine.execLastCharacterSent st s
  | .unknownKind st kind tag payload => Sys2Proof.Machine.execUnknownKind st kind tag payload s
  | .status st tag payload => Sys2Proof.Machine.execStatus st tag payload s
  | .readScan st tag payload => Sys2Proof.Machine.execReadScan st tag payload s
  | .readTrend st tag payload => Sys2Proof.Machine.execReadTrend st tag payload s
  | .readPoints st tag payload => Sys2Proof.Machine.execReadPoints st tag payload s
  | .readStandardization st tag payload => Sys2Proof.Machine.execReadStandardization st tag payload s
  | .cancel st tag payload => Sys2Proof.Machine.execCancel st tag payload s
  | .mode st tag payload => Sys2Proof.Machine.execMode st tag payload s
  | .clearFault st tag payload => Sys2Proof.Machine.execClearFault st tag payload s
  | .resume st tag payload => Sys2Proof.Machine.execResume st tag payload s
  | .takeCount st tag payload => Sys2Proof.Machine.execTakeCount st tag payload s
  | .restartProfiles st tag payload => Sys2Proof.Machine.execRestartProfiles st tag payload s
  | .recipeWrite st tag payload => Sys2Proof.Machine.execRecipeWrite st tag payload s
  | .recipeRead st tag payload => Sys2Proof.Machine.execRecipeRead st tag payload s
  | .validate st tag payload => Sys2Proof.Machine.execValidate st tag payload s
  | .select st tag payload => Sys2Proof.Machine.execSelect st tag payload s
  | .machineWrite st tag payload => Sys2Proof.Machine.execMachineWrite st tag payload s
  | .machineRead st tag payload => Sys2Proof.Machine.execMachineRead st tag payload s
  | .subscribe st tag payload => Sys2Proof.Machine.execSubscribe st tag payload s
  | .stationCharacterTaken st e => Sys2Proof.Machine.execStationCharacterTaken st e s
  | .headLinkCharacter c => Sys2Proof.Machine.execHeadLinkCharacter c s

end Sys2Proof.Machine
end

