-- ==== Sys2Proof/Machine/Step.lean ====
section
/-! DEFINITION. One step: the command at the front of the queue, or one millisecond of level age when no
command waits (log 3). -/

namespace Sys2Proof.Machine

open Sys2Proof

/-- The command at the front acts on the state with the queue's rest; on an empty queue the block idles but
for the level ages. -/
def step (s : State) : Host.Outcome State Fault Refusal :=
  match s.pending with
  | [] => .next s.tick
  | c :: rest => exec c (s.setPending rest)

/-- The command that a word spells put at the front of the queue; the table gives no bits, so no word spells
a command and the state is unchanged (log 19). -/
def State.withFetchWord (s : State) (nbits w : Nat) : State :=
  match decodeTableWord nbits w with
  | none => s
  | some c => s.setPending (c :: s.pending)

end Sys2Proof.Machine
end

