-- ==== Sys2Proof/Safety.lean ====
section
/-! DEFINITION. What counts as a safe run: the Laws of the Device (00, Laws of the Device) that a state can
keep by itself, as conditions on one state. -/

namespace Sys2Proof.Safety

open Sys2Proof Sys2Proof.Machine

/-- The step goes on: it answers a next state. -/
def Continues (o : Host.Outcome State Fault Refusal) : Prop := ∃ t, o = .next t

/-! ## Law 8: the BREAK relay -/

/-- The BREAK relay is asserted exactly while the break state is BREAK. -/
def BreakRelay (s : State) : Prop := s.brk.relay = true ↔ s.brk.state = .break_

/-! ## Law 9: the queues of a port -/

/-- A follow-up content is of its entry's kind. -/
def followUpFits (e : NoticeEntry) : Bool :=
  match e.followUp with
  | none => true
  | some n => n.kind == e.content.kind

/-- What the transmitter is sending is there, and it is idle only with both queues empty (R185). -/
def txFits (p : Port) : Bool :=
  match p.tx with
  | .idle => p.replies.isEmpty && p.notices.isEmpty
  | .reply => !p.replies.isEmpty
  | .notice => !p.notices.isEmpty

/-- An ABSENT station has nothing queued and nothing pending (R181, R195). -/
def absentClean (p : Port) : Bool :=
  p.present || (p.replies.isEmpty && p.notices.isEmpty && p.pending.isNone && p.sub == .reset)

/-- At most four replies with the pending request counted, at most one notice of each kind (Law 9). -/
def portKept (p : Port) : Prop :=
  p.count ≤ Config.replyRoom ∧ (p.notices.map (fun e => e.content.kind)).Nodup
    ∧ (∀ e ∈ p.notices, followUpFits e = true) ∧ txFits p = true ∧ absentClean p = true

/-- Law 9 at every port. -/
def PortQueues (s : State) : Prop := ∀ st, portKept (s.ports.get st)

/-! ## Law 12: counters and lists stay in their bounds -/

/-- The bounds of the counters that hold and of the lists that drop their oldest. -/
def CounterBounds (s : State) : Prop :=
  s.brk.count ≤ 65535 ∧ s.brk.recoveryCount ≤ 8 ∧ s.hole.counter ≤ 65535 ∧ s.hole.run ≤ 33
    ∧ s.std.failCount ≤ 3 ∧ s.std.scanCounter ≤ 255 ∧ s.speed.gateCount ≤ 65535 ∧ s.speed.speed ≤ 3000
    ∧ s.speed.emptyGates ≤ 5 ∧ s.link.slotCount < 64 ∧ s.link.badCount ≤ s.link.slotCount
    ∧ s.trend.length ≤ 16 ∧ s.points.ring.length ≤ 32 ∧ s.ring.records.length = 8

/-! ## Law 10: the recipe slots -/

/-- How many slots are in a state. -/
def slotsIn (st : Store) (x : SlotState) : Nat :=
  (st.slots.x0.state == x).toNat + (st.slots.x1.state == x).toNat + (st.slots.x2.state == x).toNat
    + (st.slots.x3.state == x).toNat

/-- At most one slot is ACTIVE, at most one PENDING, and the break state is IDLE exactly while none is ACTIVE. -/
def RecipeSlots (s : State) : Prop :=
  slotsIn s.store .active ≤ 1 ∧ slotsIn s.store .pending ≤ 1
    ∧ (slotsIn s.store .active = 0 ↔ s.brk.state = .idle)

/-! ## Laws 1 and 7: scans and the break hold -/

/-- A head state of a scan in progress. -/
def measuringLeg (h : HeadState) : Bool := h == .scanning .fwd || h == .scanning .rev

/-- The head states that the break hold admits. -/
def heldState (h : HeadState) : Bool := h == .homing || h == .parked || h == .returning || h == .fault

/-- A scan in progress is on a measuring leg, and under the break hold the head is HOMING, PARKED, RETURNING or
FAULT, so that no scan is in progress (Law 7). -/
def HoldKeepsHead (s : State) : Prop :=
  (s.head.scan.isSome = true → measuringLeg s.head.state = true)
    ∧ (s.holdPresent = true → heldState s.head.state = true)

/-- How many records of the ring are FILLING. -/
def fillingCount (r : Ring) : Nat := r.records.countP (fun x => x.status == .filling)

/-- A FILLING record is held by nobody (Law 1), and every held record is COMPLETE (Law 2). -/
def HeldAreComplete (s : State) : Prop :=
  ∀ r ∈ s.ring.records, r.holds.any id = true → r.status = .complete

/-- Law 2: every held record is COMPLETE; a station is in one hold set at most, and in none while it is ABSENT or has a
READ SCAN pending; and only a PRESENT station has one pending. -/
def HoldsKept (s : State) : Prop :=
  HeldAreComplete s ∧ ∀ st,
    (∀ (i j : Nat) (a b : ScanRecord), s.ring.records[i]? = some a → s.ring.records[j]? = some b →
      a.holds.get st = true → b.holds.get st = true → i = j)
    ∧ (((s.ports.get st).present = false ∨ (s.ports.get st).pending ≠ none) →
      ∀ r ∈ s.ring.records, r.holds.get st = false)
    ∧ ((s.ports.get st).pending ≠ none → (s.ports.get st).present = true)

/-- A record of the ring is FILLING exactly while a scan is in progress, and then it is the only one (Law 1); the
ring has eight records and a scan is on a measuring leg. -/
def ScansFillOneRecord (s : State) : Prop :=
  s.ring.records.length = 8 ∧ fillingCount s.ring = s.head.scan.isSome.toNat
    ∧ (s.head.scan.isSome = true → measuringLeg s.head.state = true)

/-! ## The head link before its first arrival -/

/-- The missing-slot timer is stopped only before the first arrival after device reset, and the link is then LOST
(R2, R4, R23). -/
def UntimedLinkIsLost (s : State) : Prop := s.link.missingTimer = .stopped → s.link.state = .lost

/-! ## What the statements speak of -/

/-- A port after a good telegram: HUNT, the gap timer stopped, PRESENT, the presence timer restarted (R177, R180). -/
def heardPort (p : Port) : Port :=
  { p with rx := .hunt, gapTimer := .stopped, present := true, presenceTimer := .running 2000000 }

/-- The state after a good telegram from a station, before the telegram is judged. -/
def heard (s : State) (st : Station) : State := s.onPort st heardPort

/-- The state after a good telegram from a station and one reply to it at the back of the station's queue. -/
def answered (s : State) (st : Station) (k : RequestKind) (tag : Byte) (b : ReplyBody) : State :=
  s.onPort st (fun p => { heardPort p with replies := p.replies ++ [⟨some k, tag, b⟩] })

/-- A station's next request is served by its owner: its reply queue has room and nothing is pending (R182). -/
def Ready (s : State) (st : Station) : Prop :=
  (s.ports.get st).replies.length < 4 ∧ (s.ports.get st).pending = none

/-- Every transmitter has made its choice: none is idle over a queue that is not empty (R185). -/
def Settled (s : State) : Prop := s.settle = s

/-- The next slot ends neither a window nor a point period: nothing but its sample and its own counts act. -/
def PlainSlot (s : State) : Prop :=
  s.link.slotCount < 63 ∧ ∀ p, s.points.period = some p → p.slots + 1 < p.length

/-- Neither break state in which the break hold is present (R41, rank 1). -/
def NoHold (s : State) : Prop := s.brk.state ≠ .break_ ∧ s.brk.state ≠ .threading

/-- The lowest-numbered station whose mode slot is as said (R41). -/
def LowestWith (slots : Four ModeSlot) (P : ModeSlot → Prop) (low : Station) : Prop :=
  P (slots.get low) ∧ ∀ j, P (slots.get j) → Ix4.code low ≤ Ix4.code j

/-- A notice stands in the queue of every PRESENT station, as an entry's content or its follow-up (R192, R193). -/
def Told (s : State) (n : Notice) : Prop :=
  ∀ st, (s.ports.get st).present = true → ∃ e ∈ (s.ports.get st).notices, e.content = n ∨ e.followUp = some n

/-- The edge option of R191. -/
def admittedBy (x : Subscription) : Notice → Prop
  | .limit _ _ entering _ => x.limitEvery = true ∨ entering = true
  | .headLink st _ => x.linkEvery = true ∨ st = .lost
  | .scanDone _ _ _ _ | .breakState _ _ _ | .standardize _ _ _ _ | .headState _ _ _ _ _
  | .holeReport _ | .recipe _ _ _ _ _ => True

/-- A port takes a notice: its station is PRESENT, the kind is in its mask or is BREAK_STATE, and the edge option of the
kind admits it (R190). -/
def TakesNotice (p : Port) (n : Notice) : Prop :=
  p.present = true ∧ (n.kind = .breakState ∨ p.sub.mask.getLsbD n.kind.bit = true) ∧ admittedBy p.sub n

/-- A command from s has queued a notice: it stands in u at every port that takes it, as an entry's content or its
follow-up (R190, R192, R193). -/
def Notified (s u : State) (n : Notice) : Prop :=
  ∀ st, TakesNotice (s.ports.get st) n → ∃ e ∈ (u.ports.get st).notices, e.content = n ∨ e.followUp = some n

/-- A command from s has queued no notice of a kind: the entries of the kind stand as they stood. -/
def Unheard (s u : State) (k : NoticeKind) : Prop :=
  ∀ st, (u.ports.get st).notices.filter (fun e => decide (e.content.kind = k))
    = (s.ports.get st).notices.filter (fun e => decide (e.content.kind = k))

/-- The RECIPE notice of a cause, with the recipe store as it stands (R171). -/
def recipeNews (u : State) (c : RecipeCause) : Notice :=
  .recipe c (u.store.slots.map (fun x => (x.state, x.generation))) u.store.active u.store.pendingSlot u.store.machineSet

/-- What the activation of a slot leaves in the store, the limit table and the filter layout (R84, R157, R169). -/
def Activated (s u : State) (k : SlotNo) : Prop :=
  let x := s.store.slots.get k
  u.store.machineSet = s.store.machineSet ∧ u.store.machine = s.store.machine
    ∧ u.store.slots.get k = { x with state := .active, generation := x.generation + 1 }
    ∧ (∀ j, j ≠ k → u.store.slots.get j =
        (if (s.store.slots.get j).state = .active ∨ (s.store.slots.get j).state = .pending then
          { (s.store.slots.get j) with state := .valid } else s.store.slots.get j))
    ∧ u.limits = ⟨List.replicate 16 .clear, false⟩
    ∧ u.profile.layout = some ⟨x.recipe.geometry.n, x.recipe.geometry.w, x.recipe.geometry.origin⟩

/-- Whether a detector is TRIPPED once a recipe's enables and debounces re-judge it (R120). -/
def rejudgedTripped (c : BreakCfg) (d : Detector) (u : DetectorUnit) : Bool :=
  if c.enables.get d = false then false
  else if c.debounces.get d * 10 ≤ u.age then u.asserted
  else u.tripped

/-- No detector is TRIPPED once a recipe has re-judged them all. -/
def QuietUnder (r : Recipe) (s : State) : Prop := ∀ d, rejudgedTripped r.brk d (s.brk.det.get d) = false

/-- The profile unit after a restart (R81). -/
def restartedProfile (p : Profile) : Profile :=
  let fresh := List.replicate ((p.layout.map (fun l => l.n)).getD 0) (⟨none, .none, 0⟩ : FilterBin)
  { p with filter := ⟨fresh, fresh, fresh⟩, prevAvg := ⟨none, none, none⟩, continuity := false }

/-- The edge tracker after a restart (R57). -/
def restartedEdges (e : EdgeTracker) : EdgeTracker :=
  { e with locked := false, lockedEdges := none, previous := none, inCount := 0, outCount := 0 }

/-- The standardization unit of a procedure just started under a SET machine record (R12, R13). -/
def startedStd (s : State) : StdUnit :=
  let m := s.store.machine
  { s.std with
    phase := .zero, reasons := ⟨.none, .none, .none⟩, cand := ⟨⟨0, 0, 0⟩, ⟨0, 0, 0⟩, ⟨0, 0, 0⟩⟩,
    params := ⟨m.stdSamples, m.nominal, m.zeroDrift, m.gainDrift⟩, collecting := true,
    sums := ⟨⟨0, 0⟩, ⟨0, 0⟩, ⟨0, 0⟩⟩, slotCount := 0 }

/-- Once record i is completed the ring has another to pick: FREE, VOID, or COMPLETE, unheld and older (R89). -/
def PickBeside (g : Ring) (i : Nat) : Prop :=
  ∃ j r, j ≠ i ∧ g.records[j]? = some r
    ∧ (r.status = .free ∨ r.status = .void
      ∨ r.status = .complete ∧ r.holds = ⟨false, false, false, false⟩
        ∧ 0 < aheadBy (g.newest + 1) (r.number.getD 0))

/-- A byte of a payload. -/
def b8 (p : List Byte) (i : Nat) : Nat := (p.getD i 0).toNat

/-- A two-byte field of a payload, low byte first (R196). -/
def b16 (p : List Byte) (i : Nat) : Nat := b8 p i + 256 * b8 p (i + 1)

/-- Fields on the wire, each given by its size in bytes and its value: little-endian, two's complement (R196). -/
def wire (fields : List (Nat × Int)) : List Byte :=
  fields.flatMap (fun f => (List.range f.1).map (fun k => BitVec.ofInt 8 (f.2 / 256 ^ k)))

/-- A field of one byte. -/
def w8 (x : Int) : Nat × Int := (1, x)

/-- A field of two bytes. -/
def w16 (x : Int) : Nat × Int := (2, x)

/-- A field of four bytes. -/
def w32 (x : Int) : Nat × Int := (4, x)

/-- A value that can be void: the void code is −32768 (R196). -/
def orVoid (v : Val) : Int := v.getD (-32768)

/-- A flag as a number. -/
def bit (b : Bool) : Int := if b then 1 else 0

end Sys2Proof.Safety
end

