-- ==== Sys2Proof/Certificates/Slice0/Obligations.lean ====
section
/-! DEFINITION. The statements for the provers. A definition here that is no obligation is a word of one: a table or
a condition of the manual as the statement reads it. -/

section

open Sys2Proof Sys2Proof.Machine Sys2Proof.Safety

/-- The step takes the front command; the queue is the model's own form of "events come one after another" (log 19). -/
def Obligations.FrontCommandRuns : Prop :=
  ∀ (c : Instr) (rest : List Instr) (s : State),
    s.pending = c :: rest → step s = exec c { s with pending := rest }

/-- R118. -/
def Sys2Proof.Safety.LevelChangeRestartsAge : Prop :=
  ∀ (d : Detector) (high : Bool) (s : State),
    (s.pins.det.get d = high → exec (.detectorLevelChange d high) s = .next s)
    ∧ (s.pins.det.get d ≠ high →
      exec (.detectorLevelChange d high) s = .next { s with
        pins := { s.pins with det := s.pins.det.set d high }
        brk := { s.brk with det := (s.brk.det.set d
          ⟨decide (s.store.machine.polarity.get d = .high ↔ high = true), 0, (s.brk.det.get d).tripped⟩) } })

/-- The idle step is a DESIGN CHOICE (log 3); that an age counts milliseconds and holds at 2000 is R118's. -/
def Sys2Proof.Safety.EmptyQueueAgesLevels : Prop :=
  ∀ s : State, s.pending = [] →
    step s = .next { s with brk := { s.brk with det :=
      ⟨{ s.brk.det.wet with age := min 2000 (s.brk.det.wet.age + 1) },
       { s.brk.det.press with age := min 2000 (s.brk.det.press.age + 1) },
       { s.brk.det.dry with age := min 2000 (s.brk.det.dry.age + 1) },
       { s.brk.det.reel with age := min 2000 (s.brk.det.reel.age + 1) }⟩ } }

/-- A detector's level and level age: a transition restarts the age, an idle step makes every age one millisecond older. -/
def Obligations.LevelsAndTheirAges : Prop := LevelChangeRestartsAge ∧ EmptyQueueAgesLevels

/-- The commands that bring an input level with them. -/
def Sys2Proof.Safety.movesPin : Instr → Bool
  | .drvRdyLow | .drvRdyHigh | .overtravel _ _ | .detectorLevelChange _ _ => true
  | .deviceReset | .sampleTelegramArrival _ | .missingSlot | .windowEnd _ | .headCommandSent | .stdSlotLimit _
  | .tileTimerExpiry | .withdrawTimerExpiry | .encoderCount _ | .indexPulse | .encoderLossTimerExpiry
  | .homingTimerExpiry | .pointPeriodEnd _ | .waitTimerExpiry _ | .tachPulse | .speedGateEnd | .lossTimerExpiry
  | .debounceExpiry _ | .absentWindowEnd _ | .threadingTimerExpiry | .gapTimerExpiry _ | .telegramDropped _
  | .presenceTimerExpiry _ | .lastCharacterSent _ | .unknownKind _ _ _ _ | .status _ _ _ | .readScan _ _ _
  | .readTrend _ _ _ | .readPoints _ _ _ | .readStandardization _ _ _ | .cancel _ _ _ | .mode _ _ _
  | .clearFault _ _ _ | .resume _ _ _ | .takeCount _ _ _ | .restartProfiles _ _ _ | .recipeWrite _ _ _
  | .recipeRead _ _ _ | .validate _ _ _ | .select _ _ _ | .machineWrite _ _ _ | .machineRead _ _ _
  | .subscribe _ _ _ | .stationCharacterTaken _ _ | .headLinkCharacter _ => false

/-- No command stops the part (log 18), none touches the queue, and only the pin events move an input level. -/
def Obligations.EveryCommandAnswersNext : Prop :=
  ∀ (c : Instr) (s : State), ∃ t : State, exec c s = .next t ∧ t.pending = s.pending
    ∧ (movesPin c = false → t.pins = s.pins)

/-- R2 to R4 at a slot that is not the 64th of its window. -/
def Sys2Proof.Safety.SlotsJudgedByCheckAndSequence : Prop :=
  (∀ (t : SampleTelegram) (s : State), s.link.slotCount < 63 →
    ∃ u : State, exec (.sampleTelegramArrival t) s = .next u
      ∧ u.link.missingTimer = .running 750 ∧ u.link.rx = none ∧ u.link.state = s.link.state
      ∧ u.link.slotCount = s.link.slotCount + 1
      ∧ if crc16 (sampleCovered t) = t.check ∧ (t.seq = s.link.expected ∨ s.link.resync = true) then
          u.link.expected = t.seq + 1 ∧ u.link.resync = false ∧ u.link.badCount = s.link.badCount
        else u.link.expected = s.link.expected ∧ u.link.resync = s.link.resync
          ∧ u.link.badCount = s.link.badCount + 1)
  ∧ (∀ s : State, s.link.slotCount < 63 → s.link.missingTimer.isRunning = true →
    ∃ u : State, exec .missingSlot s = .next u
      ∧ u.link.missingTimer = .running 500 ∧ u.link.rx = s.link.rx ∧ u.link.state = s.link.state
      ∧ u.link.slotCount = s.link.slotCount + 1 ∧ u.link.badCount = s.link.badCount + 1
      ∧ u.link.expected = s.link.expected ∧ u.link.resync = s.link.resync)

/-- The plain command of a slot's declaration (R2). -/
def Sys2Proof.Safety.slotCommand : SlotDecl → Instr
  | .arrival t => .sampleTelegramArrival t
  | .missing => .missingSlot

/-- The slot of a declaration is good (R3). -/
def Sys2Proof.Safety.goodSlot (s : State) : SlotDecl → Bool
  | .missing => false
  | .arrival t => decide (crc16 (sampleCovered t) = t.check ∧ (t.seq = s.link.expected ∨ s.link.resync = true))

/-- The bad slots of a window that ends with this slot (R4). -/
def Sys2Proof.Safety.badAtEnd (s : State) (d : SlotDecl) : Nat := s.link.badCount + (if goodSlot s d then 0 else 1)

/-- The link after the 64th slot of a window (R2 to R4). -/
def Sys2Proof.Safety.closedLink (s : State) (d : SlotDecl) : HeadLink :=
  let result : LinkState := if badAtEnd s d < 5 then .sync else .lost
  { s.link with
    state := result
    slotCount := 0
    badCount := 0
    resync := (s.link.resync && !goodSlot s d) || (decide (result = .lost) && decide (s.link.state = .sync))
    rx := match d with
      | .missing => s.link.rx
      | .arrival _ => none
    expected := match d with
      | .missing => s.link.expected
      | .arrival t => if goodSlot s d then t.seq + 1 else s.link.expected
    missingTimer := match d with
      | .missing => .running 500
      | .arrival _ => .running 750 }

/-- R4: the end of a window at an arrival or a missing slot, with its notice; and, for a slot whose sample is dropped with no
procedure and no point dwell, the whole report. That WINDOW_END is the slot that ends the window, the same step as its plain
command, is the model's choice (log 2). -/
def Sys2Proof.Safety.WindowEndDecidesLink : Prop :=
  ∀ (s : State) (d : SlotDecl), s.link.slotCount = 63 → s.link.missingTimer.isRunning = true →
    let result := (closedLink s d).state
    let bad := badAtEnd s d
    (∃ u : State, exec (.windowEnd d) s = .next u ∧ exec (slotCommand d) s = .next u
      ∧ u.link = { (closedLink s d) with sending := u.link.sending, waiting := u.link.waiting }
      ∧ (result ≠ s.link.state → Notified s u (.headLink result bad))
      ∧ (result = s.link.state → Unheard s u .headLink))
    ∧ ((goodSlot s d = false ∨ s.link.state = .lost) → s.std.phase = .idle → s.head.state ≠ .singlePoint →
      let lost : Bool := decide (result = .lost)
      let told (x : State) : State := if result = s.link.state then x else x.offer (.headLink result bad)
      exec (.windowEnd d) s = .next
        (told { s with
          link := closedLink s d
          ring := if lost then s.ring.onFilling (fun r => { r with quality := { r.quality with linkGaps := true } }) else s.ring
          points := { s.points with
            period := s.points.period.map (fun (p : PointPeriod) =>
              { p with slots := p.slots + 1, linkGaps := p.linkGaps || lost }) }
          absent := if lost then ⟨false, 0, 0, false⟩ else s.absent
          hole := if lost then { s.hole with run := 0, marker := false } else s.hole }).settle)

/-- Slots are judged, counted and timed by the receiver, and the 64th of a window decides the link state; that WINDOW_END is
the plain command of that slot is the model's choice (log 2). -/
def Obligations.SlotsAndWindowsJudged : Prop := SlotsJudgedByCheckAndSequence ∧ WindowEndDecidesLink

/-- R6 and R197: the mark bit is set on the command byte and clear on the two bytes of its check. Before the first arrival
the link is LOST (KeepsCountersAndRelay). -/
def Obligations.HeadCommandsOneAtATime : Prop :=
  (∀ s : State, exec .headCommandSent s =
    .next { s with link := { s.link with sending := s.link.waiting, waiting := none } })
  ∧ (∀ (l : HeadLink) (c : HeadCommand),
      (l.sending = none → l.raise c = { l with sending := some c })
        ∧ (l.sending ≠ none → l.raise c = { l with waiting := some c }))
  ∧ (∀ (t : SampleTelegram) (s : State), s.link.missingTimer = .stopped → s.link.state = .lost →
      s.link.sending = none → s.link.slotCount < 63 → s.std.phase = .idle →
      ∃ u : State, exec (.sampleTelegramArrival t) s = .next u ∧ u.link.sending = some .refOut
        ∧ u.link.waiting = s.link.waiting)
  ∧ (∀ s : State, (s.link.sending = none → s.headTx = none)
      ∧ (∀ c, s.link.sending = some c →
        let b : Byte := if c = .refIn then 0xA1 else 0xA2
        let crc := crc16 [b]
        s.headTx = some [⟨true, false, b⟩, ⟨false, false, crc.setWidth 8⟩, ⟨false, false, (crc >>> 8).setWidth 8⟩]))

/-- R1, all but the tenth character, which HeadCharactersMakeArrival treats. -/
def Sys2Proof.Safety.HeadLinkCharacters : Prop :=
  ∀ (c : Character) (s : State),
    (c.framingError = true →
      exec (.headLinkCharacter c) s = .next ({ s with link := { s.link with rx := none } }).settle)
    ∧ (c.framingError = false → c.mark = true →
      exec (.headLinkCharacter c) s = .next ({ s with link := { s.link with rx := some [c.data] } }).settle)
    ∧ (c.framingError = false → c.mark = false → s.link.rx = none →
      exec (.headLinkCharacter c) s = .next s.settle)
    ∧ (∀ bytes, c.framingError = false → c.mark = false → s.link.rx = some bytes → bytes.length < 9 →
      exec (.headLinkCharacter c) s =
        .next ({ s with link := { s.link with rx := some (bytes ++ [c.data]) } }).settle)

/-- R1 with the layout of R197: characters on the wire and the arrival are the same thing. -/
def Sys2Proof.Safety.TenCharactersArrive : Prop :=
  ∀ (s : State) (b0 b1 b2 b3 b4 b5 b6 b7 b8 b9 : Byte), Settled s →
    s.pending = .headLinkCharacter ⟨true, false, b0⟩
      :: ([b1, b2, b3, b4, b5, b6, b7, b8, b9].map (fun b => Instr.headLinkCharacter ⟨false, false, b⟩)) →
    core.run 10 s = exec (.sampleTelegramArrival
      { seq := b0, flags := b1, bwRaw := b3 ++ b2, waterRaw := b5 ++ b4, gapRaw := b7 ++ b6, check := b9 ++ b8 })
      { s with pending := [] }

/-- The head link receiver: marks, errors and stray characters, and ten characters that bring the arrival of their telegram. -/
def Obligations.HeadCharactersMakeArrival : Prop := HeadLinkCharacters ∧ TenCharactersArrive

/-- One converted channel as R7 words it. -/
def Sys2Proof.Safety.convertedAs (z g raw : Nat) (ok : Bool) : Option Nat :=
  if ok = false then none
  else if raw ≤ z then some 0
  else some (min 32767 ((2 * ((raw - z) * g) + 16384) / 32768))

/-- A converted sample taken into the period in progress (R106). -/
def Sys2Proof.Safety.pointPlus (p : PointPeriod) (x : Sample) : PointPeriod :=
  let plus (sc : SumCount) (v : Option Nat) : SumCount :=
    if x.present then (match v with
      | some y => ⟨sc.sum + y, sc.count + 1⟩
      | none => sc)
    else sc
  { p with
    accepted := p.accepted + 1
    sums := ⟨plus p.sums.bw x.bw, plus p.sums.moist x.moist, plus p.sums.cal x.cal⟩ }

/-- R7, R8; and R9 with R106 for the point accumulator, whatever the edge lock, the slot being neither a window's nor the
period's last and its sample not the last of an absence window. -/
def Obligations.ConversionAndClass : Prop :=
  (∀ (s : State) (t : SampleTelegram),
    let x := s.convert t
    let c := s.conv.consts
    let th := (s.activeRecipe.map (fun r => r.measure.threshold)).getD 1
    x.bw = convertedAs c.zero.bw c.gain.bw t.bwRaw.toNat (t.flags.getLsbD 0)
      ∧ x.water = convertedAs c.zero.water c.gain.water t.waterRaw.toNat (t.flags.getLsbD 1)
      ∧ x.cal = convertedAs c.zero.gap c.gain.gap t.gapRaw.toNat (t.flags.getLsbD 2)
      ∧ x.moist = (match x.bw, x.water with
          | some b, some w => if b < th then none else some (min 10000 ((2 * (w * 10000) + b) / (2 * b)))
          | _, _ => none)
      ∧ (x.present = true ↔ ∃ b, x.bw = some b ∧ th ≤ b)
      ∧ x.pos = s.head.position.toNat ∧ x.epoch = s.conv.epoch)
  ∧ (∀ (s : State) (t : SampleTelegram) (p : PointPeriod), PlainSlot s → s.head.state = .singlePoint →
    s.points.period = some p → (s.edges.locked = true → s.absent.assessed < 63) → s.std.phase = .idle →
    crc16 (sampleCovered t) = t.check → (t.seq = s.link.expected ∨ s.link.resync = true) →
    s.link.state = .sync →
    ∃ u : State, exec (.sampleTelegramArrival t) s = .next u ∧ u.points.ring = s.points.ring
      ∧ u.points.period = some { (pointPlus p (s.convert t)) with slots := p.slots + 1 })

/-- R16, the checks of one channel: the gain candidate and the reason. -/
def Sys2Proof.Safety.GainChecksInOrder : Prop :=
  ∀ (drift : Bool) (nominal zeroLimit gainLimit zForce gForce z mean : Nat),
    let r := gainCheck drift nominal zeroLimit gainLimit zForce gForce z mean
    let g := (2 * (nominal * 16384) + (mean - z)) / (2 * (mean - z))
    (mean ≤ z → r = (0, .denominator))
    ∧ (z < mean → r.1 = g
      ∧ (g < 8192 ∨ 32768 < g → r.2 = .gainRange)
      ∧ (8192 ≤ g → g ≤ 32768 → drift = true → (zeroLimit : Int) < |(z : Int) - zForce| → r.2 = .zeroDrift)
      ∧ (8192 ≤ g → g ≤ 32768 → drift = true → |(z : Int) - zForce| ≤ zeroLimit →
          (gainLimit : Int) < |(g : Int) - gForce| → r.2 = .gainDrift)
      ∧ (8192 ≤ g → g ≤ 32768 →
          (drift = false ∨ |(z : Int) - zForce| ≤ zeroLimit ∧ |(g : Int) - gForce| ≤ gainLimit) → r.2 = .pass))

/-- The accepted sample of a slot, if it has one (R3, R5). -/
def Sys2Proof.Safety.acceptedSlot (s : State) : SlotDecl → Option SampleTelegram
  | .missing => none
  | .arrival t =>
    if s.link.state = .sync ∧ crc16 (sampleCovered t) = t.check ∧ (t.seq = s.link.expected ∨ s.link.resync = true) then
      some t
    else none

/-- One channel's sum and count once a slot's sample is taken into a collection (R13). -/
def Sys2Proof.Safety.channelAfter (s : State) (x : Option SampleTelegram) (ok : Nat) (raw : SampleTelegram → BitVec 16) (r : Reason)
    (sc : SumCount) : SumCount :=
  match x with
  | none => sc
  | some t =>
    if r = .none ∧ t.flags.getLsbD ok = true ∧ t.flags.getLsbD 3 = decide (s.std.phase = .reference)
        ∧ sc.count < s.std.params.samples then
      ⟨sc.sum + (raw t).toNat, sc.count + 1⟩
    else sc

/-- The sums of a collection once a slot's sample is taken. -/
def Sys2Proof.Safety.sumsAfter (s : State) (x : Option SampleTelegram) : PerChannel SumCount :=
  ⟨channelAfter s x 0 (fun t => t.bwRaw) s.std.reasons.bw s.std.sums.bw,
    channelAfter s x 1 (fun t => t.waterRaw) s.std.reasons.water s.std.sums.water,
    channelAfter s x 2 (fun t => t.gapRaw) s.std.reasons.gap s.std.sums.gap⟩

/-- R13's failure of a channel still short when its collection ends. -/
def Sys2Proof.Safety.shortFails (n : Nat) (r : Reason) (sc : SumCount) : Reason :=
  if r = .none ∧ sc.count < n then .noData else r

/-- One channel at the end of a REFERENCE collection: failed before, short, or given its mean and its check
(R13, R16). -/
def Sys2Proof.Safety.referenceJudged (s : State) (nominal zeroLimit zForce gForce : Nat) (r : Reason) (sc : SumCount)
    (c : Candidate) : Candidate × Reason :=
  let p := s.std.params
  if r ≠ .none then (c, r)
  else if sc.count < p.samples then (c, .noData)
  else
    let m := roundHalfUp sc.sum p.samples
    let k := gainCheck (decide (s.conv.epoch ≠ 0)) nominal zeroLimit p.gainDrift zForce gForce c.z m
    (⟨c.z, m, k.1⟩, k.2)

/-- A head command raised (R6). -/
def Sys2Proof.Safety.CommandRaised (s u : State) (c : HeadCommand) : Prop :=
  (s.link.sending = none → u.link.sending = some c ∧ u.link.waiting = s.link.waiting)
    ∧ (s.link.sending ≠ none → u.link.sending = s.link.sending ∧ u.link.waiting = some c)

/-- The collection ends at this slot: its limit is reached, or every channel is collected or has failed (R13). -/
def Sys2Proof.Safety.CollectionOver (s : State) (sums : PerChannel SumCount) : Prop :=
  let n := s.std.params.samples
  4 * n ≤ s.std.slotCount + 1
    ∨ (s.std.reasons.bw ≠ .none ∨ n ≤ sums.bw.count) ∧ (s.std.reasons.water ≠ .none ∨ n ≤ sums.water.count)
      ∧ (s.std.reasons.gap ≠ .none ∨ n ≤ sums.gap.count)

/-- R14: the end of the ZERO collection with these sums. -/
def Sys2Proof.Safety.ZeroEnded (s u : State) (sums : PerChannel SumCount) : Prop :=
  let n := s.std.params.samples
  let reasons := s.std.reasons.zip (shortFails n) sums
  u.std.reasons = reasons ∧ u.std.collecting = false ∧ u.conv = s.conv
    ∧ u.std.cand = reasons.zip (fun r sc => if r = .none then ⟨roundHalfUp sc.sum n, 0, 0⟩ else ⟨0, 0, 0⟩) sums
    ∧ (if reasons.bw ≠ .none ∧ reasons.water ≠ .none ∧ reasons.gap ≠ .none then
        u.std.phase = .withdraw ∧ u.std.withdrawTimer = .running 2000000 ∧ CommandRaised s u .refOut
      else u.std.phase = .reference ∧ u.std.tileTimer = .running 2000000 ∧ CommandRaised s u .refIn)

/-- R16: the end of the REFERENCE collection with these sums. -/
def Sys2Proof.Safety.ReferenceEnded (s u : State) (sums : PerChannel SumCount) : Prop :=
  let p := s.std.params
  let f := s.conv.consts
  let d := s.std
  let bw := referenceJudged s p.nominal.bw p.zeroDrift.bw f.zero.bw f.gain.bw d.reasons.bw sums.bw d.cand.bw
  let wa := referenceJudged s p.nominal.water p.zeroDrift.water f.zero.water f.gain.water d.reasons.water sums.water
    d.cand.water
  let ga := referenceJudged s p.nominal.gap p.zeroDrift.gap f.zero.gap f.gain.gap d.reasons.gap sums.gap d.cand.gap
  u.std.phase = .withdraw ∧ u.std.withdrawTimer = .running 2000000 ∧ u.std.collecting = false
    ∧ CommandRaised s u .refOut ∧ u.std.reasons = ⟨bw.2, wa.2, ga.2⟩ ∧ u.std.cand = ⟨bw.1, wa.1, ga.1⟩
    ∧ (bw.2 = .pass ∧ wa.2 = .pass ∧ ga.2 = .pass → u.conv = { s.conv with
        pendingSet := some ⟨⟨bw.1.z, wa.1.z, ga.1.z⟩, ⟨bw.1.g, wa.1.g, ga.1.g⟩⟩ })
    ∧ (¬(bw.2 = .pass ∧ wa.2 = .pass ∧ ga.2 = .pass) → u.conv = s.conv)

/-- One slot of a running collection, with its sample if that is accepted: the sample first, then the end (R13). -/
def Sys2Proof.Safety.CollectionSlot (s u : State) (x : Option SampleTelegram) : Prop :=
  let sums := sumsAfter s x
  u.head = s.head
    ∧ (¬CollectionOver s sums →
        u.std = { s.std with sums := sums, slotCount := s.std.slotCount + 1 } ∧ u.conv = s.conv
          ∧ u.link.sending = s.link.sending ∧ u.link.waiting = s.link.waiting)
    ∧ (CollectionOver s sums → s.std.phase = .zero → ZeroEnded s u sums)
    ∧ (CollectionOver s sums → s.std.phase = .reference → ReferenceEnded s u sums)

/-- R13 to R16 at a slot that ends no window, by an arrival or missing; that STD_SLOT_LIMIT is the slot that reaches the
limit is log 2. -/
def Sys2Proof.Safety.CollectionTakesSlots : Prop :=
  ∀ (s : State) (d : SlotDecl), s.link.slotCount < 63 → s.link.missingTimer.isRunning = true →
    s.head.state = .standardizing →
    let x := acceptedSlot s d
    (s.std.collecting = true → (s.std.phase = .zero ∨ s.std.phase = .reference) →
      ∃ u : State, exec (slotCommand d) s = .next u ∧ CollectionSlot s u x
        ∧ (4 * s.std.params.samples ≤ s.std.slotCount + 1 → exec (.stdSlotLimit d) s = .next u))
    ∧ (s.std.phase = .reference → s.std.collecting = false →
      (∀ t, x = some t → t.flags.getLsbD 3 = true →
        let begun : State := { s with std := { s.std with
          collecting := true, tileTimer := .stopped, sums := ⟨⟨0, 0⟩, ⟨0, 0⟩, ⟨0, 0⟩⟩, slotCount := 0 } }
        ∃ u : State, exec (slotCommand d) s = .next u ∧ CollectionSlot begun u x
          ∧ (u.std.phase = .reference → u.std.tileTimer = .stopped))
      ∧ ((∀ t, x = some t → t.flags.getLsbD 3 = false) →
        ∃ u : State, exec (slotCommand d) s = .next u ∧ u.std = s.std ∧ u.conv = s.conv ∧ u.head = s.head))

/-- A collection takes its slots and ends collected or at its limit: sums, NO_DATA, candidates, the four checks of a channel in order. -/
def Obligations.CollectionEndJudged : Prop := GainChecksInOrder ∧ CollectionTakesSlots

/-- R15, the expiry taken first; R17, the entry to WITHDRAW. -/
def Sys2Proof.Safety.TileTimerExpiryFailsWithTile : Prop :=
  ∀ s : State, s.std.phase = .reference → s.std.collecting = false →
    exec .tileTimerExpiry s = .next ({ s with
      std := { s.std with
        phase := .withdraw
        reasons := s.std.reasons.map (fun (r : Reason) => if r = Reason.none then Reason.tile else r)
        tileTimer := .stopped
        withdrawTimer := .running 2000000 }
      link := s.link.raise .refOut }).settle

/-- R17's stuck tile with R19 and the head's fault (R38), for a head that is STANDARDIZING as R30 has it. That the
STANDARDIZE notice is offered before the HEAD_STATE notice is the model's choice (log 26). -/
def Sys2Proof.Safety.WithdrawTimerExpiryFaultsWithTile : Prop :=
  ∀ s : State, s.std.phase = .withdraw → s.head.state = .standardizing → s.head.scan = none →
    let reasons := s.std.reasons.map (fun (r : Reason) => if r = Reason.pass then Reason.tile else r)
    let n := min 3 (s.std.failCount + 1)
    let slots := s.head.slots.map (fun m => if m = .standardize then ModeSlot.none else m)
    exec .withdrawTimerExpiry s = .next
      ((({ s with
          conv := { s.conv with pendingSet := none }
          std := { s.std with
            phase := .idle, outcome := .fail, reasons := reasons, collecting := false, tileTimer := .stopped,
            withdrawTimer := .stopped, failCount := n, scanCounter := 0, stdDue := false }
          head := { s.head with
            state := .fault, cause := .tile, grant := .none, slots := slots, drvEn := false, drvSpd := 0,
            encTimer := .stopped, homingTimer := .stopped }
          points := { s.points with period := none } }
        ).offer (.standardize .fail reasons s.conv.epoch n)).offer
          (.headState .fault .idle .tile .none s.head.position)).settle

/-- The tile timer fails the waiting channels with TILE; the withdraw timer ends the procedure with FAIL and faults the head. -/
def Obligations.StdTimersExpire : Prop := TileTimerExpiryFailsWithTile ∧ WithdrawTimerExpiryFaultsWithTile

/-- R18 with the adoption of R10, and R19. -/
def Obligations.TileClearingCommits : Prop :=
  ∀ (s : State) (t : SampleTelegram), PlainSlot s → s.head.state = .standardizing → s.std.phase = .withdraw →
    s.link.state = .sync → crc16 (sampleCovered t) = t.check →
    (t.seq = s.link.expected ∨ s.link.resync = true) → t.flags.getLsbD 3 = false →
    (∀ c : ConstSet, s.std.reasons = ⟨.pass, .pass, .pass⟩ → s.conv.pendingSet = some c →
      ∃ u : State, exec (.sampleTelegramArrival t) s = .next u ∧ u.conv.consts = c ∧ u.conv.pendingSet = none
        ∧ u.conv.epoch = (if s.conv.epoch = 4294967295#32 then 1 else s.conv.epoch + 1)
        ∧ u.std.outcome = .commit ∧ u.std.failCount = 0 ∧ u.std.scanCounter = 0 ∧ u.std.stdDue = false
        ∧ u.std.phase = .idle ∧ u.std.reasons = ⟨.pass, .pass, .pass⟩
        ∧ (∀ st, u.head.slots.get st = .none ∨ u.head.slots.get st = s.head.slots.get st)
        ∧ (∀ st, u.head.slots.get st ≠ .standardize))
    ∧ (s.std.reasons ≠ ⟨.pass, .pass, .pass⟩ → s.head.scan = none →
      ∃ u : State, exec (.sampleTelegramArrival t) s = .next u ∧ u.conv = { s.conv with pendingSet := none }
        ∧ u.std.outcome = .fail ∧ u.std.failCount = min 3 (s.std.failCount + 1) ∧ u.std.scanCounter = 0
        ∧ u.std.stdDue = false ∧ u.std.phase = .idle ∧ u.std.reasons = s.std.reasons
        ∧ (∀ st, u.head.slots.get st = (if s.head.slots.get st = .standardize then .none else s.head.slots.get st))
        ∧ (3 ≤ s.std.failCount + 1 →
            u.head.state = .fault ∧ u.head.cause = .standardize ∧ u.head.grant = .none ∧ u.head.drvEn = false)
        ∧ (s.std.failCount + 1 < 3 → u.head.state ≠ .standardizing
            ∧ (u.head.state = .fault → u.head.cause = .drive)))

/-- R187: the snapshot with the flag as it stands, then the flag cleared; also while a request is pending. -/
def Sys2Proof.Safety.StatusReplies : Prop :=
  ∀ (s : State) (st : Station) (tag : Byte),
    (s.ports.get st).replies.length + (if (s.ports.get st).pending = none then 0 else 1) < 4 →
    ∃ report : StatusReport,
      exec (.status st tag []) s = .next (s.onPort st (fun p => { heardPort p with
        replies := p.replies ++ [⟨some .status, tag, .report report⟩], dropped := false })).settle
      ∧ report.head = s.head.state ∧ report.phase = s.std.phase ∧ report.cause = s.head.cause
      ∧ report.brk = s.brk.state ∧ report.causes = s.brk.causes ∧ report.breakCount = s.brk.count
      ∧ report.link = s.link.state ∧ report.locked = s.edges.locked ∧ report.newest = s.ring.newest
      ∧ report.epoch = s.conv.epoch ∧ report.speed = s.speed.speed
      ∧ (report.tachHeld = true ↔ s.speed.watch = .held)
      ∧ report.ownSlot = s.head.slots.get st
      ∧ (report.ownPending = true ↔ (s.ports.get st).pending ≠ none)
      ∧ report.ownDropped = (s.ports.get st).dropped
      ∧ (∀ i, report.active = some (i, (s.store.slots.get i).generation) ↔ s.store.active = some i)
      ∧ report.pending = s.store.pendingSlot
      ∧ (∀ i, s.store.active = some i → (s.store.slots.get i).state = .active)
      ∧ (s.store.active = none ↔ ∀ i, (s.store.slots.get i).state ≠ .active)
      ∧ (report.ownHold = none ↔ ∀ r ∈ s.ring.records, r.holds.get st = false)
      ∧ (∀ (i : Nat) (r : ScanRecord) (n : BitVec 16), s.ring.records[i]? = some r → r.holds.get st = true →
          r.number = some n → (∀ (j : Nat) (r' : ScanRecord), j < i → s.ring.records[j]? = some r' →
            r'.holds.get st = false) → report.ownHold = some n)

/-- R109. -/
def Sys2Proof.Safety.ReadPointsReplies : Prop :=
  ∀ (s : State) (st : Station) (tag f0 f1 c0 c1 : Byte), Ready s st →
    let count := c0.toNat + 256 * c1.toNat
    let n : Int := if 32 < count then 32 else count
    exec (.readPoints st tag [f0, f1, c0, c1]) s = .next
      (answered s st .readPoints tag
        (if count = 0 then .status .badField
         else .points (if 32 < count then .clamped else .ok) s.points.next
          (s.points.ring.filter (fun r =>
            decide (0 ≤ (r.number - (f1 ++ f0)).toInt ∧ (r.number - (f1 ++ f0)).toInt < n))))).settle

/-- R22. -/
def Sys2Proof.Safety.ReadStandardizationReplies : Prop :=
  ∀ (s : State) (st : Station) (tag : Byte), Ready s st →
    exec (.readStandardization st tag []) s = .next (answered s st .readStandardization tag (.standardization
      ⟨s.conv.consts, s.conv.epoch, s.std.phase, s.std.cand, s.std.outcome, s.std.reasons, s.std.failCount,
        s.std.stdDue, s.std.scanCounter⟩)).settle

/-- STATUS, READ_POINTS and READ_STANDARDIZATION reply at once from the state as it stands and change nothing else. -/
def Obligations.ReadsReplyFromState : Prop := StatusReplies ∧ ReadPointsReplies ∧ ReadStandardizationReplies

/-- The head once a count is taken, before any arrival (R24, R27). -/
def Sys2Proof.Safety.counted (h : Head) (dir : CountDir) : Head :=
  { h with
    position := match dir with
      | .towardB => h.position + 1
      | .towardA => h.position - 1
    encTimer := match h.encTimer with
      | .stopped => .stopped
      | .running _ => .running 100000 }

/-- The position the head is moving to, if it moves to one (R31, R33, R35, R36). -/
def Sys2Proof.Safety.moveTarget (s : State) : Option Nat :=
  match s.head.state with
  | .homing | .parked | .standardizing | .singlePoint | .fault => none
  | .scanning .approach => some s.recipe.geometry.a
  | .scanning .fwd | .scanning .rev =>
    s.head.scan.map (fun x => match x.dir with
      | .fwd => x.limitB
      | .rev => x.limitA)
  | .positioning => some s.head.pointPos
  | .returning => some 0

/-- R24 and R27. -/
def Obligations.CountMovesPosition : Prop :=
  ∀ (dir : CountDir) (s : State),
    (∃ u : State, exec (.encoderCount dir) s = .next u ∧ u.head.position = (counted s.head dir).position)
    ∧ (moveTarget s ≠ some (counted s.head dir).position.toNat →
        exec (.encoderCount dir) s = .next ({ s with head := counted s.head dir }).settle)

/-- R31 and R32, R36 and R37; and R35 with the decision of R44 at the arrival in PARKED. -/
def Obligations.MovesArrive : Prop :=
  ∀ (dir : CountDir) (s : State), moveTarget s = some (counted s.head dir).position.toNat →
    (s.head.state = .scanning .approach → s.conv.pendingSet = none →
      ∃ u : State, exec (.encoderCount dir) s = .next u ∧ u.head.state = .scanning .fwd
        ∧ u.head.scan = some ⟨.fwd, s.recipe.geometry.a, s.recipe.geometry.b⟩
        ∧ u.head.drvEn = true ∧ u.head.drvDir = true ∧ u.head.encTimer = .running 100000
        ∧ u.ring = { s.ring with records := s.ring.records.modify s.ring.pick (fun _ => s.freshRecord .fwd) }
        ∧ u.bins = List.replicate s.recipe.geometry.n ⟨⟨0, 0⟩, ⟨0, 0⟩, ⟨0, 0⟩⟩
        ∧ u.edges.run = ⟨0, 0, none, none⟩ ∧ u.profile = { s.profile with continuity := false })
    ∧ (s.head.state = .positioning → s.conv.pendingSet = none →
      ∃ u : State, exec (.encoderCount dir) s = .next u ∧ u.head.state = .singlePoint ∧ u.head.drvEn = false
        ∧ u.head.drvSpd = 0 ∧ u.head.encTimer = .stopped ∧ u.head.grant = s.head.grant
        ∧ u.points.period = some
            { p := s.head.pointPos, length := s.recipe.motion.pointSamples, slots := 0,
              sums := ⟨⟨0, 0⟩, ⟨0, 0⟩, ⟨0, 0⟩⟩, accepted := 0, epoch := s.conv.epoch, mdStart := s.mdMetres,
              linkGaps := false, tachHeld := s.tachHeld }
        ∧ u.points.ring = s.points.ring ∧ u.points.next = s.points.next
        ∧ u.ring = s.ring)
    ∧ (s.head.state = .returning →
      let still (u : State) : Prop := u.head.drvEn = false ∧ u.head.drvSpd = 0 ∧ u.head.encTimer = .stopped
        ∧ u.head.slots = s.head.slots ∧ u.ring = s.ring
      let parked (u : State) (g : Grant) : Prop :=
        u.head.state = .parked ∧ u.head.grant = g ∧ still u ∧ u.std = s.std
      let isPoint (m : ModeSlot) : Prop := ∃ p, m = .point p
      (¬NoHold s → ∃ u : State, exec (.encoderCount dir) s = .next u ∧ parked u .hold)
      ∧ (NoHold s →
        (∀ low, LowestWith s.head.slots (fun m => m = .park) low →
          ∃ u : State, exec (.encoderCount dir) s = .next u ∧ parked u (.park low))
        ∧ ((∀ j, s.head.slots.get j ≠ .park) →
          ((s.std.stdDue = true ∨ ∃ j, s.head.slots.get j = .standardize) → s.store.machineSet = true →
            ∃ u : State, exec (.encoderCount dir) s = .next u ∧ u.head.state = .standardizing
              ∧ u.head.grant = .standardize ∧ still u ∧ u.std = startedStd s)
          ∧ (s.std.stdDue = false → (∀ j, s.head.slots.get j ≠ .standardize) → s.pins.drvRdy = true →
            (∀ low, LowestWith s.head.slots isPoint low →
              let p := max s.recipe.geometry.a (min s.recipe.geometry.b (s.head.slots.get low).pos)
              p ≠ 0 →
              ∃ u : State, exec (.encoderCount dir) s = .next u ∧ u.head.state = .positioning
                ∧ u.head.grant = .point low p ∧ u.head.pointPos = p ∧ u.head.drvEn = true ∧ u.head.drvDir = true
                ∧ u.ring = s.ring)
            ∧ ((∀ j, ¬isPoint (s.head.slots.get j)) → s.store.active.isSome = true →
              (s.brk.state = .running ∨ s.brk.state = .recovering) → s.recipe.geometry.a ≠ 0 →
              ∃ u : State, exec (.encoderCount dir) s = .next u ∧ u.head.state = .scanning .approach
                ∧ u.head.grant = .scan ∧ u.head.drvEn = true ∧ u.head.drvDir = true ∧ u.head.scan = s.head.scan
                ∧ u.ring = s.ring)))))

/-- The count brings the scan in progress x, whose record stands at index i of the ring, to its opposite limit (R33). -/
def Sys2Proof.Safety.CompletesScan (dir : CountDir) (s : State) (x : ActiveScan) (i : Nat) : Prop :=
  measuringLeg s.head.state = true ∧ s.head.scan = some x ∧ s.ring.filling = some i
    ∧ (counted s.head dir).position.toNat = (match x.dir with
      | .fwd => x.limitB
      | .rev => x.limitA)

/-- Std-due after a completion: as it stood, or set by the completing scan's std interval (R11). -/
def Sys2Proof.Safety.dueAfter (s : State) : Prop :=
  s.std.stdDue = true ∨ s.recipe.measure.stdInterval ≠ 0
    ∧ s.recipe.measure.stdInterval ≤ min 255 (s.std.scanCounter + 1)

/-- The record of a completed scan beside the FILLING record it was (R88, R91). -/
def Sys2Proof.Safety.ClosedFrom (s : State) (old r : ScanRecord) : Prop :=
  r.status = .complete ∧ r.number = some (s.ring.newest + 1) ∧ r.mdEnd = s.mdMetres ∧ r.speed = s.speed.speed
    ∧ r.dir = old.dir ∧ r.slot = old.slot ∧ r.generation = old.generation ∧ r.layout = old.layout
    ∧ r.zoneCount = old.zoneCount ∧ r.epoch = old.epoch ∧ r.mdStart = old.mdStart
    ∧ r.quality.provisional = (old.quality.provisional || decide (s.brk.state = .recovering))
    ∧ r.quality.tachHeld = (old.quality.tachHeld || s.tachHeld)
    ∧ r.quality.linkGaps = old.quality.linkGaps ∧ r.quality.unstandardized = old.quality.unstandardized

/-- R33 with R91, R104, R11 and R135. -/
def Sys2Proof.Safety.ScanCompletionNumbersRecord : Prop :=
  ∀ (dir : CountDir) (s : State) (x : ActiveScan) (i : Nat), CompletesScan dir s x i →
    ∃ (u : State) (e : TrendEntry), exec (.encoderCount dir) s = .next u ∧ u.ring.newest = s.ring.newest + 1
      ∧ u.trend = (s.trend ++ [e]).drop (s.trend.length + 1 - 16)
      ∧ e.number = s.ring.newest + 1 ∧ e.dir = (s.ring.at i).dir ∧ e.mdEnd = s.mdMetres
      ∧ Notified s u (.scanDone e.number e.dir e.quality e.avg)
      ∧ u.std.scanCounter = min 255 (s.std.scanCounter + 1)
      ∧ ((counted s.head dir).position ≠ 0 → PickBeside s.ring i →
          ∃ r, u.ring.records[i]? = some r ∧ ClosedFrom s (s.ring.at i) r ∧ r.quality = e.quality
            ∧ r.meas.bw.avg = e.avg.bw ∧ r.meas.moist.avg = e.avg.moist ∧ r.meas.cal.avg = e.avg.cal)
      ∧ (s.store.pendingSlot = none → (counted s.head dir).position ≠ 0 → (u.std.stdDue = true ↔ dueAfter s))
      ∧ (s.store.pendingSlot = none →
          let n := min 8 (s.brk.recoveryCount + 1)
          (s.brk.state ≠ .recovering → u.brk = s.brk)
          ∧ (s.brk.state = .recovering → n < s.recipe.brk.recoveryScans →
              u.brk = { s.brk with recoveryCount := n })
          ∧ (s.brk.state = .recovering → s.recipe.brk.recoveryScans ≤ n →
              u.brk = { s.brk with recoveryCount := n, state := .running }
                ∧ Told u (.breakState .running s.brk.causes s.brk.count)))

/-- R44's table of decisions at a completion, and R168's activation before it with its notice (R171); no station holds
PARK. -/
def Sys2Proof.Safety.CompletionDecisions : Prop :=
  ∀ (dir : CountDir) (s : State) (x : ActiveScan) (i : Nat), CompletesScan dir s x i →
    (s.brk.state = .running ∨ s.brk.state = .recovering) → (counted s.head dir).position ≠ 0 →
    (∀ j, s.head.slots.get j ≠ .park) →
    let pos := (counted s.head dir).position.toNat
    let std : Prop := dueAfter s ∨ ∃ j, s.head.slots.get j = .standardize
    let isPoint (m : ModeSlot) : Prop := ∃ p, m = .point p
    let target (g : Geometry) (low : Station) : Nat := max g.a (min g.b (s.head.slots.get low).pos)
    let toPoint (u : State) (low : Station) (p : Nat) : Prop :=
      u.head.grant = .point low p ∧ u.head.pointPos = p ∧ u.head.scan = none
        ∧ (pos ≠ p → u.head.state = .positioning ∧ u.head.drvEn = true ∧ u.head.drvDir = decide (pos < p))
        ∧ (pos = p → u.head.state = .singlePoint ∧ u.head.drvEn = false ∧ u.points.period.isSome = true)
    (s.store.pendingSlot = none → s.store.active.isSome = true →
      ∃ u : State, exec (.encoderCount dir) s = .next u
        ∧ (std → u.head.grant = .standardize
            ∧ (x.dir = .fwd → u.head.state = .scanning .rev ∧ u.head.drvDir = false ∧ u.head.drvEn = true)
            ∧ (x.dir = .rev →
                u.head.state = .returning ∧ u.head.drvDir = false ∧ u.head.drvEn = true ∧ u.head.scan = none))
        ∧ (∀ low, ¬std → LowestWith s.head.slots isPoint low → toPoint u low (target s.recipe.geometry low))
        ∧ (¬std → (∀ j, ¬isPoint (s.head.slots.get j)) → u.head.grant = .scan ∧ u.head.drvEn = true
            ∧ (x.dir = .fwd → u.head.state = .scanning .rev ∧ u.head.drvDir = false)
            ∧ (x.dir = .rev → u.head.state = .scanning .fwd ∧ u.head.drvDir = true)))
    ∧ (∀ k, s.store.pendingSlot = some k → QuietUnder (s.store.slots.get k).recipe s →
      let g := (s.store.slots.get k).recipe.geometry
      ∃ u : State, exec (.encoderCount dir) s = .next u ∧ Activated s u k ∧ Notified s u (recipeNews u .activated)
        ∧ (std → u.head.grant = .standardize ∧ u.head.state = .returning ∧ u.head.drvDir = false
            ∧ u.head.drvEn = true ∧ u.head.scan = none)
        ∧ (∀ low, ¬std → LowestWith s.head.slots isPoint low → toPoint u low (target g low))
        ∧ (¬std → (∀ j, ¬isPoint (s.head.slots.get j)) → pos ≠ g.a →
            u.head.grant = .scan ∧ u.head.state = .scanning .approach ∧ u.head.drvEn = true
              ∧ u.head.drvDir = decide (pos < g.a) ∧ u.head.scan = none))

/-- A scan completion closes and numbers its record, counts the scan, activates a PENDING slot, and the winning claim decides. -/
def Obligations.CompletionNumbersAndDecides : Prop := ScanCompletionNumbersRecord ∧ CompletionDecisions

/-- R29, and R24 for the index outside HOMING. -/
def Obligations.HomingSearchAndIndex : Prop :=
  ∀ s : State,
    (s.head.state = .homing → s.head.drvEn = false →
      exec .drvRdyHigh s = .next { s with
        pins := { s.pins with drvRdy := true }
        head := { s.head with drvEn := true, drvDir := false, drvSpd := 1, encTimer := .running 100000 } })
    ∧ ((s.head.state ≠ .homing ∨ s.head.drvEn = true) →
      exec .drvRdyHigh s = .next { s with pins := { s.pins with drvRdy := true } })
    ∧ (s.head.state = .homing → s.winner = .none →
      ∃ u : State, exec .indexPulse s = .next u ∧ u.head = { s.head with
        state := .parked, position := 0, grant := .none, drvEn := false, drvSpd := 0, encTimer := .stopped,
        homingTimer := .stopped })
    ∧ (s.head.state ≠ .homing → exec .indexPulse s = .next s.settle)

/-- The head of a state that has entered FAULT (R38); that the homing timer stops at every fault is log 25. -/
def Sys2Proof.Safety.faultedHead (s : State) (cause : FaultCause) : Head :=
  { s.head with
    state := .fault, cause := cause, grant := .none, drvEn := false, drvSpd := 0, encTimer := .stopped,
    homingTimer := .stopped, scan := none }

/-- What R38 lists for the entry to FAULT, the homing timer by log 25. -/
def Sys2Proof.Safety.EntersFault (s u : State) (cause : FaultCause) : Prop :=
  u.head = faultedHead s cause
    ∧ u.points = { s.points with period := none }
    ∧ u.std.phase = .idle ∧ u.std.outcome = (if s.std.phase = .idle then s.std.outcome else .abort)
    ∧ u.std.stdDue = s.std.stdDue ∧ u.std.failCount = s.std.failCount ∧ u.std.scanCounter = s.std.scanCounter
    ∧ u.ring.newest = s.ring.newest
    ∧ (s.head.scan.isSome = true →
        u.ring = s.ring.onFilling (fun r => { r with status := .void }) ∧ u.profile.continuity = false
          ∧ u.bins = [])

/-- A fault that ends a scan with slot k PENDING: the scan aborted, the slot activated (R34, R168). -/
def Sys2Proof.Safety.FaultActivates (s u : State) (cause : FaultCause) (k : SlotNo) : Prop :=
  u.head = faultedHead s cause ∧ Activated s u k ∧ u.bins = []
    ∧ u.ring = s.ring.onFilling (fun r => { r with status := .void })

/-- R26 to R29 and R38, the homing timer by log 25; a scan that the fault ends is aborted as R34 says. -/
def Obligations.FaultEventsEnterFault : Prop :=
  ∀ s : State,
    (s.head.state ≠ .fault → s.store.pendingSlot = none →
      (s.head.drvEn = true → ∃ u : State, exec .drvRdyLow s = .next u ∧ EntersFault s u .drive ∧ u.pins.drvRdy = false)
      ∧ (s.head.encTimer.isRunning = true →
          ∃ u : State, exec .encoderLossTimerExpiry s = .next u ∧ EntersFault s u .encoder)
      ∧ (∀ sw, ∃ u : State, exec (.overtravel sw true) s = .next u ∧ EntersFault s u .overtravel)
      ∧ (s.head.state = .homing → ∃ u : State, exec .homingTimerExpiry s = .next u ∧ EntersFault s u .homing))
    ∧ (∀ k, s.head.state ≠ .fault → s.head.scan.isSome = true → s.store.pendingSlot = some k →
      (s.head.drvEn = true → ∃ u : State, exec .drvRdyLow s = .next u ∧ FaultActivates s u .drive k)
      ∧ (s.head.encTimer.isRunning = true →
          ∃ u : State, exec .encoderLossTimerExpiry s = .next u ∧ FaultActivates s u .encoder k)
      ∧ (∀ sw, ∃ u : State, exec (.overtravel sw true) s = .next u ∧ FaultActivates s u .overtravel k))
    ∧ (s.head.state = .fault →
      exec .drvRdyLow s = .next ({ s with pins := { s.pins with drvRdy := false } }).settle
      ∧ exec .encoderLossTimerExpiry s = .next s.settle ∧ exec .homingTimerExpiry s = .next s.settle
      ∧ exec (.overtravel .a true) s = .next ({ s with pins := { s.pins with otA := true } }).settle
      ∧ exec (.overtravel .b true) s = .next ({ s with pins := { s.pins with otB := true } }).settle)
    ∧ (s.head.drvEn = false →
      exec .drvRdyLow s = .next ({ s with pins := { s.pins with drvRdy := false } }).settle)
    ∧ exec (.overtravel .a false) s = .next ({ s with pins := { s.pins with otA := false } }).settle
    ∧ exec (.overtravel .b false) s = .next ({ s with pins := { s.pins with otB := false } }).settle

/-- R39 with the entry to HOMING of R29. -/
def Obligations.ClearFaultEntersHoming : Prop :=
  ∀ (s : State) (st : Station) (tag : Byte), Ready s st →
    (s.head.state = .fault → s.pins.drvRdy = true → s.pins.otA = false → s.pins.otB = false →
      ∃ u : State, exec (.clearFault st tag []) s = .next u.settle
        ∧ u.head = { s.head with
            state := .homing, cause := .none, grant := .none, drvEn := true, drvDir := false, drvSpd := 1,
            encTimer := .running 100000, homingTimer := .running 120000000 }
        ∧ u.std = { s.std with failCount := 0 }
        ∧ u.ports = ((answered s st .clearFault tag (.status .ok)).offer
            (.headState .homing s.std.phase .none .none s.head.position)).ports
        ∧ u.ring = s.ring ∧ u.points = s.points ∧ u.brk = s.brk ∧ u.store = s.store)
    ∧ ((s.head.state ≠ .fault ∨ s.pins.drvRdy = false) →
      exec (.clearFault st tag []) s = .next (answered s st .clearFault tag (.status .state)).settle)

/-- The decision of a PARKED head under no break hold, once the mode slots and std-due are as given (R41, R42, R44): PARK
keeps it, standardization starts a procedure, which under an EMPTY machine record ends at once and consumes the
STANDARDIZE slots (R12), POINT and default scanning set it going if the drive is ready (R26). That the drive is judged
before an arrival at once, at a head that stands at its target, is the model's choice (log 23). -/
def Sys2Proof.Safety.DecidesAtPark (s : State) (slots : Four ModeSlot) (due : Bool) (u : State) : Prop :=
  let isPoint (m : ModeSlot) : Prop := ∃ p, m = .point p
  let g := s.recipe.geometry
  let pos := s.head.position.toNat
  let scans : Prop := s.store.active.isSome = true ∧ (s.brk.state = .running ∨ s.brk.state = .recovering)
  (∀ low, LowestWith slots (fun m => m = .park) low →
      u.head = { s.head with slots := slots, grant := .park low } ∧ u.std = { s.std with stdDue := due })
    ∧ ((∀ j, slots.get j ≠ .park) →
      ((due = true ∨ ∃ j, slots.get j = .standardize) →
        (s.store.machineSet = true →
          u.head = { s.head with slots := slots, state := .standardizing, grant := .standardize }
            ∧ u.std = { (startedStd s) with stdDue := due })
        ∧ (s.store.machineSet = false → u.std.phase = .idle ∧ u.std.outcome = .fail
            ∧ u.std.reasons = ⟨.noRecord, .noRecord, .noRecord⟩ ∧ u.std.stdDue = false
            ∧ (∀ j, u.head.slots.get j = (if slots.get j = .standardize then .none else slots.get j))
            ∧ u.head.state ≠ .standardizing))
      ∧ (due = false → (∀ j, slots.get j ≠ .standardize) →
        (∀ low, LowestWith slots isPoint low → s.pins.drvRdy = true →
          let p := max g.a (min g.b (slots.get low).pos)
          pos ≠ p →
          u.head.state = .positioning ∧ u.head.grant = .point low p ∧ u.head.pointPos = p ∧ u.head.slots = slots
            ∧ u.head.drvEn = true ∧ u.head.drvDir = decide (pos < p))
        ∧ ((∀ j, ¬isPoint (slots.get j)) → scans → s.pins.drvRdy = true → pos ≠ g.a →
            u.head.state = .scanning .approach ∧ u.head.grant = .scan ∧ u.head.slots = slots
              ∧ u.head.drvEn = true ∧ u.head.drvDir = decide (pos < g.a))
        ∧ (((∃ j, isPoint (slots.get j)) ∨ scans) → s.pins.drvRdy = false →
            u.head.state = .fault ∧ u.head.cause = .drive ∧ u.head.slots = slots)
        ∧ ((∀ j, ¬isPoint (slots.get j)) → ¬scans → u.head = { s.head with slots := slots, grant := .none })))

/-- A change of claims while PARKED: the break hold keeps the head, else it decides (R42, R44). -/
def Sys2Proof.Safety.RedecidesAtPark (s : State) (slots : Four ModeSlot) (due : Bool) (u : State) : Prop :=
  (¬NoHold s → u.head = { s.head with slots := slots, grant := .hold } ∧ u.std = { s.std with stdDue := due })
    ∧ (NoHold s → DecidesAtPark s slots due u)

/-- R40, but for PARK, which ParkAbortsScan and ParkTakesHeadHome treat; while PARKED a MODE is also a decision (R42), the
head having no scan in progress (KeepsOneFillingRecord). Two points are the model's choice: the reply shows the slot as the
request has set it, also where the decision of the same step consumes it (STANDARDIZE under an EMPTY machine record, log
13); and a drive that is not ready faults the head also where it stands at its target already (log 23). -/
def Obligations.ModeSetsStationSlot : Prop :=
  ∀ (s : State) (st : Station) (tag b1 b2 b3 : Byte), Ready s st →
    (s.head.state ≠ .parked →
      exec (.mode st tag [0, b1, b2, b3]) s = .next
        ({ answered s st .mode tag (.mode .ok .none) with
            head := { s.head with slots := s.head.slots.set st .none } }).settle
      ∧ exec (.mode st tag [2, b1, b2, b3]) s = .next
        ({ answered s st .mode tag (.mode .ok .standardize) with
            head := { s.head with slots := s.head.slots.set st .standardize }
            std := { s.std with stdDue := true } }).settle
      ∧ (∀ r, s.activeRecipe = some r →
          let asked := b2.toNat + 256 * b3.toNat
          let p := max r.geometry.a (min r.geometry.b asked)
          exec (.mode st tag [3, b1, b2, b3]) s = .next
            ({ answered s st .mode tag (.mode (if p = asked then .ok else .clamped) (.point p)) with
                head := { s.head with slots := s.head.slots.set st (.point p) } }).settle))
    ∧ (s.head.state = .parked → s.head.scan = none →
      let replied (u : State) (b : ReplyBody) : Prop :=
        (u.ports.get st).replies = (s.ports.get st).replies ++ [⟨some .mode, tag, b⟩]
      (∃ u : State, exec (.mode st tag [0, b1, b2, b3]) s = .next u ∧ replied u (.mode .ok .none)
        ∧ RedecidesAtPark s (s.head.slots.set st .none) s.std.stdDue u)
      ∧ (∃ u : State, exec (.mode st tag [2, b1, b2, b3]) s = .next u ∧ replied u (.mode .ok .standardize)
        ∧ RedecidesAtPark s (s.head.slots.set st .standardize) true u)
      ∧ (∀ r, s.activeRecipe = some r →
          let asked := b2.toNat + 256 * b3.toNat
          let p := max r.geometry.a (min r.geometry.b asked)
          ∃ u : State, exec (.mode st tag [3, b1, b2, b3]) s = .next u
            ∧ replied u (.mode (if p = asked then .ok else .clamped) (.point p))
            ∧ RedecidesAtPark s (s.head.slots.set st (.point p)) s.std.stdDue u))
    ∧ (s.activeRecipe = none →
      exec (.mode st tag [3, b1, b2, b3]) s = .next
        (answered s st .mode tag (.mode .state (s.head.slots.get st))).settle)
    ∧ (∀ b0 : Byte, 3 < b0.toNat →
      exec (.mode st tag [b0, b1, b2, b3]) s = .next
        (answered s st .mode tag (.mode .badField (s.head.slots.get st))).settle)

/-- R43 in a scan in progress, R34, R35, with a deferred restart (R82) and a PENDING slot (R168). -/
def Sys2Proof.Safety.ParkAbortsScan : Prop :=
  ∀ (s : State) (st : Station) (tag b1 b2 b3 : Byte) (x : ActiveScan), Ready s st →
    measuringLeg s.head.state = true → s.head.scan = some x → s.head.position ≠ 0 → NoHold s →
    (s.store.pendingSlot = none →
      ∃ (u : State) (low : Station), exec (.mode st tag [1, b1, b2, b3]) s = .next u.settle
        ∧ LowestWith (s.head.slots.set st .park) (fun m => m = .park) low
        ∧ u.head = { s.head with
            state := .returning, grant := .park low, slots := s.head.slots.set st .park, drvEn := true,
            drvDir := false, drvSpd := (s.activeRecipe.map (fun r => r.motion.step)).getD 1,
            encTimer := .running 100000, scan := none }
        ∧ u.ring = s.ring.onFilling (fun r => { r with status := .void })
        ∧ u.trend = s.trend ∧ u.bins = [] ∧ u.hole.run = 0
        ∧ u.hole.marker = false ∧ u.std = s.std ∧ u.points = s.points ∧ u.brk = s.brk
        ∧ (s.profile.deferred = false → u.profile = { s.profile with continuity := false }
            ∧ u.edges = { s.edges with run := ⟨0, 0, none, none⟩ })
        ∧ (s.profile.deferred = true → u.profile = { (restartedProfile s.profile) with deferred := false }
            ∧ u.edges = restartedEdges { s.edges with run := ⟨0, 0, none, none⟩ })
        ∧ u.ports = ((answered s st .mode tag (.mode .ok .park)).offer
            (.headState .returning s.std.phase s.head.cause (.park low) s.head.position)).ports)
    ∧ (∀ k, s.store.pendingSlot = some k →
      ∃ u : State, exec (.mode st tag [1, b1, b2, b3]) s = .next u ∧ Activated s u k
        ∧ u.head.state = .returning ∧ u.head.scan = none ∧ u.head.drvEn = true ∧ u.head.drvDir = false
        ∧ u.head.slots = s.head.slots.set st .park ∧ u.bins = [] ∧ u.trend = s.trend
        ∧ u.ring = s.ring.onFilling (fun r => { r with status := .void }) ∧ u.profile.continuity = false
        ∧ (QuietUnder (s.store.slots.get k).recipe s →
            ∃ low, LowestWith (s.head.slots.set st .park) (fun m => m = .park) low ∧ u.head.grant = .park low))

/-- R43 outside a scan in progress. That a drive that is not ready faults a SINGLE_POINT head also at position 0, the target
of RETURNING, is the model's choice (log 23). -/
def Sys2Proof.Safety.ParkTakesHeadHome : Prop :=
  ∀ (s : State) (st : Station) (tag b1 b2 b3 : Byte), Ready s st → s.head.scan = none → NoHold s →
    ∃ (u : State) (low : Station), exec (.mode st tag [1, b1, b2, b3]) s = .next u
      ∧ LowestWith (s.head.slots.set st .park) (fun m => m = .park) low
      ∧ u.head.slots = s.head.slots.set st .park ∧ u.ring = s.ring ∧ u.trend = s.trend
      ∧ ((s.head.state = .positioning ∨ s.head.state = .scanning .approach
            ∨ s.head.state = .singlePoint ∧ s.pins.drvRdy = true) →
          u.head.grant = .park low
            ∧ (s.head.position ≠ 0 → u.head.state = .returning ∧ u.head.drvEn = true ∧ u.head.drvDir = false)
            ∧ (s.head.position = 0 → u.head.state = .parked ∧ u.head.drvEn = false)
            ∧ (s.head.state = .singlePoint → u.points = { s.points with period := none })
            ∧ (s.head.state = .scanning .approach → u.absent = ⟨false, 0, 0, false⟩))
      ∧ (s.head.state = .singlePoint → s.pins.drvRdy = false →
          u.head.state = .fault ∧ u.head.cause = .drive ∧ u.head.grant = .none
            ∧ u.points = { s.points with period := none })
      ∧ (s.head.state = .standardizing → s.std.phase ≠ .idle →
          u.head.state = .parked ∧ u.head.grant = .park low ∧ u.std.phase = .idle ∧ u.std.outcome = .abort
            ∧ u.std.stdDue = s.std.stdDue ∧ u.std.failCount = s.std.failCount
            ∧ u.std.scanCounter = s.std.scanCounter ∧ u.conv.pendingSet = none
            ∧ u.conv.consts = s.conv.consts ∧ u.conv.epoch = s.conv.epoch)
      ∧ ((s.head.state = .returning ∨ s.head.state = .parked) →
          u.head.state = s.head.state ∧ u.head.grant = .park low)
      ∧ ((s.head.state = .homing ∨ s.head.state = .fault) →
          u.head.state = s.head.state ∧ u.head.grant = s.head.grant)

/-- MODE PARK takes effect at once in every moving or measuring state: scans abort, dwells and procedures end, the head goes
home; at a head on its target the drive is judged first by log 23. -/
def Obligations.ParkTakesEffectAtOnce : Prop := ParkAbortsScan ∧ ParkTakesHeadHome

/-- The table of R49. -/
def Sys2Proof.Safety.runAfter (r : EdgeRun) (present : Bool) (pos : Nat) : EdgeRun :=
  if present = false then { r with len := 0 }
  else if r.len = 0 then { r with len := 1, start := pos }
  else if r.len < 7 then { r with len := r.len + 1 }
  else if r.len = 7 then
    { r with len := 8, leading := if r.leading = none then some r.start else r.leading, trailing := some pos }
  else { r with len := 8, trailing := some pos }

/-- A value taken into one sum of a bin (R60). -/
def Sys2Proof.Safety.binPlus (sc : SumCount) : Option Nat → SumCount
  | none => sc
  | some v => if sc.count < 65535 then ⟨sc.sum + v, sc.count + 1⟩ else sc

/-- The bins after a present sample's valid values (R60). -/
def Sys2Proof.Safety.binsAfter (s : State) (x : Sample) : List BinSums :=
  let g := s.recipe.geometry
  if x.present = true ∧ g.origin ≤ x.pos ∧ x.pos < g.origin + g.n * g.w then
    s.bins.modify ((x.pos - g.origin) / g.w)
      (fun b => ⟨binPlus b.bw x.bw, binPlus b.moist x.moist, binPlus b.cal x.cal⟩)
  else s.bins

/-- R49 and R60, with everything else that the slot changes. With the edge lock LOCKED the sample may also be assessed, which
AbsentWindowJudged and HoleRunFollowsTable treat. -/
def Obligations.AcceptedSampleInScan : Prop :=
  ∀ (s : State) (t : SampleTelegram), PlainSlot s → measuringLeg s.head.state = true →
    s.head.scan.isSome = true → s.std.phase = .idle → s.link.state = .sync →
    s.link.missingTimer.isRunning = true → crc16 (sampleCovered t) = t.check →
    (t.seq = s.link.expected ∨ s.link.resync = true) →
    let x := s.convert t
    let link : HeadLink := { s.link with
      rx := none, missingTimer := .running 750, expected := t.seq + 1, resync := false,
      slotCount := s.link.slotCount + 1 }
    let points : Points := { s.points with
      period := s.points.period.map (fun (p : PointPeriod) => { p with slots := p.slots + 1 }) }
    let edges : EdgeTracker := { s.edges with run := runAfter s.edges.run x.present x.pos }
    (s.edges.locked = false → exec (.sampleTelegramArrival t) s = .next ({ s with
      link := link, points := points, edges := edges, bins := binsAfter s x
      absent := { s.absent with assessing := false } }).settle)
    ∧ ((s.edges.locked = true → s.absent.assessed < 63) →
      ∃ u : State, exec (.sampleTelegramArrival t) s = .next u ∧ u.edges = edges ∧ u.bins = binsAfter s x
        ∧ u.link = link ∧ u.points = points ∧ u.head = s.head ∧ u.ring = s.ring ∧ u.profile = s.profile
        ∧ u.brk = s.brk ∧ u.std = s.std ∧ u.conv = s.conv ∧ u.store = s.store ∧ u.ports = s.settle.ports
        ∧ u.trend = s.trend ∧ u.speed = s.speed ∧ u.limits = s.limits ∧ u.pins = s.pins ∧ u.pending = s.pending)

/-- The scan is in window (R52): differences as plain integers, without wrapping. -/
def Sys2Proof.Safety.ScanInWindow (e : EdgeTracker) (found : Option Edges) (window : Nat) : Prop :=
  ∃ x y, (if e.locked then e.lockedEdges else e.previous) = some x ∧ found = some y
    ∧ |(y.a : Int) - x.a| ≤ window ∧ |(y.b : Int) - x.b| ≤ window

/-- The found edges of a scan in a direction (R50). -/
def Sys2Proof.Safety.foundEdges (r : EdgeRun) (dir : ScanDir) : Option Edges :=
  match r.leading, r.trailing with
  | some l, some t => some (match dir with
    | .fwd => ⟨l, t⟩
    | .rev => ⟨t, l⟩)
  | _, _ => none

/-- R50, R52 to R55, and R82 for a restart that waits. -/
def Obligations.EdgeLockFollowsWindow : Prop :=
  ∀ (dir : CountDir) (s : State) (x : ActiveScan) (i : Nat), CompletesScan dir s x i → s.store.pendingSlot = none →
    let found := foundEdges s.edges.run x.dir
    let cfg := s.recipe.edges
    let hit := ScanInWindow s.edges found cfg.window
    ∃ u : State, exec (.encoderCount dir) s = .next u ∧ u.edges.previous = found ∧ u.edges.run = ⟨0, 0, none, none⟩
      ∧ (s.profile.deferred = true →
          u.edges.locked = false ∧ u.edges.lockedEdges = none ∧ u.edges.inCount = 0 ∧ u.edges.outCount = 0)
      ∧ (s.profile.deferred = false →
        (s.edges.locked = false → hit → cfg.lockCount ≤ s.edges.inCount + 1 →
          u.edges.locked = true ∧ u.edges.lockedEdges = found ∧ u.edges.inCount = 0 ∧ u.edges.outCount = 0)
        ∧ (s.edges.locked = false → hit → s.edges.inCount + 1 < cfg.lockCount →
          u.edges.locked = false ∧ u.edges.inCount = s.edges.inCount + 1)
        ∧ (s.edges.locked = false → ¬hit → u.edges.locked = false ∧ u.edges.inCount = 0)
        ∧ (s.edges.locked = true → hit →
          u.edges.locked = true ∧ u.edges.lockedEdges = found ∧ u.edges.outCount = 0)
        ∧ (s.edges.locked = true → ¬hit → s.edges.outCount + 1 < cfg.unlockCount →
          u.edges.locked = true ∧ u.edges.lockedEdges = s.edges.lockedEdges
            ∧ u.edges.outCount = s.edges.outCount + 1)
        ∧ (s.edges.locked = true → ¬hit → cfg.unlockCount ≤ s.edges.outCount + 1 →
          u.edges.locked = false ∧ u.edges.lockedEdges = none ∧ u.edges.inCount = 0 ∧ u.edges.outCount = 0))

/-- R59, whole: the cover, the choice by the latched position, the ranges of W and N, and the validation's bound. -/
def Obligations.BinCoversItsPositions : Prop :=
  (∀ (g : Geometry) (p i : Nat), 0 < g.w →
      ((g.binOf p = some i ↔ i < g.n ∧ g.origin + i * g.w ≤ p ∧ p ≤ g.origin + (i + 1) * g.w - 1)
        ∧ (g.binOf p = some i → i = (p - g.origin) / g.w)
        ∧ (g.binOf p = none ↔ ¬(g.origin ≤ p ∧ p < g.origin + g.n * g.w))))
    ∧ (∀ (s : State) (t : SampleTelegram), (s.convert t).pos = s.head.position.toNat)
    ∧ (∀ (s : State) (x : Sample), s.head.scan.isSome = true → x.present = true →
        (s.binTake x).bins = (match s.recipe.geometry.binOf x.pos with
          | none => s.bins
          | some i => s.bins.modify i (BinSums.add · x)))
    ∧ (∀ g g' : Geometry, (GroupBody.geometry g).clamped = .geometry g' →
        20 ≤ g'.w ∧ g'.w ≤ 2000 ∧ 4 ≤ g'.n ∧ g'.n ≤ 512)
    ∧ (∀ (st : Store) (r : Recipe), st.failedCheck r = none →
        r.geometry.a ≤ r.geometry.origin ∧ r.geometry.origin + r.geometry.n * r.geometry.w ≤ r.geometry.b)

/-- R67, whole: v valid means, n in-sheet bins. -/
def Obligations.AverageOfValidMeans : Prop :=
  (∀ (means : List Val) (n : Nat),
    let v := (validOf means).length
    (scanAverage means n = none ↔ v = 0 ∨ 2 * v < n)
      ∧ (∀ a, scanAverage means n = some a → (∀ x ∈ validOf means, 0 ≤ x) →
          a = (2 * (validOf means).sum + v) / (2 * v))
      ∧ (∀ a lo hi : Int, 0 ≤ lo → (∀ x ∈ validOf means, lo ≤ x ∧ x ≤ hi) → scanAverage means n = some a →
          lo ≤ a ∧ a ≤ hi))
  ∧ (∀ means : List Val, (validOf means).length = 49 → scanAverage means 97 ≠ none)
  ∧ (∀ means : List Val, (validOf means).length = 48 → scanAverage means 97 = none)
  ∧ (∀ (r : Recipe) (dir : ScanDir) (marks : List Bool) (cont : Bool) (prev : Val) (filter : List FilterBin)
      (sums : List SumCount),
      (measWork r dir marks cont prev filter sums).record.avg
        = scanAverage (meansOf r marks sums) (marks.filter (fun m => m)).length)

/-- R70, whole. -/
def Obligations.CorrectionOfEachBin : Prop :=
  ∀ (n i : Nat) (S : Int), 4 ≤ n → i < n →
    orderOf .fwd n i = i ∧ orderOf .rev n i = n - 1 - i
      ∧ (∀ dir, correction dir n S i
          = roundHalfAway (S * (2 * (orderOf dir n i : Int) - ((n : Int) - 1))) (2 * (n - 1)))
      ∧ (∀ dir, correction dir n 0 i = 0)
      ∧ (∀ dir, 2 * orderOf dir n i = n - 1 → correction dir n S i = 0)
      ∧ (∀ dir, correction dir n S (n - 1 - i) = -(correction dir n S i))
      ∧ correction .rev n S i = correction .fwd n S (n - 1 - i)
      ∧ (∀ dir, orderOf dir n i = 0 → correction dir n S i = roundHalfAway (-S) 2)
      ∧ (∀ dir, orderOf dir n i = n - 1 → correction dir n S i = roundHalfAway S 2)
      ∧ (∀ dir, 2 * |correction dir n S i| ≤ |S| + 1)
      ∧ (∀ dir, |S| ≤ 32767 → |correction dir n S i| ≤ 16384)
      ∧ (∀ (dir : ScanDir) (avg : Val) (means : List Val), i < means.length →
          (deviationsOf dir n S avg means)[i]?
            = some (deviation (means.getD i none) avg (correction dir n S i)))
      ∧ [0, 1, 2, 3, 4, 5].map (correction .fwd 6 30) = [-15, -9, -3, 3, 9, 15]
      ∧ correction .rev 6 30 0 = 15 ∧ correction .rev 6 30 5 = -15

/-- R72 to R75. -/
def Sys2Proof.Safety.FilterTable : Prop :=
  ∀ (cfg : FilterCfg) (b : FilterBin),
    let age := min 15 (b.age + 1)
    (b.update cfg none = if b.value ≠ none ∧ cfg.voidLimit ≤ age then ⟨none, .none, age⟩
      else { b with age := age })
    ∧ (∀ d, b.value = none → b.update cfg (some d) = ⟨some d, .none, 0⟩)
    ∧ (∀ d f : Int, b.value = some f →
        let e := d - f
        let normal : Int := f + roundHalfAway (e * cfg.weight) 16
        let sign : StepSign := if 0 < e then .plus else .minus
        (cfg.stepLimit = 0 ∨ |e| ≤ cfg.stepLimit → b.update cfg (some d) = ⟨some normal, .none, 0⟩)
        ∧ (cfg.stepLimit ≠ 0 → (cfg.stepLimit : Int) < |e| → b.sign = sign →
            b.update cfg (some d) = ⟨some d, .none, 0⟩)
        ∧ (cfg.stepLimit ≠ 0 → (cfg.stepLimit : Int) < |e| → b.sign ≠ sign →
            b.update cfg (some d) = ⟨some normal, sign, 0⟩))

/-- Law 6 for one bin, as R76 words it. -/
def Sys2Proof.Safety.FilteredValueStaysBetween : Prop :=
  ∀ (cfg : FilterCfg) (b : FilterBin), 1 ≤ cfg.weight → cfg.weight ≤ 16 →
    ((b.update cfg none).value = b.value ∨ (b.update cfg none).value = none)
    ∧ (∀ d : Int, ∃ v, (b.update cfg (some d)).value = some v
        ∧ (v = d ∨ ∃ f, b.value = some f ∧ (f ≤ v ∧ v ≤ d ∨ d ≤ v ∧ v ≤ f))
        ∧ (|d| ≤ 32767 → (∀ f, b.value = some f → |f| ≤ 32767) → |v| ≤ 32767))

/-- The filter of one bin: ageing, start from void, step test, normal update, and a result between old value and deviation. -/
def Obligations.FilterFollowsTable : Prop := FilterTable ∧ FilteredValueStaysBetween

/-- R78, whole. -/
def Obligations.SpreadOfValidValues : Prop :=
  (∀ filt : List Val,
    (spreadOf filt = none ↔ ∀ v ∈ filt, v = none)
    ∧ (∀ lo hi : Int, some lo ∈ filt → some hi ∈ filt → (∀ x : Int, some x ∈ filt → lo ≤ x ∧ x ≤ hi) →
        spreadOf filt = some (min 32767 (hi - lo)))
    ∧ (∀ x, validOf filt = [x] → spreadOf filt = some 0)
    ∧ (∀ x, spreadOf filt = some x → 0 ≤ x ∧ x ≤ 32767)
    ∧ spreadOf (filt.filter (fun v => v.isSome)) = spreadOf filt)
  ∧ (∀ (r : Recipe) (dir : ScanDir) (marks : List Bool) (cont : Bool) (prev : Val) (filter : List FilterBin)
      (sums : List SumCount),
      let w := measWork r dir marks cont prev filter sums
      w.record.spread = spreadOf (w.filter.map (fun b => b.value)))

/-- Bin i is in-sheet (R62): its first position is at or above the low bound, its last at or below the high bound, the found
edges moved inward by the trim, as plain integers; a NO_SHEET scan has no in-sheet bin. -/
def Sys2Proof.Safety.inSheetBin (g : Geometry) (found : Option Edges) (i : Nat) : Bool :=
  match found with
  | none => false
  | some e =>
    let low : Int := e.a + g.trim * g.w
    let high : Int := e.b - g.trim * g.w
    let first : Int := g.origin + i * g.w
    let last : Int := g.origin + (i + 1) * g.w - 1
    decide (low ≤ first ∧ last ≤ high)

/-- What one measurement's completion gives, from a profile unit p (R62, R66, R67, R69 to R72, R77 to R79): its part of the
record, its filter, and whether its slope term was withheld. -/
def Sys2Proof.Safety.MeasurementWorked (s : State) (p : Profile) (x : ActiveScan) (found : Option Edges) (m : Meas) (w : MeasRecord)
    (withheld : Prop) (filter : List FilterBin) : Prop :=
  let r := s.recipe
  let inSheet := (List.range r.geometry.n).map (fun i => inSheetBin r.geometry found i)
  let sums := s.bins.map (fun b => b.get m)
  let slope : Option Int := match p.prevAvg.get m, w.avg with
    | some y, some a => if p.continuity then some (max (-32767) (min 32767 (a - y))) else none
    | _, _ => none
  w.means = List.zipWith (fun (mark : Bool) (sc : SumCount) =>
      if mark = true ∧ r.measure.minSamples ≤ sc.count then some ((2 * sc.sum + sc.count) / (2 * sc.count) : Int)
      else none) inSheet sums
    ∧ w.avg = scanAverage w.means (inSheet.countP (fun b => b))
    ∧ (withheld ↔ slope = none) ∧ w.slope = some (slope.getD 0)
    ∧ w.devs = w.means.mapIdx (fun i v => match v, w.avg with
        | some y, some a =>
          some (max (-32767) (min 32767 (y - a - correction x.dir r.geometry.n (slope.getD 0) i)))
        | _, _ => none)
    ∧ filter = List.zipWith (fun b d => b.update r.filter d) (p.filter.get m) w.devs
    ∧ w.filt = filter.map (fun b => b.value)
    ∧ w.zones = r.zones.map (fun z =>
        let valid := validOf ((w.filt.drop z.first).take (z.last + 1 - z.first))
        if valid.length = 0 ∨ 2 * valid.length < z.last + 1 - z.first then none
        else some (roundHalfAway valid.sum valid.length))
    ∧ w.spread = spreadOf w.filt

/-- What a completion forms for the three measurements, a deferred restart (R82) applied first; each withheld term is one
of nb, nm, nc. -/
def Sys2Proof.Safety.ScanWorked (s u : State) (x : ActiveScan) (w : PerMeas MeasRecord) (nb nm nc : Prop) : Prop :=
  let found := foundEdges s.edges.run x.dir
  let p := if s.profile.deferred then restartedProfile s.profile else s.profile
  MeasurementWorked s p x found .bw w.bw nb u.profile.filter.bw
    ∧ MeasurementWorked s p x found .moist w.moist nm u.profile.filter.moist
    ∧ MeasurementWorked s p x found .cal w.cal nc u.profile.filter.cal

/-- R62, R65 to R72, R77 to R79 at a completion, a deferred restart (R82) included: the trend entry, the profile unit and, if
the ring has another record to pick next, the completed record. -/
def Obligations.ProfileWorkAtCompletion : Prop :=
  ∀ (dir : CountDir) (s : State) (x : ActiveScan) (i : Nat), CompletesScan dir s x i → s.store.pendingSlot = none →
    let found := foundEdges s.edges.run x.dir
    ∃ (u : State) (e : TrendEntry) (w : PerMeas MeasRecord) (nb nm nc : Prop),
      exec (.encoderCount dir) s = .next u ∧ u.trend.getLast? = some e ∧ ScanWorked s u x w nb nm nc
      ∧ e.avg = ⟨w.bw.avg, w.moist.avg, w.cal.avg⟩ ∧ u.profile.prevAvg = e.avg ∧ u.profile.deferred = false
      ∧ e.quality.noSheet = found.isNone ∧ (e.quality.noSlope = true ↔ nb ∨ nm ∨ nc)
      ∧ ((counted s.head dir).position ≠ 0 → PickBeside s.ring i →
          ∃ r, u.ring.records[i]? = some r ∧ r.meas = w ∧ r.edges = found)

/-- R81 to R83 and R57. -/
def Obligations.RestartProfilesActsOrWaits : Prop :=
  ∀ (s : State) (st : Station) (tag : Byte), Ready s st →
    let fresh := List.replicate ((s.profile.layout.map (fun l => l.n)).getD 0) (⟨none, .none, 0⟩ : FilterBin)
    (s.ring.filling = none →
      exec (.restartProfiles st tag []) s = .next
        ({ answered s st .restartProfiles tag (.restart .immediate) with
            profile := { s.profile with
              filter := ⟨fresh, fresh, fresh⟩, prevAvg := ⟨none, none, none⟩, continuity := false }
            edges := { s.edges with locked := false, lockedEdges := none, previous := none, inCount := 0, outCount := 0 }
            absent := if s.edges.locked then ⟨false, 0, 0, false⟩ else s.absent
            hole := if s.edges.locked then { s.hole with run := 0, marker := false } else s.hole }).settle)
    ∧ (∀ i, s.ring.filling = some i →
      exec (.restartProfiles st tag []) s = .next
        ({ answered s st .restartProfiles tag (.restart .atCompletion) with
            profile := { s.profile with deferred := true } }).settle)

/-- R89, and the fields that R88 has written at the scan start; every per-measurement value is void. -/
def Obligations.PickTakesOpenElseOldest : Prop :=
  (∀ (g : Ring) (i : Nat) (r : ScanRecord), g.records[i]? = some r → (r.status = .free ∨ r.status = .void) →
    (∀ j r', j < i → g.records[j]? = some r' → r'.status ≠ .free ∧ r'.status ≠ .void) → g.pick = i)
  ∧ (∀ g : Ring, (∀ r ∈ g.records, r.status ≠ .free ∧ r.status ≠ .void) →
    (∃ r ∈ g.records, r.status = .complete ∧ r.holds = ⟨false, false, false, false⟩) →
    ∃ r, g.records[g.pick]? = some r ∧ r.status = .complete ∧ r.holds = ⟨false, false, false, false⟩
      ∧ ∀ r' ∈ g.records, r'.status = .complete → r'.holds = ⟨false, false, false, false⟩ →
          aheadBy g.newest (r'.number.getD 0) ≤ aheadBy g.newest (r.number.getD 0))
  ∧ (∀ (s : State) (dir : ScanDir) (k : SlotNo), s.store.active = some k →
    let r := s.freshRecord dir
    let q := (s.store.slots.get k).recipe
    let nothing : List Val := List.replicate q.geometry.n none
    r.status = .filling ∧ r.number = none ∧ r.dir = dir ∧ r.slot = k
      ∧ r.generation = (s.store.slots.get k).generation ∧ r.layout = q.layout
      ∧ r.zoneCount = q.zones.length ∧ r.epoch = s.conv.epoch
      ∧ r.mdStart = s.mdMetres ∧ r.holds = ⟨false, false, false, false⟩
      ∧ (∀ m, r.meas.get m
          = ⟨none, nothing, nothing, nothing, List.replicate q.zones.length none, none, none⟩)
      ∧ r.quality = ⟨false, false, s.tachHeld, false, decide (s.conv.epoch = 0), false⟩)

/-- The two outcomes of a search for a record with a test (R95): served from the first such record, its reply
queued and the station in its hold set, or NOT_FOUND. -/
def Sys2Proof.Safety.ServedFrom (s : State) (st : Station) (tag : Byte) (q : ScanQuery) (test : ScanRecord → Prop)
    (o : Host.Outcome State Fault Refusal) : Prop :=
  (∀ i r, s.ring.records[i]? = some r → test r → (∀ j r', j < i → s.ring.records[j]? = some r' → ¬test r') →
    o = .next ({ answered s st .readScan tag (.scan i q) with
      ring := { s.ring with
        records := s.ring.records.modify i (fun (r : ScanRecord) => { r with holds := r.holds.set st true }) }
        }).settle)
  ∧ ((∀ r ∈ s.ring.records, ¬test r) → o = .next (answered s st .readScan tag (.status .notFound)).settle)

/-- The quality flags byte (12.4). -/
def Sys2Proof.Safety.qualityBits (f : Quality) : Int :=
  bit f.linkGaps + 2 * bit f.provisional + 4 * bit f.tachHeld + 8 * bit f.noSheet + 16 * bit f.unstandardized
    + 32 * bit f.noSlope

/-- The header of a served READ SCAN with the actual range and the number of values (R96, 12.5); an edge of a NO_SHEET
record is 0 (R196). -/
def Sys2Proof.Safety.scanHeader (r : ScanRecord) (n : BitVec 16) (q : ScanQuery) (first last count : Nat) : List (Nat × Int) :=
  let m := r.meas.get q.meas
  [w8 0, w16 n.toNat, w8 r.dir.code, w8 (Ix4.code r.slot), w16 r.generation.toNat, w16 r.layout.n, w16 r.layout.w,
    w16 r.layout.origin, w8 r.zoneCount, w32 r.epoch.toNat, w32 r.mdStart.toNat, w32 r.mdEnd.toNat, w16 r.speed,
    w16 (match r.edges with
      | some e => e.a
      | none => 0),
    w16 (match r.edges with
      | some e => e.b
      | none => 0),
    w8 (bit r.locked), w8 (qualityBits r.quality), w8 q.meas.code, w8 q.part.code, w16 (orVoid m.avg),
    w16 (orVoid m.spread), w16 (orVoid m.slope), w16 first, w16 last, w16 count]

/-- R96 and the READ SCAN reply of 12.5, from the record that the reply holds: first and last each truncated, and a ZONES
read of a record with zone count 0. The codes are those of CodesAsListed. -/
def Sys2Proof.Safety.ScanReplyLaidOut : Prop :=
  ∀ (ring : Ring) (i : Nat) (q : ScanQuery) (r : ScanRecord) (n : BitVec 16),
    ring.records[i]? = some r → r.number = some n → q.first ≤ q.last →
    let m := r.meas.get q.meas
    let values : List Val := match q.part with
      | .means => m.means
      | .deviations => m.devs
      | .profile => m.filt
      | .zones => m.zones
    let size : Nat := if q.part = .zones then r.zoneCount else r.layout.n
    let sent := (ReplyBody.scan i q).bytes ring
    (q.part = .zones → r.zoneCount = 0 → sent = wire (scanHeader r n q 0 0 0))
    ∧ (0 < size → values.length = size →
      let first := min q.first (size - 1)
      let last := min q.last (size - 1)
      let count := last + 1 - first
      sent = wire (scanHeader r n q first last count
        ++ (List.range count).map (fun k => w16 (orVoid (values.getD (first + k) none)))))

/-- R93 to R97, with the fields of the payload by their offsets (12.2), and the bytes of a served reply. -/
def Obligations.ReadScanServedOrWaits : Prop :=
  ScanReplyLaidOut ∧
  ∀ (s : State) (st : Station) (tag : Byte) (p : List Byte), Ready s st → p.length = 14 →
    let o := exec (.readScan st tag p) s
    ((∃ r ∈ s.ring.records, r.holds.get st = true) → o = .next (answered s st .readScan tag (.status .busy)).settle)
    ∧ ((∀ r ∈ s.ring.records, r.holds.get st = false) →
      (readScanOf? p = none → o = .next (answered s st .readScan tag (.status .badField)).settle)
      ∧ (∀ n q, readScanOf? p = some (.number n, q) →
          ServedFrom s st tag q (fun r => r.status = .complete ∧ r.number = some n
            ∧ 0 ≤ aheadBy s.ring.newest n ∧ aheadBy s.ring.newest n ≤ 64) o)
      ∧ (∀ w q, readScanOf? p = some (.newest none w, q) →
          ServedFrom s st tag q (fun r => r.status = .complete ∧ r.number = some s.ring.newest) o)
      ∧ (∀ m w q, readScanOf? p = some (.newest (some m) w, q) →
          (aheadBy m s.ring.newest ≤ 0 →
            ServedFrom s st tag q (fun r => r.status = .complete ∧ r.number = some s.ring.newest) o)
          ∧ (64 < aheadBy m s.ring.newest → o = .next (answered s st .readScan tag (.status .badField)).settle)
          ∧ (1 ≤ aheadBy m s.ring.newest → aheadBy m s.ring.newest ≤ 64 →
              (s.brk.state = .break_ ∨ s.brk.state = .threading) →
              o = .next (answered s st .readScan tag (.status .break_)).settle)
          ∧ (1 ≤ aheadBy m s.ring.newest → aheadBy m s.ring.newest ≤ 64 →
              s.brk.state ≠ .break_ → s.brk.state ≠ .threading →
              o = .next ((s.onPort st (fun x => { heardPort x with
                pending := some ⟨tag, q, m, .running (w * 1000000)⟩ })).settle))))
    ∧ (readScanOf? p = none ↔ 1 < b8 p 0 ∨ 2 < b8 p 3 ∨ 3 < b8 p 4 ∨ b16 p 7 < b16 p 5
        ∨ 1 < b8 p 9 ∨ (b8 p 0 = 1 ∧ b8 p 9 = 1))
    ∧ (∀ sel q, readScanOf? p = some (sel, q) →
        sel = (if b8 p 0 = 1 then .number (BitVec.ofNat 16 (b16 p 1))
          else .newest (if b8 p 9 = 1 then some (BitVec.ofNat 16 (b16 p 10)) else none) (max 1 (min 600 (b16 p 12))))
        ∧ q.meas = (if b8 p 3 = 0 then .bw else if b8 p 3 = 1 then .moist else .cal)
        ∧ q.part = (if b8 p 4 = 0 then .means else if b8 p 4 = 1 then .deviations else if b8 p 4 = 2 then .profile
            else .zones)
        ∧ q.first = b16 p 5 ∧ q.last = b16 p 7)

/-- R98, R100 and R101; that an expiry with nothing pending has no effect is log 1. -/
def Obligations.PendingReadEnds : Prop :=
  (∀ (s : State) (st : Station) (tag : Byte),
    (∀ r, (s.ports.get st).pending = some r →
      exec (.waitTimerExpiry st) s = .next (s.onPort st (fun p => { p with
        pending := none
        replies := p.replies ++ [⟨some .readScan, r.tag, .timeout s.ring.newest⟩] })).settle)
    ∧ ((s.ports.get st).pending = none → exec (.waitTimerExpiry st) s = .next s.settle)
    ∧ (∀ r, (s.ports.get st).pending = some r → (s.ports.get st).replies.length < 3 →
      exec (.cancel st tag []) s = .next (s.onPort st (fun p => { heardPort p with
        pending := none
        replies := p.replies ++ [⟨some .readScan, r.tag, .status .cancelled⟩, ⟨some .cancel, tag, .status .ok⟩]
        })).settle)
    ∧ (Ready s st →
      exec (.cancel st tag []) s = .next (answered s st .cancel tag (.status .nothingPending)).settle))
  ∧ (∀ (dir : CountDir) (s : State) (x : ActiveScan) (i : Nat) (st : Station) (q : PendingRead),
    CompletesScan dir s x i → (s.ports.get st).pending = some q →
    ∃ u : State, exec (.encoderCount dir) s = .next u
      ∧ (aheadBy q.minimum (s.ring.newest + 1) ≤ 0 →
          (u.ports.get st).pending = none
            ∧ (u.ports.get st).replies = (s.ports.get st).replies ++ [⟨some .readScan, q.tag, .scan i q.query⟩]
            ∧ ((counted s.head dir).position ≠ 0 → PickBeside s.ring i → (u.ring.at i).holds.get st = true))
      ∧ (0 < aheadBy q.minimum (s.ring.newest + 1) → s.store.pendingSlot = none →
          (u.ports.get st).pending = some q ∧ (u.ports.get st).replies = (s.ports.get st).replies))

/-- What the winning claim does at the end of a point period in RUNNING or RECOVERING with no PARK slot (R44, fifth column):
standardization returns, POINT at the same P starts the next period, another P and default scanning move on; a move
needs the drive ready (R26), by the model's choice also where the head stands at its target (log 23). -/
def Sys2Proof.Safety.PeriodEndDecides (s u : State) : Prop :=
  let isPoint (m : ModeSlot) : Prop := ∃ p, m = .point p
  let std : Prop := s.std.stdDue = true ∨ ∃ j, s.head.slots.get j = .standardize
  let g := s.recipe.geometry
  let pos := s.head.position.toNat
  let faulted : Prop := u.head.state = .fault ∧ u.head.cause = .drive ∧ u.head.grant = .none ∧ u.points.period = none
  (std → s.pins.drvRdy = true → pos ≠ 0 →
      u.head.state = .returning ∧ u.head.grant = .standardize ∧ u.head.drvEn = true ∧ u.head.drvDir = false
        ∧ u.points.period = none)
    ∧ (std → s.pins.drvRdy = false → faulted)
    ∧ (∀ low, ¬std → LowestWith s.head.slots isPoint low →
        let p := max g.a (min g.b (s.head.slots.get low).pos)
        (p = s.head.pointPos → u.head = { s.head with grant := .point low p }
          ∧ (s.conv.pendingSet = none → u.points.period = some
              { p := p, length := s.recipe.motion.pointSamples, slots := 0, sums := ⟨⟨0, 0⟩, ⟨0, 0⟩, ⟨0, 0⟩⟩,
                accepted := 0, epoch := s.conv.epoch, mdStart := s.mdMetres, linkGaps := false,
                tachHeld := s.tachHeld }))
        ∧ (p ≠ s.head.pointPos → s.pins.drvRdy = true → pos ≠ p →
            u.head.state = .positioning ∧ u.head.grant = .point low p ∧ u.head.pointPos = p ∧ u.head.drvEn = true
              ∧ u.head.drvDir = decide (pos < p) ∧ u.points.period = none)
        ∧ (p ≠ s.head.pointPos → s.pins.drvRdy = false → faulted))
    ∧ (¬std → (∀ j, ¬isPoint (s.head.slots.get j)) →
        (s.pins.drvRdy = true → u.head.grant = .scan ∧ u.head.drvEn = true ∧ u.points.period = none
          ∧ (pos ≠ g.a → u.head.state = .scanning .approach ∧ u.head.drvDir = decide (pos < g.a))
          ∧ (pos = g.a → u.head.state = .scanning .fwd ∧ u.head.drvDir = true
              ∧ u.head.scan = some ⟨.fwd, g.a, g.b⟩))
        ∧ (s.pins.drvRdy = false → faulted))

/-- R37, R44, R106 to R108: the last slot of a period, by an arrival, whose accepted sample belongs to the period, or missing;
the slot ends no window, and its sample no absence window. That POINT_PERIOD_END is the plain command of that slot is log 2;
that a drive that is not ready faults the head also at its target is log 23. -/
def Obligations.PointPeriodMakesRecord : Prop :=
  ∀ (s : State) (p : PointPeriod) (d : SlotDecl), s.head.state = .singlePoint → s.points.period = some p →
    p.length ≤ p.slots + 1 → s.link.slotCount < 63 → s.link.missingTimer.isRunning = true →
    s.std.phase = .idle → (s.edges.locked = true → s.absent.assessed < 63) →
    let q : PointPeriod := match acceptedSlot s d with
      | none => p
      | some t => pointPlus p (s.convert t)
    let avg (sc : SumCount) : Val :=
      if sc.count = 0 ∨ 2 * q.accepted < p.length then none
      else some ((2 * sc.sum + sc.count) / (2 * sc.count) : Nat)
    let record : PointRecord :=
          { number := s.points.next, p := p.p, mdStart := p.mdStart, md := s.mdMetres, speed := s.speed.speed,
            epoch := p.epoch, accepted := q.accepted, avg := ⟨avg q.sums.bw, avg q.sums.moist, avg q.sums.cal⟩,
            quality :=
              { linkGaps := p.linkGaps, provisional := decide (s.brk.state = .recovering),
                tachHeld := p.tachHeld || s.tachHeld, noSheet := false,
                unstandardized := decide (p.epoch = 0), noSlope := false } }
    ∃ u : State, exec (.pointPeriodEnd d) s = .next u ∧ exec (slotCommand d) s = .next u
      ∧ u.points.next = s.points.next + 1
      ∧ u.points.ring = (s.points.ring ++ [record]).drop (s.points.ring.length + 1 - 32)
      ∧ (s.store.active.isSome = true → (s.brk.state = .running ∨ s.brk.state = .recovering) →
          (∀ j, s.head.slots.get j ≠ .park) → PeriodEndDecides s u)

/-- R105, whole. -/
def Obligations.ReadTrendReplies : Prop :=
  (∀ (s : State) (st : Station) (tag : Byte), Ready s st →
    exec (.readTrend st tag []) s = .next (answered s st .readTrend tag (.trend s.ring.newest s.trend)).settle)
  ∧ (∀ (s : State) (st : Station) (tag : Byte), (s.ports.get st).pending ≠ none →
    (s.ports.get st).replies.length < 3 →
    exec (.readTrend st tag []) s = .next (answered s st .readTrend tag (.status .busy)).settle)
  ∧ (∀ (ring : Ring) (n : BitVec 16) (es : List TrendEntry),
    (ReplyBody.trend n es).bytes ring
      = [0] ++ le16 n.toNat ++ [BitVec.ofNat 8 es.length] ++ (es.map TrendEntry.bytes).flatten)
  ∧ (∀ (b0 : Byte) (p : List Byte), lengthOk .readTrend (b0 :: p) = false)

/-- R111, R112, R114. -/
def Sys2Proof.Safety.TachPulseCounts : Prop :=
  (∀ s : State, exec .tachPulse s = .next { s with speed := { s.speed with
      mdAcc := s.speed.mdAcc + BitVec.ofNat 48 s.speed.increment
      gateCount := min 65535 (s.speed.gateCount + 1)
      lossTimer := .running 500000
      watch := .pulsing
      emptyGates := if s.speed.watch = .stopped then 0 else s.speed.emptyGates } })
    ∧ (∀ s : State, s.mdMetres.toNat = s.speed.mdAcc.toNat / 2 ^ 24)
    ∧ (∀ s : State, s.tachHeld = true ↔ s.speed.watch = .held)

/-- The table of R113; the empty-gate count runs 0..5 (log 17). -/
def Sys2Proof.Safety.gateTable (u : Speed) : Speed :=
  match u.watch with
  | .pulsing =>
    if 1 ≤ u.gateCount then
      { u with
        speed := min 3000 ((2 * (u.gateCount * u.increment * 600) + 2 ^ 24) / 2 ^ 25)
        refPulses := u.gateCount
        emptyGates := 0 }
    else { u with emptyGates := min 5 (u.emptyGates + 1) }
  | .held => { u with mdAcc := u.mdAcc + BitVec.ofNat 48 (u.refPulses * u.increment) }
  | .stopped => { u with speed := 0 }

/-- R113 with R116 and R124. -/
def Sys2Proof.Safety.GateEndByWatchState : Prop :=
  ∀ s : State,
    let v := gateTable s.speed
    let fast := s.store.machineSet && decide (s.store.machine.minRunSpeed ≤ v.speed)
    exec .speedGateEnd s = .next { s with
      speed := { v with gateCount := 0, gateTimer := .running 100000, atSpeed := fast }
      absent := if s.speed.atSpeed = true ∧ fast = false then ⟨false, 0, 0, false⟩ else s.absent
      hole := if s.speed.atSpeed = true ∧ fast = false then { s.hole with run := 0, marker := false } else s.hole }

/-- R115; that an expiry with the timer stopped has no effect is log 1. -/
def Sys2Proof.Safety.LossExpiryHoldsOrStops : Prop :=
  ∀ s : State,
    (s.speed.lossTimer = .stopped → exec .lossTimerExpiry s = .next s)
    ∧ (s.speed.lossTimer.isRunning = true →
      (s.store.machineSet = true → s.speed.increment ≠ 0 → s.store.machine.minRunSpeed ≤ s.speed.speed →
        exec .lossTimerExpiry s = .next { s with
          speed := { s.speed with
            watch := .held, emptyGates := 0, lossTimer := .stopped,
            mdAcc := s.speed.mdAcc
              + BitVec.ofNat 48 (s.speed.emptyGates * s.speed.refPulses * s.speed.increment) }
          ring := s.ring.onFilling (fun r => { r with quality := { r.quality with tachHeld := true } })
          points := { s.points with period := s.points.period.map (fun (p : PointPeriod) => { p with tachHeld := true }) } })
      ∧ ((s.store.machineSet = false ∨ s.speed.increment = 0 ∨ s.speed.speed < s.store.machine.minRunSpeed) →
        exec .lossTimerExpiry s = .next { s with
          speed := { s.speed with watch := .stopped, emptyGates := 0, lossTimer := .stopped } }))

/-- Tach pulse, gate end and loss expiry: accumulator, gate count, speed, watch state, TACH_HELD and AT_SPEED. -/
def Obligations.SpeedUnitEvents : Prop := TachPulseCounts ∧ GateEndByWatchState ∧ LossExpiryHoldsOrStops

/-- The detectors after the debounce expiry of one (R119, log 4): TRIPPED, its age at the debounce time or beyond. -/
def Sys2Proof.Safety.tripOf (s : State) (d : Detector) : PerDetector DetectorUnit :=
  s.brk.det.set d { (s.brk.det.get d) with
    tripped := true
    age := max (s.brk.det.get d).age (s.recipe.brk.debounces.get d * 10) }

/-- A pending READ_SCAN of every station has ended with BREAK (R99). -/
def Sys2Proof.Safety.PendingEndedByBreak (s u : State) : Prop :=
  ∀ st, (u.ports.get st).pending = none
    ∧ (u.ports.get st).replies = (s.ports.get st).replies
        ++ ((s.ports.get st).pending.map (fun q => (⟨some .readScan, q.tag, .status .break_⟩ : Reply))).toList

/-- What the head and its units do at an entry to BREAK, by the head state (R128, item 4; R20, R26, R43). That a drive that
is not ready faults a SINGLE_POINT head also at position 0, the target of RETURNING, is the model's choice (log 23). -/
def Sys2Proof.Safety.HeadUnderBreak (s u : State) : Prop :=
  let goesHome : Prop := u.head.grant = .hold
    ∧ (s.head.position ≠ 0 → u.head.state = .returning ∧ u.head.drvDir = false ∧ u.head.drvEn = true)
    ∧ (s.head.position = 0 → u.head.state = .parked ∧ u.head.drvEn = false)
  u.head.scan = none
    ∧ (s.head.scan.isSome = true → u.ring = s.ring.onFilling (fun x => { x with status := .void }) ∧ u.bins = [])
    ∧ (s.head.scan = none → u.ring = s.ring)
    ∧ (((∃ leg, s.head.state = .scanning leg) ∨ s.head.state = .positioning) → goesHome)
    ∧ (s.head.state = .singlePoint → u.points = { s.points with period := none }
        ∧ (s.pins.drvRdy = true → goesHome)
        ∧ (s.pins.drvRdy = false → u.head.state = .fault ∧ u.head.cause = .drive))
    ∧ (s.head.state = .standardizing → u.head.state = .parked ∧ u.head.grant = .hold
        ∧ (s.std.phase ≠ .idle → u.std.phase = .idle ∧ u.std.outcome = .abort ∧ u.std.stdDue = s.std.stdDue
          ∧ u.std.failCount = s.std.failCount ∧ u.std.scanCounter = s.std.scanCounter
          ∧ u.conv = { s.conv with pendingSet := none }))
    ∧ ((s.head.state = .returning ∨ s.head.state = .parked) → u.head = { s.head with grant := .hold })
    ∧ ((s.head.state = .homing ∨ s.head.state = .fault) → u.head = s.head)

/-- R119, R126 to R129, R137, R138; with a slot PENDING also R168. A drive that is not ready faults the head also at its
target by log 23 (HeadUnderBreak). -/
def Obligations.TripEntersBreak : Prop :=
  ∀ (s : State) (d : Detector) (r : Recipe), s.activeRecipe = some r → r.brk.enables.get d = true →
    (s.brk.det.get d).asserted = true → (s.brk.det.get d).tripped = false →
    (s.head.scan.isSome = true → measuringLeg s.head.state = true) →
    ((s.brk.state = .running ∨ s.brk.state = .recovering ∨ s.brk.state = .threading) → s.store.pendingSlot = none →
      let causes : CauseSet := ⟨(tripOf s d).map (fun x => x.tripped), false⟩
      ∃ u : State, exec (.debounceExpiry d) s = .next u
        ∧ u.brk = { s.brk with
            state := .break_, det := tripOf s d, threadingTimer := .stopped, count := min 65535 (s.brk.count + 1),
            causes := causes, relay := true }
        ∧ u.profile.continuity = false ∧ HeadUnderBreak s u ∧ PendingEndedByBreak s u
        ∧ Told u (.breakState .break_ causes (min 65535 (s.brk.count + 1))))
    ∧ (∀ k, (s.brk.state = .running ∨ s.brk.state = .recovering) → s.store.pendingSlot = some k →
      s.head.scan.isSome = true → s.head.position ≠ 0 →
      ∃ u : State, exec (.debounceExpiry d) s = .next u ∧ Activated s u k
        ∧ u.brk.count = min 65535 (s.brk.count + 1) ∧ u.head.scan = none ∧ u.head.state = .returning
        ∧ u.head.grant = .hold ∧ u.profile.continuity = false ∧ PendingEndedByBreak s u
        ∧ u.ring = s.ring.onFilling (fun x => { x with status := .void }))
    ∧ (s.brk.state = .break_ →
      let c : CauseSet := ⟨s.brk.causes.det.set d true, s.brk.causes.absent⟩
      exec (.debounceExpiry d) s = .next
        (({ s with brk := { s.brk with det := tripOf s d, causes := c } }).offer
          (.breakState .break_ c s.brk.count)).settle)

/-- The debounce expiry's own part in BREAK: the detector CLEAR, its age at the debounce time or beyond (log 4). -/
def Sys2Proof.Safety.clearOf (s : State) (d : Detector) : PerDetector DetectorUnit :=
  s.brk.det.set d { (s.brk.det.get d) with
    tripped := false, age := max (s.brk.det.get d).age (s.recipe.brk.debounces.get d * 10) }

/-- What every entry to RECOVERING leaves (R134). -/
def Sys2Proof.Safety.EntersRecovering (s u : State) : Prop :=
  u.brk.state = .recovering ∧ u.brk.threadingTimer = .stopped ∧ u.brk.recoveryCount = 0 ∧ u.brk.relay = false
    ∧ u.brk.count = s.brk.count ∧ u.brk.causes = s.brk.causes
    ∧ u.profile = restartedProfile s.profile
    ∧ Told u (.breakState .recovering s.brk.causes s.brk.count)

/-- R130, R131 and R134, a PARKED head deciding by R42 and R44. The level age after a debounce expiry is log 4; that an expiry
with the timer stopped or outside THREADING has no effect is log 1; the drive of a head at its target is log 23. A PARKED
head has no scan in progress (KeepsOneFillingRecord). -/
def Obligations.LastClearEntersThreading : Prop :=
  (∀ (s : State) (d : Detector) (r : Recipe), s.activeRecipe = some r → r.brk.enables.get d = true →
    (s.brk.det.get d).asserted = false → (s.brk.det.get d).tripped = true → s.brk.state = .break_ →
    (∀ e, e ≠ d → (s.brk.det.get e).tripped = false) →
    (r.brk.threadingHold ≠ 0 →
      exec (.debounceExpiry d) s = .next
        (({ s with brk := { s.brk with
            state := .threading
            relay := false
            threadingTimer := .running (r.brk.threadingHold * 1000000)
            det := clearOf s d } }).offer
          (.breakState .threading s.brk.causes s.brk.count)).settle)
    ∧ (r.brk.threadingHold = 0 → r.brk.autoResume = false →
      exec (.debounceExpiry d) s = .next
        (({ s with brk := { s.brk with
            state := .threading, relay := false, threadingTimer := .stopped, det := clearOf s d } }).offer
          (.breakState .threading s.brk.causes s.brk.count)).settle)
    ∧ (r.brk.threadingHold = 0 → r.brk.autoResume = true → (s.head.state = .parked → s.head.scan = none) →
      ∃ u : State, exec (.debounceExpiry d) s = .next u ∧ EntersRecovering s u ∧ u.brk.det = clearOf s d
        ∧ (s.head.state = .parked → DecidesAtPark s s.head.slots true u)
        ∧ (s.head.state ≠ .parked → u.std = { s.std with stdDue := true } ∧ u.head = s.head)))
  ∧ (∀ (s : State) (r : Recipe), s.activeRecipe = some r → s.brk.state = .threading →
    s.brk.threadingTimer.isRunning = true →
    (r.brk.autoResume = false →
      exec .threadingTimerExpiry s = .next ({ s with brk := { s.brk with threadingTimer := .stopped } }).settle)
    ∧ (r.brk.autoResume = true → (s.head.state = .parked → s.head.scan = none) →
      ∃ u : State, exec .threadingTimerExpiry s = .next u ∧ EntersRecovering s u
        ∧ u.brk.det = s.brk.det ∧ u.edges.locked = false ∧ u.edges.previous = none
        ∧ (s.head.state = .parked → DecidesAtPark s s.head.slots true u)
        ∧ (s.head.state ≠ .parked → u.std = { s.std with stdDue := true } ∧ u.head = s.head
          ∧ u.edges = restartedEdges s.edges)))
  ∧ (∀ s : State, (s.brk.state ≠ .threading ∨ s.brk.threadingTimer = .stopped) →
    exec .threadingTimerExpiry s = .next s.settle)

/-- R132 with R134, and the decision of a PARKED head (R42, R44), which has no scan in progress (KeepsOneFillingRecord); the
drive of a head at its target is log 23. -/
def Obligations.ResumeEntersRecovering : Prop :=
  ∀ (s : State) (st : Station) (tag : Byte), Ready s st →
    (s.brk.state ≠ .threading →
      exec (.resume st tag []) s = .next (answered s st .resume tag (.status .state)).settle)
    ∧ (s.brk.state = .threading → s.head.state ≠ .parked →
      exec (.resume st tag []) s = .next
        (({ answered s st .resume tag (.status .ok) with
            brk := { s.brk with state := .recovering, threadingTimer := .stopped, recoveryCount := 0, relay := false }
            profile := restartedProfile s.profile
            edges := restartedEdges s.edges
            absent := if s.edges.locked then ⟨false, 0, 0, false⟩ else s.absent
            hole := if s.edges.locked then { s.hole with run := 0, marker := false } else s.hole
            std := { s.std with stdDue := true } }).offer
          (.breakState .recovering s.brk.causes s.brk.count)).settle)
    ∧ (s.brk.state = .threading → s.head.state = .parked → s.head.scan = none →
      ∃ u : State, exec (.resume st tag []) s = .next u ∧ EntersRecovering s u ∧ u.brk.det = s.brk.det
        ∧ (u.ports.get st).replies = (s.ports.get st).replies ++ [⟨some .resume, tag, .status .ok⟩]
        ∧ u.edges.locked = false ∧ u.edges.previous = none ∧ u.edges.inCount = 0
        ∧ DecidesAtPark s s.head.slots true u)

/-- An accepted sample that meets the assessment conditions of R121, at a slot that ends no window or period. -/
def Sys2Proof.Safety.AssessedArrival (s : State) (t : SampleTelegram) : Prop :=
  PlainSlot s ∧ s.std.phase = .idle ∧ s.link.state = .sync ∧ s.edges.locked = true ∧ s.speed.atSpeed = true
    ∧ crc16 (sampleCovered t) = t.check ∧ (t.seq = s.link.expected ∨ s.link.resync = true)
    ∧ ∃ e, s.edges.lockedEdges = some e
      ∧ ((∃ leg, s.head.state = .scanning leg) ∧ e.a ≤ s.head.position.toNat ∧ s.head.position.toNat ≤ e.b
        ∨ s.head.state = .singlePoint ∧ e.a ≤ s.head.pointPos ∧ s.head.pointPos ≤ e.b)

/-- R121 to R124, R127, R130, R131; a scan in progress is on a measuring leg (KeepsOneFillingRecord). -/
def Obligations.AbsentWindowJudged : Prop :=
  ∀ (s : State) (t : SampleTelegram) (r : Recipe), AssessedArrival s t → s.activeRecipe = some r →
    s.absent.assessed = 63 → (s.head.scan.isSome = true → measuringLeg s.head.state = true) →
    let n := s.absent.present + (if (s.convert t).present then 1 else 0)
    let declared := n < 3 ∧ (r.brk.absentMode = .strict ∨ s.absent.short = true)
    let tripped := s.brk.det.map (fun x => x.tripped)
    let entered : Supervisor := { s.brk with
      count := min 65535 (s.brk.count + 1), causes := ⟨tripped, true⟩, threadingTimer := .stopped }
    (¬declared → ∃ u : State, exec (.absentWindowEnd t) s = .next u
      ∧ u.absent = ⟨true, 0, 0, decide (n < 3 ∧ r.brk.absentMode = .confirmed ∧ s.absent.short = false)⟩
      ∧ u.brk = s.brk ∧ u.head = s.head)
    ∧ (declared → (s.brk.state = .running ∨ s.brk.state = .recovering) → s.head.position ≠ 0 →
      ∃ u : State, exec (.absentWindowEnd t) s = .next u
        ∧ u.brk.count = min 65535 (s.brk.count + 1) ∧ u.brk.causes.absent = true
        ∧ u.absent = ⟨false, 0, 0, false⟩ ∧ u.head.scan = none ∧ u.profile.continuity = false
        ∧ ((∃ leg, s.head.state = .scanning leg) → u.head.state = .returning ∧ u.head.drvDir = false)
        ∧ (s.head.state = .singlePoint → u.points.period = none ∧ u.points.ring = s.points.ring
            ∧ u.head.state = (if s.pins.drvRdy then .returning else .fault))
        ∧ (s.head.scan.isSome = true → u.ring = s.ring.onFilling (fun x => { x with status := .void }))
        ∧ (∀ k, s.head.scan.isSome = true → s.store.pendingSlot = some k → Activated s u k)
        ∧ ((s.head.scan = none ∨ s.store.pendingSlot = none) →
          (tripped ≠ ⟨false, false, false, false⟩ → u.brk = { entered with state := .break_, relay := true })
          ∧ (tripped = ⟨false, false, false, false⟩ →
            (r.brk.threadingHold ≠ 0 → u.brk = { entered with
                state := .threading, relay := false, threadingTimer := .running (r.brk.threadingHold * 1000000) })
            ∧ (r.brk.threadingHold = 0 → r.brk.autoResume = false →
                u.brk = { entered with state := .threading, relay := false })
            ∧ (r.brk.threadingHold = 0 → r.brk.autoResume = true →
                u.brk = { entered with state := .recovering, relay := false, recoveryCount := 0 }))))

/-- The table of R144 with the counting of R145. -/
def Sys2Proof.Safety.holeTable (h : Hole) (maxRun : Nat) (present : Bool) : Hole :=
  match present, h.marker with
  | false, false => h
  | false, true => { h with run := if h.run < 33 then h.run + 1 else 33 }
  | true, false => { h with marker := true, run := 0 }
  | true, true =>
    if 1 ≤ h.run ∧ h.run ≤ maxRun then
      if h.counter = 65535 then { h with run := 0, overflow := true }
      else { h with run := 0, counter := h.counter + 1 }
    else { h with run := 0 }

/-- An accepted sample taken while assessing, outside the locked interval, at a slot that ends no window or period. -/
def Sys2Proof.Safety.OutsideArrival (s : State) (t : SampleTelegram) : Prop :=
  PlainSlot s ∧ s.std.phase = .idle ∧ s.link.state = .sync ∧ s.edges.locked = true ∧ s.speed.atSpeed = true
    ∧ crc16 (sampleCovered t) = t.check ∧ (t.seq = s.link.expected ∨ s.link.resync = true)
    ∧ ∃ e, s.edges.lockedEdges = some e
      ∧ ((∃ leg, s.head.state = .scanning leg) ∧ (s.head.position.toNat < e.a ∨ e.b < s.head.position.toNat)
        ∨ s.head.state = .singlePoint ∧ (s.head.pointPos < e.a ∨ e.b < s.head.pointPos))

/-- R142 to R145 and R122's counting; the run length and the counter within their ranges. That a sample outside the
interval leaves the stored item `assessing` set is the model's choice (log 28). -/
def Obligations.HoleRunFollowsTable : Prop :=
  ∀ (s : State) (t : SampleTelegram),
    (AssessedArrival s t → s.absent.assessed < 63 → s.hole.run ≤ 33 → s.hole.counter ≤ 65535 →
      ∃ u : State, exec (.sampleTelegramArrival t) s = .next u
        ∧ u.hole = holeTable s.hole s.recipe.holes.maxRun (s.convert t).present
        ∧ u.absent = ⟨true, s.absent.assessed + 1,
            s.absent.present + (if (s.convert t).present then 1 else 0), s.absent.short⟩
        ∧ u.brk = s.brk ∧ u.head = s.head)
    ∧ (OutsideArrival s t →
      ∃ u : State, exec (.sampleTelegramArrival t) s = .next u ∧ u.hole = { s.hole with run := 0, marker := false }
        ∧ u.absent = { s.absent with assessing := true } ∧ u.brk = s.brk ∧ u.head = s.head)

/-- R147 to R150. -/
def Obligations.HoleReportsTransfer : Prop :=
  (∀ (s : State) (st : Station) (tag : Byte), Ready s st →
    let report : HoleReport := ⟨.take, s.hole.counter, s.hole.overflow, s.mdMetres - s.hole.mdMark, s.mdMetres⟩
    ((∀ r, s.activeRecipe = some r → r.holes.mode = .manual) →
      exec (.takeCount st tag []) s = .next
        (({ answered s st .takeCount tag (.takeCount .manual report 0 false) with
            hole := { s.hole with counter := 0, overflow := false, mdMark := s.mdMetres, last := report } }).offer
          (.holeReport report)).settle)
    ∧ (∀ r, s.activeRecipe = some r → r.holes.mode = .auto →
      exec (.takeCount st tag []) s = .next
        (answered s st .takeCount tag (.takeCount .auto s.hole.last s.hole.counter s.hole.overflow)).settle))
  ∧ (∀ (dir : CountDir) (s : State) (x : ActiveScan) (i : Nat), CompletesScan dir s x i →
    ∃ u : State, exec (.encoderCount dir) s = .next u ∧ u.hole.run = 0 ∧ u.hole.marker = false
      ∧ (s.recipe.holes.mode = .auto →
          u.hole.last = ⟨.scan (s.ring.newest + 1), s.hole.counter, s.hole.overflow,
              s.mdMetres - s.hole.mdMark, s.mdMetres⟩
            ∧ u.hole.counter = 0 ∧ u.hole.overflow = false ∧ u.hole.mdMark = s.mdMetres)
      ∧ (s.recipe.holes.mode = .manual →
          u.hole.last = s.hole.last ∧ u.hole.counter = s.hole.counter ∧ u.hole.overflow = s.hole.overflow
            ∧ u.hole.mdMark = s.hole.mdMark))

/-- The table of R154. -/
def Sys2Proof.Safety.judgedAs (e : LimitEntry) (v : Val) (old new : LimitState) : Prop :=
  match v with
  | none => new = (match e.check with
      | .quiet => old
      | .signal => .unknown)
  | some x =>
    let beyond : Prop := match e.bound with
      | .high => e.limit < x
      | .low => x < e.limit
    let cleared : Prop := match e.bound with
      | .high => x ≤ e.limit - e.hysteresis
      | .low => e.limit + e.hysteresis ≤ x
    (beyond → new = .exceeded) ∧ (¬beyond → cleared → new = .clear)
      ∧ (¬beyond → ¬cleared → new = if old = .exceeded then .exceeded else .clear)

/-- The value that an entry checks, from what the completion has written for its measurement (R152). -/
def Sys2Proof.Safety.ChecksValue (n : LimitEntry) (w : MeasRecord) (v : Val) : Prop :=
  match n.target with
  | .avg => v = w.avg
  | .spread => v = w.spread
  | .zoneMax => (v = none ↔ ∀ z ∈ w.zones, z = none)
      ∧ ∀ x, v = some x → some x ∈ w.zones ∧ ∀ y, some y ∈ w.zones → y ≤ x
  | .zoneMin => (v = none ↔ ∀ z ∈ w.zones, z = none)
      ∧ ∀ x, v = some x → some x ∈ w.zones ∧ ∀ y, some y ∈ w.zones → x ≤ y
  | .end_ => False

/-- What an evaluation leaves of the limit table and its notice (R153 to R156): the live entries judged, the rest as they
stood, the relay, and a LIMIT notice exactly if an entry has changed. -/
def Sys2Proof.Safety.LimitsEvaluated (s u : State) (w : PerMeas MeasRecord) (number : BitVec 16) : Prop :=
  let live := s.recipe.limits.takeWhile (fun (n : LimitEntry) => n.target != .end_)
  let changed (j : Nat) : Prop := s.limits.states[j]? ≠ u.limits.states[j]?
  u.limits.states.length = 16
    ∧ (∀ (j : Nat) (n : LimitEntry) (old : LimitState), live[j]? = some n → s.limits.states[j]? = some old →
        ∃ v new, ChecksValue n (w.get n.meas) v ∧ u.limits.states[j]? = some new ∧ judgedAs n v old new)
    ∧ (∀ j : Nat, live.length ≤ j → u.limits.states[j]? = s.limits.states[j]?)
    ∧ (u.limits.relay = true ↔ ∃ (j : Nat) (n : LimitEntry), live[j]? = some n ∧ n.relay = true
        ∧ u.limits.states[j]? = some .exceeded)
    ∧ (∀ (j : Nat) (entering : Bool), changed j → (∀ k, j < k → ¬changed k) →
        (entering = true ↔ ∃ k, changed k ∧ u.limits.states[k]? ≠ some .clear) →
        Notified s u (.limit u.limits.states j entering number))
    ∧ ((∀ j, ¬changed j) → Unheard s u .limit)

/-- R152 to R156. -/
def Obligations.LimitEntryJudged : Prop :=
  (∀ (e : LimitEntry) (v : Val) (old : LimitState), judgedAs e v old (e.judge v old))
  ∧ (∀ (dir : CountDir) (s : State) (x : ActiveScan) (i : Nat), CompletesScan dir s x i →
    (∃ r, s.ring.records[i]? = some r ∧ r.quality.provisional = false) →
    (∀ (j : Nat) (r : ScanRecord), s.ring.records[j]? = some r → r.status = .complete →
      r.number ≠ some (s.ring.newest + 1)) →
    s.store.pendingSlot = none → s.limits.states.length = 16 → s.recipe.limits.length = 16 →
    ∃ (u : State) (w : PerMeas MeasRecord) (nb nm nc : Prop),
      exec (.encoderCount dir) s = .next u ∧ ScanWorked s u x w nb nm nc
      ∧ ((s.brk.state = .recovering ∨ s.speed.speed < s.store.machine.minRunSpeed) →
          u.limits = s.limits ∧ Unheard s u .limit)
      ∧ (s.brk.state ≠ .recovering → s.store.machine.minRunSpeed ≤ s.speed.speed →
          LimitsEvaluated s u w (s.ring.newest + 1)))

/-- R162, whole. -/
def Obligations.MachineReadServed : Prop :=
  (∀ (s : State) (st : Station) (tag : Byte), Ready s st →
    exec (.machineRead st tag []) s = .next
      (answered s st .machineRead tag (.machine .ok s.store.machineSet s.store.machine)).settle)
  ∧ (∀ p : List Byte, lengthOk .machineRead p = true ↔ p = [])
  ∧ (∀ (ring : Ring) (set : Bool) (m : MachineRecord),
    (ReplyBody.machine .ok set m).bytes ring
      = [0, if set then 1 else 0] ++ le16 m.frameLength ++ le32 m.tachIncrement
        ++ le16 m.nominal.bw ++ le16 m.nominal.water ++ le16 m.nominal.gap
        ++ le16 m.zeroDrift.bw ++ le16 m.zeroDrift.water ++ le16 m.zeroDrift.gap
        ++ le16 m.gainDrift ++ le16 m.stdSamples ++ le16 m.minRunSpeed
        ++ ([m.polarity.wet, m.polarity.press, m.polarity.dry, m.polarity.reel].map (fun x =>
          if x = .low then (1 : Byte) else 0)))

/-- R160, step 3: every numeric field within the range of R159. -/
def Sys2Proof.Safety.machineInRange (m : MachineRecord) : MachineRecord :=
  let nom (x : Nat) : Nat := max 1 (min 32767 x)
  let zd (x : Nat) : Nat := max 0 (min 65535 x)
  { m with
    frameLength := max 4000 (min 60000 m.frameLength)
    tachIncrement := max 1 (min 16777216 m.tachIncrement)
    nominal := ⟨nom m.nominal.bw, nom m.nominal.water, nom m.nominal.gap⟩
    zeroDrift := ⟨zd m.zeroDrift.bw, zd m.zeroDrift.water, zd m.zeroDrift.gap⟩
    gainDrift := max 0 (min 24576 m.gainDrift)
    minRunSpeed := max 1 (min 3000 m.minRunSpeed) }

/-- Some ACTIVE or PENDING slot has its scan limit B above a frame length. -/
def Sys2Proof.Safety.frameBelowB (s : State) (len : Nat) : Prop :=
  ∃ i, ((s.store.slots.get i).state = .active ∨ (s.store.slots.get i).state = .pending)
    ∧ len < (s.store.slots.get i).recipe.geometry.b

/-- The machine body of 12.2, field by field at its offset. -/
def Sys2Proof.Safety.machineAt (p : List Byte) : MachineRecord :=
  let pol (i : Nat) : Polarity := if b8 p i = 1 then .low else .high
  { frameLength := b16 p 0, tachIncrement := b16 p 2 + 65536 * b16 p 4, nominal := ⟨b16 p 6, b16 p 8, b16 p 10⟩,
    zeroDrift := ⟨b16 p 12, b16 p 14, b16 p 16⟩, gainDrift := b16 p 18, stdSamples := b16 p 20, minRunSpeed := b16 p 22,
    polarity := ⟨pol 24, pol 25, pol 26, pol 27⟩ }

/-- R160 and R161, with the fields of the body by their offsets (12.2). -/
def Obligations.MachineWriteReplacesRecord : Prop :=
  (∀ p : List Byte, machineOf? p =
    if b8 p 24 ≤ 1 ∧ b8 p 25 ≤ 1 ∧ b8 p 26 ≤ 1 ∧ b8 p 27 ≤ 1 then some (machineAt p) else none)
  ∧ ∀ (s : State) (st : Station) (tag : Byte) (p : List Byte), Ready s st → p.length = 28 →
    let refused (c : Status) := answered s st .machineWrite tag (.machine c s.store.machineSet s.store.machine)
    let o := exec (.machineWrite st tag p) s
    (s.head.state ≠ .parked → s.head.state ≠ .homing → s.head.state ≠ .fault → o = .next (refused .state).settle)
    ∧ ((s.head.state = .parked ∨ s.head.state = .homing ∨ s.head.state = .fault) →
      (machineOf? p = none → o = .next (refused .badField).settle)
      ∧ (∀ m, machineOf? p = some m →
        ((m.stdSamples ∉ [64, 128, 256, 512, 1024] ∨ frameBelowB s (machineInRange m).frameLength) →
          o = .next (refused .badField).settle)
        ∧ (m.stdSamples ∈ [64, 128, 256, 512, 1024] → ¬frameBelowB s (machineInRange m).frameLength →
          let n := machineInRange m
          let store : Store := ⟨true, n, s.store.slots.map (fun x =>
            if x.state = .editing ∨ x.state = .valid then { x with state := .editing } else x)⟩
          let fast := decide (n.minRunSpeed ≤ s.speed.speed)
          let flip (a b : Polarity) (u : DetectorUnit) : DetectorUnit :=
            if a = b then u else { u with asserted := !u.asserted, age := 0 }
          let a := s.store.machine.polarity
          let b := n.polarity
          let d := s.brk.det
          o = .next
            (({ answered s st .machineWrite tag (.machine (if n = m then .ok else .clamped) true n) with
                store := store
                speed := { s.speed with increment := n.tachIncrement, atSpeed := fast }
                absent := if s.speed.atSpeed = true ∧ fast = false then ⟨false, 0, 0, false⟩ else s.absent
                hole := if s.speed.atSpeed = true ∧ fast = false then { s.hole with run := 0, marker := false } else s.hole
                brk := { s.brk with det :=
                  ⟨flip a.wet b.wet d.wet, flip a.press b.press d.press, flip a.dry b.dry d.dry,
                    flip a.reel b.reel d.reel⟩ } }).offer
              (.recipe .machine (store.slots.map (fun (x : Slot) => (x.state, x.generation))) store.active store.pendingSlot
                true)).settle)))

/-- Every numeric field of a group within its range of R164 (R165, step 4). -/
def Sys2Proof.Safety.groupInRange : GroupBody → GroupBody
  | .geometry g => .geometry
    { a := min 65535 g.a, b := min 65535 g.b, origin := min 65535 g.origin, w := max 20 (min 2000 g.w),
      n := max 4 (min 512 g.n), trim := min 8 g.trim }
  | .motion m => .motion { step := max 1 (min 7 m.step), pointSamples := max 100 (min 4000 m.pointSamples) }
  | .measure m => .measure
    { threshold := max 1 (min 32767 m.threshold), minSamples := max 1 (min 15 m.minSamples),
      stdInterval := min 255 m.stdInterval }
  | .edges e => .edges
    { window := max 4 (min 4000 e.window), lockCount := max 1 (min 15 e.lockCount),
      unlockCount := max 1 (min 15 e.unlockCount) }
  | .filter f => .filter
    { weight := max 1 (min 16 f.weight), stepLimit := min 32767 f.stepLimit, voidLimit := max 1 (min 15 f.voidLimit) }
  | .zones z => .zones (z.map (fun x => ⟨min 511 x.first, min 511 x.last⟩))
  | .brk b => .brk { b with
      debounces := b.debounces.map (fun x => max 1 (min 200 x))
      threadingHold := min 600 b.threadingHold
      recoveryScans := max 1 (min 8 b.recoveryScans) }
  | .holes h => .holes { h with maxRun := max 1 (min 32 h.maxRun) }
  | .limits l => .limits (l.map (fun e => { e with
      limit := max (-32767) (min 32767 e.limit), hysteresis := min 1000 e.hysteresis }))

/-- One limit entry of 12.2, ten bytes from an offset. -/
def Sys2Proof.Safety.limitAt (p : List Byte) (o : Nat) : LimitEntry :=
  let raw := b16 p (o + 6)
  { target := match b8 p o with
      | 1 => .avg
      | 2 => .spread
      | 3 => .zoneMax
      | 4 => .zoneMin
      | _ => .end_
    meas := match b8 p (o + 1) with
      | 0 => .bw
      | 1 => .moist
      | _ => .cal
    bound := if b8 p (o + 2) = 1 then .low else .high
    check := if b8 p (o + 3) = 1 then .signal else .quiet
    relay := decide (b8 p (o + 4) = 1)
    limit := if raw < 32768 then raw else (raw : Int) - 65536
    hysteresis := b16 p (o + 8) }

/-- A group body of 12.2, field by field at its offset, behind the slot and group bytes of a RECIPE WRITE. -/
def Sys2Proof.Safety.groupAt (p : List Byte) : Group → GroupBody
  | .geometry => .geometry
    { a := b16 p 2, b := b16 p 4, origin := b16 p 6, w := b16 p 8, n := b16 p 10, trim := b8 p 12 }
  | .motion => .motion { step := b8 p 2, pointSamples := b16 p 4 }
  | .measure => .measure { threshold := b16 p 2, minSamples := b8 p 4, stdInterval := b8 p 5 }
  | .edges => .edges { window := b16 p 2, lockCount := b8 p 4, unlockCount := b8 p 5 }
  | .filter => .filter { weight := b8 p 2, stepLimit := b16 p 4, voidLimit := b8 p 6 }
  | .zones => .zones ((List.range (b8 p 2)).map (fun k => ⟨b16 p (4 + 4 * k), b16 p (6 + 4 * k)⟩))
  | .brk => .brk
    { enables := ⟨decide (b8 p 2 = 1), decide (b8 p 3 = 1), decide (b8 p 4 = 1), decide (b8 p 5 = 1)⟩
      debounces := ⟨b8 p 6, b8 p 7, b8 p 8, b8 p 9⟩
      absentMode := if b8 p 10 = 1 then .confirmed else .strict
      autoResume := decide (b8 p 11 = 1)
      threadingHold := b16 p 12
      recoveryScans := b8 p 14 }
  | .holes => .holes { maxRun := b8 p 2, mode := if b8 p 3 = 1 then .manual else .auto }
  | .limits => .limits ((List.range 16).map (fun k => limitAt p (2 + 10 * k)))

/-- Every enumerated code of a group body is listed, and a zone count is at most 128 (R165, R196). -/
def Sys2Proof.Safety.groupListed (p : List Byte) : Group → Prop
  | .geometry | .motion | .measure | .edges | .filter => True
  | .zones => b8 p 2 ≤ 128
  | .brk => b8 p 2 ≤ 1 ∧ b8 p 3 ≤ 1 ∧ b8 p 4 ≤ 1 ∧ b8 p 5 ≤ 1 ∧ b8 p 10 ≤ 1 ∧ b8 p 11 ≤ 1
  | .holes => b8 p 3 ≤ 1
  | .limits => ∀ k, k < 16 → b8 p (2 + 10 * k) ≤ 4 ∧ b8 p (3 + 10 * k) ≤ 2 ∧ b8 p (4 + 10 * k) ≤ 1
      ∧ b8 p (5 + 10 * k) ≤ 1 ∧ b8 p (6 + 10 * k) ≤ 1

/-- R165 and R172, with the fields of each group by their offsets (12.2). -/
def Obligations.RecipeWriteStoresClamped : Prop :=
  (∀ (g : Group) (p : List Byte), (groupListed p g → groupBodyOf? g p 2 = some (groupAt p g))
    ∧ (¬groupListed p g → groupBodyOf? g p 2 = none))
  ∧ (∀ (s : State) (st : Station) (tag : Byte) (p : List Byte), Ready s st → lengthOk .recipeWrite p = true →
    let o := exec (.recipeWrite st tag p) s
    ((3 < u8At p 0 ∨ 8 < u8At p 1) → o = .next (answered s st .recipeWrite tag (.status .badField)).settle)
    ∧ (∀ i g, ix4? (u8At p 0) = some i → groupOf? (u8At p 1) = some g →
      ((s.store.slots.get i).state = .active ∨ (s.store.slots.get i).state = .pending →
        o = .next (answered s st .recipeWrite tag (.status .activeSlot)).settle)
      ∧ ((s.store.slots.get i).state ≠ .active → (s.store.slots.get i).state ≠ .pending →
        (groupBodyOf? g p 2 = none → o = .next (answered s st .recipeWrite tag (.status .badField)).settle)
        ∧ (∀ b, groupBodyOf? g p 2 = some b →
          let c := groupInRange b
          o = .next ({ answered s st .recipeWrite tag
                (.recipeWrite (if c = b then .ok else .clamped) .editing i c) with
              store := { s.store with
                slots := s.store.slots.set i ⟨.editing, (s.store.slots.get i).generation,
                  (s.store.slots.get i).recipe.store c⟩ } }).settle
            ∧ ((s.store.slots.get i).recipe.store c).read g = c
            ∧ ∀ g', g' ≠ g → ((s.store.slots.get i).recipe.store c).read g'
                = (s.store.slots.get i).recipe.read g'))))
  ∧ (∀ (s : State) (st : Station) (tag b0 b1 : Byte), Ready s st →
    ((3 < b0.toNat ∨ 8 < b1.toNat) →
      exec (.recipeRead st tag [b0, b1]) s = .next (answered s st .recipeRead tag (.status .badField)).settle)
    ∧ (∀ i g, ix4? b0.toNat = some i → groupOf? b1.toNat = some g →
      exec (.recipeRead st tag [b0, b1]) s = .next (answered s st .recipeRead tag
        (.recipeRead (s.store.slots.get i).state (s.store.slots.get i).generation i
          ((s.store.slots.get i).recipe.read g))).settle))

/-- The checks of R166 as they stand there. -/
def Sys2Proof.Safety.checkPasses (s : State) (r : Recipe) : Nat → Prop
  | 1 => s.store.machineSet = true
  | 2 => 400 ≤ r.geometry.a ∧ r.geometry.a < r.geometry.b ∧ r.geometry.b ≤ s.store.machine.frameLength
  | 3 => r.geometry.a ≤ r.geometry.origin ∧ r.geometry.origin + r.geometry.n * r.geometry.w ≤ r.geometry.b
  | 4 => (∀ z ∈ r.zones, z.first ≤ z.last ∧ z.last < r.geometry.n)
      ∧ ∀ (k : Nat) (y z : Zone), r.zones[k]? = some y → r.zones[k + 1]? = some z → y.last < z.first
  | 5 => r.zones = [] → ∀ e ∈ r.limits.takeWhile (fun (e : LimitEntry) => e.target != .end_),
      e.target ≠ .zoneMax ∧ e.target ≠ .zoneMin
  | _ => True

/-- R166. -/
def Obligations.ValidateRunsChecks : Prop :=
  ∀ (s : State) (st : Station) (tag b : Byte), Ready s st →
    let o := exec (.validate st tag [b]) s
    (3 < b.toNat → o = .next (answered s st .validate tag (.status .badField)).settle)
    ∧ (∀ i, ix4? b.toNat = some i →
      let x := s.store.slots.get i
      (x.state = .empty → o = .next (answered s st .validate tag (.status .state)).settle)
      ∧ (x.state = .active ∨ x.state = .pending → o = .next (answered s st .validate tag (.status .ok)).settle)
      ∧ (x.state = .editing ∨ x.state = .valid →
        (∀ n, 1 ≤ n → n ≤ 5 → ¬checkPasses s x.recipe n → (∀ m, 1 ≤ m → m < n → checkPasses s x.recipe m) →
          o = .next (answered s st .validate tag (.failedCheck n)).settle)
        ∧ ((∀ m, 1 ≤ m → m ≤ 5 → checkPasses s x.recipe m) →
          o = .next ({ answered s st .validate tag (.status .ok) with
            store := { s.store with slots := s.store.slots.set i { x with state := .valid } } }).settle)))

/-- R167, the store's step of R169 with the blocks it is handed to and their notices (R157, R171), and the first activation
(R120, R125). -/
def Obligations.SelectBySlotState : Prop :=
  ∀ (s : State) (st : Station) (tag b : Byte), Ready s st →
    let o := exec (.select st tag [b]) s
    let back (x : Slot) : Slot := if x.state = .pending then { x with state := .valid } else x
    let told (s' : State) (c : RecipeCause) : State := s'.offer
      (.recipe c (s'.store.slots.map (fun x => (x.state, x.generation))) s'.store.active s'.store.pendingSlot
        s'.store.machineSet)
    (3 < b.toNat → o = .next (answered s st .select tag (.status .badField)).settle)
    ∧ (∀ i, ix4? b.toNat = some i →
      let x := s.store.slots.get i
      (x.state = .empty ∨ x.state = .editing → o = .next (answered s st .select tag (.status .notValid)).settle)
      ∧ (x.state = .pending → o = .next (answered s st .select tag (.select .atCompletion)).settle)
      ∧ (x.state = .active → (∀ j, (s.store.slots.get j).state ≠ .pending) →
          o = .next (answered s st .select tag (.select .none)).settle)
      ∧ (x.state = .active → (∃ j, (s.store.slots.get j).state = .pending) →
          o = .next (told { answered s st .select tag (.select .none) with
            store := { s.store with slots := s.store.slots.map back } } .cancelled).settle)
      ∧ (x.state = .valid → s.head.scan.isSome = true →
          o = .next (told { answered s st .select tag (.select .atCompletion) with
            store := { s.store with slots := (s.store.slots.map back).set i { x with state := .pending } } }
              .selected).settle)
      ∧ (x.state = .valid → s.head.scan = none →
          ∃ u : State, o = .next u ∧ Activated s u i ∧ Notified s u (recipeNews u .activated)
            ∧ (∀ (j : Nat) (y : LimitState), s.limits.states.length = 16 → s.limits.states[j]? = some y → y ≠ .clear →
                (∀ k z, j < k → s.limits.states[k]? = some z → z = .clear) →
                Notified s u (.limit (List.replicate 16 .clear) j false s.ring.newest))
            ∧ (u.ports.get st).replies = (s.ports.get st).replies ++ [⟨some .select, tag, .select .immediate⟩]
            ∧ (s.brk.state = .idle → QuietUnder x.recipe s →
                u.brk.state = .recovering ∧ u.brk.recoveryCount = 0 ∧ u.brk.count = s.brk.count
                  ∧ (s.head.state ≠ .parked → u.std.stdDue = true))
            ∧ (s.brk.state = .idle → ¬QuietUnder x.recipe s →
                u.brk.state = .break_ ∧ u.brk.relay = true ∧ u.brk.count = min 65535 (s.brk.count + 1)
                  ∧ u.brk.causes.absent = false
                  ∧ (∀ d, u.brk.causes.det.get d = rejudgedTripped x.recipe.brk d (s.brk.det.get d)))))

/-- The command of a request kind. -/
def Sys2Proof.Safety.requestOf (k : RequestKind) (st : Station) (tag : Byte) (p : List Byte) : Instr :=
  match k with
  | .status => .status st tag p
  | .readScan => .readScan st tag p
  | .readTrend => .readTrend st tag p
  | .readPoints => .readPoints st tag p
  | .readStandardization => .readStandardization st tag p
  | .cancel => .cancel st tag p
  | .mode => .mode st tag p
  | .clearFault => .clearFault st tag p
  | .resume => .resume st tag p
  | .takeCount => .takeCount st tag p
  | .restartProfiles => .restartProfiles st tag p
  | .recipeWrite => .recipeWrite st tag p
  | .recipeRead => .recipeRead st tag p
  | .validate => .validate st tag p
  | .select => .select st tag p
  | .machineWrite => .machineWrite st tag p
  | .machineRead => .machineRead st tag p
  | .subscribe => .subscribe st tag p

/-- The payload length of a kind (12.2); none for RECIPE WRITE, whose length its group gives. -/
def Sys2Proof.Safety.fixedLength : RequestKind → Option Nat
  | .readScan => some 14
  | .readPoints | .mode | .subscribe => some 4
  | .recipeRead => some 2
  | .validate | .select => some 1
  | .machineWrite => some 28
  | .status | .readTrend | .readStandardization | .cancel | .clearFault | .resume | .takeCount | .restartProfiles
  | .machineRead => some 0
  | .recipeWrite => none

/-- A RECIPE WRITE payload of the length its group gives it (12.2): slot, group and the group's body, a ZONES body by the
zone count it carries; an unknown group passes (R182). -/
def Sys2Proof.Safety.recipeWriteFits (p : List Byte) : Prop :=
  2 ≤ p.length ∧ match b8 p 1 with
    | 0 => p.length = 2 + 12
    | 1 | 2 | 3 => p.length = 2 + 4
    | 4 => p.length = 2 + 6
    | 5 => 4 ≤ p.length ∧ p.length = 2 + (2 + 4 * b8 p 2)
    | 6 => p.length = 2 + 14
    | 7 => p.length = 2 + 2
    | 8 => p.length = 2 + 160
    | _ => True

/-- R180, R182 to R184, and the reply kind of R196. -/
def Sys2Proof.Safety.RequestsJudged : Prop :=
  (∀ (k : RequestKind) (s : State) (st : Station) (tag : Byte) (p : List Byte), p.length ≤ 1100 →
    let count := (s.ports.get st).replies.length + (if (s.ports.get st).pending = none then 0 else 1)
    (4 ≤ count →
      exec (requestOf k st tag p) s = .next (s.onPort st (fun x => { heardPort x with dropped := true })).settle)
    ∧ (count < 4 → lengthOk k p = false →
      exec (requestOf k st tag p) s = .next (answered s st k tag (.status .badLength)).settle)
    ∧ (count < 4 → lengthOk k p = true → (s.ports.get st).pending ≠ none → k ≠ .status → k ≠ .cancel →
      exec (requestOf k st tag p) s = .next (answered s st k tag (.status .busy)).settle))
  ∧ (∀ (s : State) (st : Station) (kind tag : Byte) (p : List Byte), p.length ≤ 1100 →
    (kind.toNat = 0 ∨ 0x12 < kind.toNat) →
    let count := (s.ports.get st).replies.length + (if (s.ports.get st).pending = none then 0 else 1)
    (4 ≤ count →
      exec (.unknownKind st kind tag p) s = .next (s.onPort st (fun x => { heardPort x with dropped := true })).settle)
    ∧ (count < 4 → exec (.unknownKind st kind tag p) s = .next (s.onPort st (fun x => { heardPort x with
        replies := x.replies ++ [⟨none, tag, .status .unknownKind⟩] })).settle))
  ∧ (∀ (k : RequestKind) (n : Nat) (p : List Byte), fixedLength k = some n → (lengthOk k p = true ↔ p.length = n))
  ∧ (∀ p : List Byte, lengthOk .recipeWrite p = true ↔ recipeWriteFits p)
  ∧ (∀ (k : RequestKind) (tag : Byte) (b : ReplyBody),
      (⟨some k, tag, b⟩ : Reply).kindByte = BitVec.ofNat 8 k.code + 0x40
        ∧ (⟨none, tag, b⟩ : Reply).kindByte = 0x40)

/-- The codes of 12.1, 12.3 and 12.4, each list in the order of the manual. -/
def Sys2Proof.Safety.CodesAsListed : Prop :=
  [HeadState.homing, .parked, .standardizing, .scanning .approach, .scanning .fwd, .scanning .rev, .positioning,
      .singlePoint, .returning, .fault].map HeadState.code = [0, 1, 2, 3, 3, 3, 4, 5, 6, 7]
    ∧ (∀ ph : StdPhase, [HeadState.homing, .parked, .standardizing, .scanning .approach, .scanning .fwd, .scanning .rev,
      .positioning, .singlePoint, .returning, .fault].map (fun h => legOrPhase h ph) = [0, 0, ph.code, 1, 2, 3, 0, 0, 0, 0])
    ∧ [StdPhase.idle, .zero, .reference, .withdraw].map StdPhase.code = List.range 4
    ∧ [FaultCause.none, .encoder, .overtravel, .drive, .homing, .standardize, .tile].map FaultCause.code = List.range 7
    ∧ (∀ (st : Station) (p : Nat), [Grant.none, .hold, .park st, .standardize, .point st p, .scan].map
        (fun g => (g.code, slotCode g.station, g.p))
      = [(0, 0xFF, 0), (1, 0xFF, 0), (2, Ix4.code st, 0), (3, 0xFF, 0), (4, Ix4.code st, p), (5, 0xFF, 0)])
    ∧ [BreakState.idle, .running, .break_, .threading, .recovering].map BreakState.code = List.range 5
    ∧ [LinkState.lost, .sync].map LinkState.code = List.range 2
    ∧ [ScanDir.fwd, .rev].map ScanDir.code = List.range 2
    ∧ [Meas.bw, .moist, .cal].map Meas.code = List.range 3
    ∧ [ScanPart.means, .deviations, .profile, .zones].map ScanPart.code = List.range 4
    ∧ [SlotState.empty, .editing, .valid, .pending, .active].map SlotState.code = List.range 5
    ∧ [some Ix4.n0, some .n1, some .n2, some .n3, none].map slotCode = [0, 1, 2, 3, 0xFF]
    ∧ [Ix4.n0, .n1, .n2, .n3].map Ix4.code = List.range 4
    ∧ [Outcome.none, .commit, .fail, .abort].map Outcome.code = List.range 4
    ∧ [Reason.none, .pass, .noData, .tile, .denominator, .gainRange, .zeroDrift, .gainDrift, .noRecord].map Reason.code
      = List.range 9
    ∧ [LimitState.clear, .exceeded, .unknown].map LimitState.code = List.range 3
    ∧ [RecipeCause.activated, .selected, .cancelled, .machine].map RecipeCause.code = List.range 4
    ∧ (∀ p, [ModeSlot.none, .park, .standardize, .point p].map ModeSlot.code = List.range 4)
    ∧ [Status.ok, .clamped, .busy, .unknownKind, .badLength, .badField, .notFound, .notValid, .activeSlot, .state, .break_,
      .timeout, .cancelled, .nothingPending].map Status.code = List.range 14
    ∧ [HoleMode.auto, .manual].map HoleMode.code = List.range 2
    ∧ [Group.geometry, .motion, .measure, .edges, .filter, .zones, .brk, .holes, .limits].map groupCode = List.range 9
    ∧ [LimitTarget.end_, .avg, .spread, .zoneMax, .zoneMin].map targetCode = List.range 5
    ∧ [NoticeKind.scanDone, .breakState, .limit, .standardize, .headState, .headLink, .holeReport, .recipe].map
      NoticeKind.bit = List.range 8
    ∧ [RequestKind.status, .readScan, .readTrend, .readPoints, .readStandardization, .cancel, .mode, .clearFault, .resume,
      .takeCount, .restartProfiles, .recipeWrite, .recipeRead, .validate, .select, .machineWrite, .machineRead,
      .subscribe].map RequestKind.code = (List.range 18).map (fun n => n + 1)

/-- The cause set byte (12.4). -/
def Sys2Proof.Safety.causeBits (c : CauseSet) : Int :=
  bit c.det.wet + 2 * bit c.det.press + 4 * bit c.det.dry + 8 * bit c.det.reel + 16 * bit c.absent

/-- A hole report, bit 7 of its source byte as given (12.3). -/
def Sys2Proof.Safety.reportFields (r : HoleReport) (bit7 : Bool) : List (Nat × Int) :=
  let source : Int × Int := match r.source with
    | .none => (0, 0)
    | .scan n => (1, n.toNat)
    | .take => (2, 0)
  [w8 (source.1 + 128 * bit bit7), w16 source.2, w16 r.count, w8 (bit r.overflow), w32 r.metres.toNat, w32 r.mdAt.toNat]

/-- A trend entry (12.3). -/
def Sys2Proof.Safety.trendFields (e : TrendEntry) : List (Nat × Int) :=
  [w16 e.number.toNat, w8 e.dir.code, w8 (qualityBits e.quality), w16 (orVoid e.avg.bw), w16 (orVoid e.avg.moist),
    w16 (orVoid e.avg.cal), w32 e.mdEnd.toNat, w8 0, w8 0]

/-- A point record (12.5), whose flags are four of the quality flags. -/
def Sys2Proof.Safety.pointFields (r : PointRecord) : List (Nat × Int) :=
  let f := r.quality
  [w16 r.number.toNat, w16 r.p, w32 r.mdStart.toNat, w32 r.md.toNat, w16 r.speed, w32 r.epoch.toNat, w16 r.accepted,
    w16 (orVoid r.avg.bw), w16 (orVoid r.avg.moist), w16 (orVoid r.avg.cal),
    w8 (bit f.linkGaps + 2 * bit f.provisional + 4 * bit f.tachHeld + 16 * bit f.unstandardized), w8 0]

/-- A group byte and the group body behind it (12.2). -/
def Sys2Proof.Safety.groupFields : GroupBody → List (Nat × Int)
  | .geometry g => [w8 0, w16 g.a, w16 g.b, w16 g.origin, w16 g.w, w16 g.n, w8 g.trim, w8 0]
  | .motion m => [w8 1, w8 m.step, w8 0, w16 m.pointSamples]
  | .measure m => [w8 2, w16 m.threshold, w8 m.minSamples, w8 m.stdInterval]
  | .edges e => [w8 3, w16 e.window, w8 e.lockCount, w8 e.unlockCount]
  | .filter f => [w8 4, w8 f.weight, w8 0, w16 f.stepLimit, w8 f.voidLimit, w8 0]
  | .zones z => [w8 5, w8 z.length, w8 0] ++ z.flatMap (fun x => [w16 x.first, w16 x.last])
  | .brk b =>
    [w8 6, w8 (bit b.enables.wet), w8 (bit b.enables.press), w8 (bit b.enables.dry), w8 (bit b.enables.reel),
      w8 b.debounces.wet, w8 b.debounces.press, w8 b.debounces.dry, w8 b.debounces.reel,
      w8 (if b.absentMode = .confirmed then 1 else 0), w8 (bit b.autoResume), w16 b.threadingHold, w8 b.recoveryScans,
      w8 0]
  | .holes h => [w8 7, w8 h.maxRun, w8 h.mode.code]
  | .limits l => w8 8 :: l.flatMap (fun e =>
    [w8 (targetCode e.target), w8 e.meas.code, w8 (if e.bound = .low then 1 else 0),
      w8 (if e.check = .signal then 1 else 0), w8 (bit e.relay), w8 0, w16 e.limit, w16 e.hysteresis])

/-- The machine body (12.2). -/
def Sys2Proof.Safety.machineFields (m : MachineRecord) : List (Nat × Int) :=
  let polarity (x : Polarity) : Nat × Int := w8 (if x = .low then 1 else 0)
  [w16 m.frameLength, w32 m.tachIncrement, w16 m.nominal.bw, w16 m.nominal.water, w16 m.nominal.gap,
    w16 m.zeroDrift.bw, w16 m.zeroDrift.water, w16 m.zeroDrift.gap, w16 m.gainDrift, w16 m.stdSamples,
    w16 m.minRunSpeed, polarity m.polarity.wet, polarity m.polarity.press, polarity m.polarity.dry,
    polarity m.polarity.reel]

/-- The content of a STATUS reply (R187, 12.3). The generation with no slot ACTIVE, the held number with no record held and
the position of a mode slot other than POINT are the model's 0 (log 14). -/
def Sys2Proof.Safety.statusFields (r : StatusReport) : List (Nat × Int) :=
  let active : Int × Int := match r.active with
    | some (i, g) => (Ix4.code i, g.toNat)
    | none => (0xFF, 0)
  let position : Int := match r.ownSlot with
    | .point p => p
    | .none | .park | .standardize => 0
  let held : Int × Int := match r.ownHold with
    | some n => (1, n.toNat)
    | none => (0, 0)
  [w8 r.head.code, w8 (legOrPhase r.head r.phase), w8 r.cause.code, w8 r.brk.code, w8 (causeBits r.causes),
    w16 r.breakCount, w8 r.link.code, w8 (bit r.locked), w16 r.newest.toNat, w32 r.epoch.toNat,
    w8 (if r.epoch = 0 then 0 else 1), w16 r.speed, w8 (bit r.tachHeld), w8 active.1, w16 active.2,
    w8 (slotCode r.pending), w8 r.ownSlot.code, w16 position, w8 held.1, w16 held.2, w8 (bit r.ownPending),
    w8 (bit r.ownDropped)]

/-- The content of a READ STANDARDIZATION reply (R22, 12.3). -/
def Sys2Proof.Safety.standardizationFields (r : StdReport) : List (Nat × Int) :=
  let z := r.consts.zero
  let g := r.consts.gain
  let candidate (c : Candidate) : List (Nat × Int) := [w16 c.z, w16 c.refMean, w32 c.g]
  [w16 z.bw, w16 g.bw, w16 z.water, w16 g.water, w16 z.gap, w16 g.gap, w32 r.epoch.toNat,
    w8 (if r.epoch = 0 then 0 else 1), w8 r.phase.code]
    ++ candidate r.cand.bw ++ candidate r.cand.water ++ candidate r.cand.gap
    ++ [w8 r.outcome.code, w8 r.reasons.bw.code, w8 r.reasons.water.code, w8 r.reasons.gap.code, w8 r.failCount,
      w8 (bit r.stdDue), w8 r.scanCounter]

/-- The reply payloads of 12.3, all but the served READ SCAN, which ScanReplyLaidOut treats. The position of a mode slot
other than POINT is the model's 0 (log 14). -/
def Sys2Proof.Safety.RepliesLaidOut : Prop :=
  ∀ ring : Ring,
    (∀ c, (ReplyBody.status c).bytes ring = wire [w8 c.code])
    ∧ (∀ r, (ReplyBody.report r).bytes ring = wire (w8 0 :: statusFields r))
    ∧ (∀ n, (ReplyBody.timeout n).bytes ring = wire [w8 Status.timeout.code, w16 n.toNat])
    ∧ (∀ n es, (ReplyBody.trend n es).bytes ring
        = wire ([w8 0, w16 n.toNat, w8 es.length] ++ es.flatMap trendFields))
    ∧ (∀ c n rs, (∀ r ∈ rs, r.quality.noSheet = false ∧ r.quality.noSlope = false) →
        (ReplyBody.points c n rs).bytes ring
          = wire ([w8 c.code, w16 n.toNat, w8 rs.length] ++ rs.flatMap pointFields))
    ∧ (∀ r, (ReplyBody.standardization r).bytes ring = wire (w8 0 :: standardizationFields r))
    ∧ (∀ c p, (ReplyBody.mode c (.point p)).bytes ring = wire [w8 c.code, w8 3, w8 0, w16 p])
    ∧ (∀ c m, (∀ p, m ≠ .point p) →
        (ReplyBody.mode c m).bytes ring = wire [w8 c.code, w8 m.code, w8 0, w16 0])
    ∧ (∀ m r n o, (ReplyBody.takeCount m r n o).bytes ring
        = wire ([w8 0, w8 m.code] ++ reportFields r o ++ [w16 n]))
    ∧ [Timing.immediate, .atCompletion].map (fun t => (ReplyBody.restart t).bytes ring)
        = [wire [w8 0, w8 0], wire [w8 0, w8 1]]
    ∧ [Timing.none, .immediate, .atCompletion].map (fun t => (ReplyBody.select t).bytes ring)
        = [wire [w8 0, w8 0], wire [w8 0, w8 1], wire [w8 0, w8 2]]
    ∧ (∀ n, (ReplyBody.failedCheck n).bytes ring = wire [w8 Status.notValid.code, w8 n])
    ∧ (∀ c x i b, (ReplyBody.recipeWrite c x i b).bytes ring
        = wire ([w8 c.code, w8 x.code, w8 (Ix4.code i)] ++ groupFields b))
    ∧ (∀ x g i b, (ReplyBody.recipeRead x g i b).bytes ring
        = wire ([w8 0, w8 x.code, w16 g.toNat, w8 (Ix4.code i)] ++ groupFields b))
    ∧ (∀ c set m, (ReplyBody.machine c set m).bytes ring = wire ([w8 c.code, w8 (bit set)] ++ machineFields m))
    ∧ (∀ x : Subscription, (ReplyBody.subscription x).bytes ring
        = wire [w8 0, w16 x.mask.toNat, w8 (bit x.limitEvery), w8 (bit x.linkEvery)])

/-- The notice payloads of 12.5. -/
def Sys2Proof.Safety.NoticesLaidOut : Prop :=
  (∀ n d q avg, (Notice.scanDone n d q avg).bytes
      = wire [w16 n.toNat, w8 d.code, w8 (qualityBits q), w16 (orVoid avg.bw), w16 (orVoid avg.moist), w16 (orVoid avg.cal)])
    ∧ (∀ b c n, (Notice.breakState b c n).bytes = wire [w8 b.code, w8 (causeBits c), w16 n])
    ∧ (∀ ss j entering n, (Notice.limit ss j entering n).bytes
        = wire (ss.map (fun x => w8 x.code) ++ [w8 j, w8 (bit entering), w16 n.toNat]))
    ∧ (∀ o r e n, (Notice.standardize o r e n).bytes
        = wire [w8 o.code, w8 r.bw.code, w8 r.water.code, w8 r.gap.code, w32 e.toNat, w8 n])
    ∧ (∀ h ph c g pos, (Notice.headState h ph c g pos).bytes
        = wire [w8 h.code, w8 (legOrPhase h ph), w8 c.code, w8 g.code, w8 (slotCode g.station), w16 g.p,
          w16 pos.toNat])
    ∧ (∀ l n, (Notice.headLink l n).bytes = wire [w8 l.code, w8 n])
    ∧ (∀ r, (Notice.holeReport r).bytes = wire (reportFields r false))
    ∧ (∀ c ss a p set, (Notice.recipe c ss a p set).bytes
        = wire [w8 c.code, w8 ss.x0.1.code, w16 ss.x0.2.toNat, w8 ss.x1.1.code, w16 ss.x1.2.toNat,
          w8 ss.x2.1.code, w16 ss.x2.2.toNat, w8 ss.x3.1.code, w16 ss.x3.2.toNat, w8 (slotCode a), w8 (slotCode p),
          w8 (bit set)])

/-- R180, R182 to R184; and R196 with the codes and the layouts of the replies and the notices (12.1 to 12.5). -/
def Obligations.RequestsJudgedInOrder : Prop := RequestsJudged ∧ CodesAsListed ∧ RepliesLaidOut ∧ NoticesLaidOut

/-- R177 to R179, all but the completion, which TelegramArrives treats; the start bit apart from its character is the
operand of log 20, and that an expiry with the timer stopped has no effect is log 1. -/
def Obligations.StationReceiver : Prop :=
  ∀ (s : State) (st : Station) (c : Character),
    let o := exec (.stationCharacterTaken st (.character c)) s
    let hunting (x : State) : State := x.onPort st (fun p => { p with rx := .hunt, gapTimer := .stopped })
    let begun : State := s.onPort st (fun p => { p with rx := .receiving [c.data], gapTimer := .running 50 })
    let started : State := s.onPort st (fun p => { p with gapTimer := .stopped })
    (c.framingError = false → c.mark = true → o = .next begun.settle)
    ∧ ((s.ports.get st).rx = .hunt → (c.framingError = true ∨ c.mark = false) → o = .next started.settle)
    ∧ (∀ chars, (s.ports.get st).rx = .receiving chars →
      (c.framingError = true → o = .next (hunting s).settle)
      ∧ (c.framingError = false → c.mark = false →
        let all := chars ++ [c.data]
        let n := (all.getD 2 0).toNat + 256 * (all.getD 3 0).toNat
        (4 ≤ all.length → 1100 < n → o = .next (hunting s).settle)
        ∧ ((all.length < 4 ∨ n ≤ 1100 ∧ all.length < n + 6) →
          o = .next (s.onPort st (fun p => { p with rx := .receiving all, gapTimer := .running 50 })).settle)))
    ∧ exec (.stationCharacterTaken st .startBit) s = .next started.settle
    ∧ exec (.gapTimerExpiry st) started.settle = .next started.settle
    ∧ exec (.stationCharacterTaken st (.character c)) started = o
    ∧ ((s.ports.get st).gapTimer.isRunning = true → exec (.gapTimerExpiry st) s = .next (hunting s))
    ∧ ((s.ports.get st).gapTimer = .stopped → exec (.gapTimerExpiry st) s = .next s)
    ∧ exec (.telegramDropped st) s = .next (hunting s)

/-- The characters of a byte sequence on a station link: the first one marked (R175, R176). -/
def Sys2Proof.Safety.wireCharacters (st : Station) : List Byte → List Instr
  | [] => []
  | b :: rest => .stationCharacterTaken st (.character ⟨true, false, b⟩)
      :: rest.map (fun x => Instr.stationCharacterTaken st (.character ⟨false, false, x⟩))

/-- R176, R177, R179, R196: encoding by the layout of 12.1 and decoding by the receiver agree. -/
def Obligations.TelegramArrives : Prop :=
  ∀ (s : State) (st : Station) (kind tag : Byte) (p : List Byte) (check : List Byte),
    Settled s → p.length ≤ 1100 → check.length = 2 →
    let head := [kind, tag, BitVec.ofNat 8 p.length, BitVec.ofNat 8 (p.length / 256)] ++ p
    let crc := crc16 head
    s.pending = wireCharacters st (head ++ check) →
    (check = [crc.setWidth 8, (crc >>> 8).setWidth 8] →
      (∀ k : RequestKind, kind = BitVec.ofNat 8 k.code →
        core.run (p.length + 6) s = exec (requestOf k st tag p) { s with pending := [] })
      ∧ ((kind.toNat = 0 ∨ 0x12 < kind.toNat) →
        core.run (p.length + 6) s = exec (.unknownKind st kind tag p) { s with pending := [] }))
    ∧ (check ≠ [crc.setWidth 8, (crc >>> 8).setWidth 8] →
      core.run (p.length + 6) s = .next (({ s with pending := [] }).onPort st (fun x => { x with
        rx := .hunt, gapTimer := .stopped })))

/-- R180, R181, R195, a PARKED head with no scan in progress (KeepsOneFillingRecord); that an expiry with the timer stopped
has no effect is log 1, the drive of a head at its target log 23. -/
def Obligations.AbsenceTearsPortDown : Prop :=
  ∀ (s : State) (st : Station),
    let torn (p : Port) : Port :=
      { rx := p.rx, gapTimer := p.gapTimer, present := false, presenceTimer := .stopped, pending := none,
        replies := [], dropped := false, tx := .idle, sub := ⟨0, true, true⟩, notices := [] }
    let left : Ring := { s.ring with
      records := s.ring.records.map (fun (r : ScanRecord) => { r with holds := r.holds.set st false }) }
    let slots := s.head.slots.set st .none
    ((s.ports.get st).presenceTimer = .stopped → exec (.presenceTimerExpiry st) s = .next s.settle)
    ∧ ((s.ports.get st).presenceTimer.isRunning = true → s.head.state ≠ .parked →
      exec (.presenceTimerExpiry st) s = .next
        ({ (s.onPort st torn) with ring := left, head := { s.head with slots := slots } }).settle)
    ∧ ((s.ports.get st).presenceTimer.isRunning = true → s.head.state = .parked → s.head.scan = none →
      ∃ u : State, exec (.presenceTimerExpiry st) s = .next u ∧ u.ports.get st = torn (s.ports.get st)
        ∧ u.head.slots.get st = .none ∧ u.brk = s.brk ∧ u.store = s.store
        ∧ (s.head.position.toNat ≠ s.recipe.geometry.a → u.ring = left)
        ∧ RedecidesAtPark s slots s.std.stdDue u)

/-- The characters of a station telegram as sent: the mark bit set on the first and clear on the others (R175, R176). -/
def Sys2Proof.Safety.SentAs (cs : List Character) (kind tag : Byte) (payload : List Byte) : Prop :=
  let head := [kind, tag, BitVec.ofNat 8 payload.length, BitVec.ofNat 8 (payload.length / 256)] ++ payload
  let crc := crc16 head
  cs.map (fun c => c.data) = head ++ [crc.setWidth 8, (crc >>> 8).setWidth 8]
    ∧ ∀ (k : Nat) (c : Character), cs[k]? = some c → c.framingError = false ∧ (c.mark = true ↔ k = 0)

/-- R93, R185, R193, with what the transmitter sends (R175, R176, R196); that a last character at an idle transmitter has
no effect is log 1. -/
def Obligations.LastCharacterLeavesQueue : Prop :=
  (∀ (s : State) (st : Station),
    let o := exec (.lastCharacterSent st) s
    ((s.ports.get st).tx = .idle → o = .next s.settle)
    ∧ (∀ r rest, (s.ports.get st).tx = .reply → (s.ports.get st).replies = r :: rest →
      ((∀ i q, r.body ≠ .scan i q) →
        o = .next (s.onPort st (fun p => { p with replies := rest, tx := .idle })).settle)
      ∧ ((∃ i q, r.body = .scan i q) →
        o = .next ({ (s.onPort st (fun p => { p with replies := rest, tx := .idle })) with
          ring := { s.ring with
            records := s.ring.records.map (fun (x : ScanRecord) => { x with holds := x.holds.set st false }) }
            }).settle))
    ∧ (∀ e rest, (s.ports.get st).tx = .notice → (s.ports.get st).notices = e :: rest →
      o = .next (s.onPort st (fun p => { p with
        tx := .idle
        notices := match e.followUp with
          | none => rest
          | some n => rest ++ [⟨n, none⟩] })).settle))
  ∧ (∀ (s : State) (st : Station),
    let p := s.ports.get st
    s.settle.ports.get st = { p with
      tx := if p.tx = .idle then (if p.replies ≠ [] then .reply else if p.notices ≠ [] then .notice else .idle)
        else p.tx })
  ∧ (∀ (s : State) (st : Station),
    let p := s.ports.get st
    (p.tx = .idle → s.txTelegram st = none)
    ∧ (∀ r rest, p.tx = .reply → p.replies = r :: rest →
      ∃ cs, s.txTelegram st = some cs
        ∧ SentAs cs (match r.kind with
            | some k => BitVec.ofNat 8 k.code + 0x40
            | none => 0x40) r.tag (r.body.bytes s.ring))
    ∧ (∀ e rest, p.tx = .notice → p.notices = e :: rest →
      ∃ cs, s.txTelegram st = some cs
        ∧ SentAs cs (0x81 + BitVec.ofNat 8 e.content.kind.bit) 0 e.content.bytes))

/-- R190 to R194. -/
def Obligations.SubscribeAndOffers : Prop :=
  (∀ (s : State) (st : Station) (tag m0 m1 l h : Byte), Ready s st →
    let o := exec (.subscribe st tag [m0, m1, l, h]) s
    ((m1 ≠ 0 ∨ 1 < l.toNat ∨ 1 < h.toNat) →
      o = .next (answered s st .subscribe tag (.status .badField)).settle)
    ∧ (m1 = 0 → l.toNat ≤ 1 → h.toNat ≤ 1 →
      let x : Subscription := ⟨m0, decide (l.toNat = 1), decide (h.toNat = 1)⟩
      let stays (e : NoticeEntry) : Bool := decide (e.content.kind = .breakState) || m0.getLsbD e.content.kind.bit
      o = .next (s.onPort st (fun p => { heardPort p with
        sub := x
        replies := p.replies ++ [⟨some .subscribe, tag, .subscription x⟩]
        notices :=
          if p.tx = .notice then
            (p.notices.take 1).map (fun e => if stays e then e else { e with followUp := none })
              ++ (p.notices.drop 1).filter stays
          else p.notices.filter stays })).settle))
  ∧ (∀ (s : State) (n : Notice) (st : Station),
    let p := s.ports.get st
    let taken : Prop := p.present = true ∧ (n.kind = .breakState ∨ p.sub.mask.getLsbD n.kind.bit = true)
      ∧ admittedBy p.sub n
    (¬taken → (s.offer n).ports.get st = p)
    ∧ (taken → (∀ e ∈ p.notices, e.content.kind ≠ n.kind) →
      (s.offer n).ports.get st = { p with notices := p.notices ++ [⟨n, none⟩] })
    ∧ (∀ front e back, taken → p.notices = front ++ e :: back → e.content.kind = n.kind →
      (∀ x ∈ front, x.content.kind ≠ n.kind) →
      (s.offer n).ports.get st = { p with notices :=
        front ++ (if p.tx = .notice ∧ front = [] then ⟨e.content, some n⟩ else ⟨n, none⟩) :: back }))

/-- R23, R47, R64, R86, R110, R117, R141, R158, R174, R189, R195: the values that the manual states. -/
def Sys2Proof.Safety.HasResetValues (s : State) : Prop :=
  s.link.state = .lost ∧ s.link.resync = true ∧ s.link.expected = 0 ∧ s.link.slotCount = 0 ∧ s.link.badCount = 0
    ∧ s.link.missingTimer = .stopped ∧ s.link.sending = none ∧ s.link.waiting = none
    ∧ s.conv.consts = ⟨⟨0, 0, 0⟩, ⟨16384, 16384, 16384⟩⟩ ∧ s.conv.epoch = 0 ∧ s.conv.pendingSet = none
    ∧ s.std.phase = .idle ∧ s.std.reasons = ⟨.none, .none, .none⟩ ∧ s.std.outcome = .none
    ∧ s.std.cand = ⟨⟨0, 0, 0⟩, ⟨0, 0, 0⟩, ⟨0, 0, 0⟩⟩ ∧ s.std.failCount = 0 ∧ s.std.stdDue = false
    ∧ s.std.scanCounter = 0 ∧ s.std.tileTimer = .stopped ∧ s.std.withdrawTimer = .stopped
    ∧ s.head.position = 0 ∧ s.head.grant = .none ∧ s.head.slots = ⟨.none, .none, .none, .none⟩
    ∧ s.head.scan = none ∧ s.points.period = none
    ∧ s.edges.locked = false ∧ s.edges.inCount = 0 ∧ s.edges.outCount = 0 ∧ s.edges.lockedEdges = none
    ∧ s.edges.previous = none ∧ s.edges.run.len = 0 ∧ s.edges.run.leading = none ∧ s.edges.run.trailing = none
    ∧ s.bins = []
    ∧ s.profile.continuity = false ∧ s.profile.prevAvg = ⟨none, none, none⟩ ∧ s.profile.layout = none
    ∧ s.profile.deferred = false
    ∧ s.ring.records.map (fun r => (r.status, r.holds))
        = List.replicate 8 (.free, ⟨false, false, false, false⟩)
    ∧ s.ring.newest = 0 ∧ s.trend = [] ∧ s.points.ring = [] ∧ s.points.next = 0
    ∧ s.speed.increment = 0 ∧ s.speed.mdAcc = 0 ∧ s.speed.gateCount = 0 ∧ s.speed.speed = 0
    ∧ s.speed.gateTimer = .running 100000 ∧ s.speed.watch = .stopped ∧ s.speed.refPulses = 0
    ∧ s.speed.emptyGates = 0 ∧ s.speed.lossTimer = .stopped ∧ s.speed.atSpeed = false
    ∧ s.brk.state = .idle ∧ s.brk.causes = ⟨⟨false, false, false, false⟩, false⟩ ∧ s.brk.count = 0
    ∧ s.brk.threadingTimer = .stopped ∧ s.brk.recoveryCount = 0 ∧ s.brk.relay = false
    ∧ (∀ d, s.brk.det.get d = ⟨s.pins.det.get d, 0, false⟩)
    ∧ s.absent = ⟨false, 0, 0, false⟩
    ∧ s.hole = ⟨0, false, 0, false, 0, ⟨.none, 0, false, 0, 0⟩⟩
    ∧ s.limits = ⟨List.replicate 16 .clear, false⟩
    ∧ s.store.machineSet = false
    ∧ s.store.machine = ⟨0, 0, ⟨0, 0, 0⟩, ⟨0, 0, 0⟩, 0, 0, 0, ⟨.high, .high, .high, .high⟩⟩
    ∧ (∀ i, (s.store.slots.get i).state = .empty ∧ (s.store.slots.get i).generation = 0
        ∧ (s.store.slots.get i).recipe.geometry = ⟨400, 4000, 400, 200, 16, 0⟩
        ∧ (s.store.slots.get i).recipe.motion = ⟨3, 2000⟩ ∧ (s.store.slots.get i).recipe.measure = ⟨500, 5, 0⟩
        ∧ (s.store.slots.get i).recipe.edges = ⟨200, 3, 3⟩ ∧ (s.store.slots.get i).recipe.filter = ⟨4, 0, 3⟩
        ∧ (s.store.slots.get i).recipe.zones = []
        ∧ (s.store.slots.get i).recipe.brk
            = ⟨⟨false, false, false, false⟩, ⟨10, 10, 10, 10⟩, .confirmed, false, 60, 3⟩
        ∧ (s.store.slots.get i).recipe.holes = ⟨4, .auto⟩
        ∧ (s.store.slots.get i).recipe.limits.map (fun e => e.target) = List.replicate 16 .end_)
    ∧ (∀ st, s.ports.get st = ⟨.hunt, .stopped, false, .stopped, none, [], false, .idle, ⟨0, true, true⟩, []⟩)

/-- Device reset and the entry to HOMING that it brings (R29), which an asserted switch turns into FAULT (R28). The inputs
of State.reset are low by log 5. -/
def Obligations.DeviceResetState : Prop :=
  (∀ s : State, s.pins.otA = false → s.pins.otB = false →
    ∃ u : State, exec .deviceReset s = .next u ∧ HasResetValues u ∧ u.pins = s.pins ∧ u.pending = s.pending
      ∧ u.head.state = .homing ∧ u.head.cause = .none ∧ u.head.homingTimer = .running 120000000
      ∧ u.head.drvEn = s.pins.drvRdy ∧ u.head.drvDir = false ∧ u.head.drvSpd = (if s.pins.drvRdy then 1 else 0)
      ∧ u.head.encTimer = (if s.pins.drvRdy then .running 100000 else .stopped))
  ∧ (∀ s : State, (s.pins.otA = true ∨ s.pins.otB = true) →
    ∃ u : State, exec .deviceReset s = .next u ∧ HasResetValues u ∧ u.pins = s.pins ∧ u.pending = s.pending
      ∧ u.head.state = .fault ∧ u.head.cause = .overtravel ∧ u.head.drvEn = false ∧ u.head.drvSpd = 0)
  ∧ HasResetValues State.reset ∧ State.reset.head.state = .homing ∧ State.reset.head.drvEn = false
  ∧ State.reset.pins = ⟨false, false, false, ⟨false, false, false, false⟩⟩ ∧ State.reset.pending = []

/-- Laws 8 and 12; and the link LOST until its first arrival (R2, R4). -/
def Obligations.KeepsCountersAndRelay : Prop :=
  (∀ s t : State, CounterBounds s ∧ BreakRelay s → step s = .next t → CounterBounds t ∧ BreakRelay t)
  ∧ (∀ s t : State, UntimedLinkIsLost s → step s = .next t → UntimedLinkIsLost t)

/-- Law 10. -/
def Obligations.KeepsRecipeSlots : Prop :=
  ∀ s t : State, RecipeSlots s → step s = .next t → RecipeSlots t

/-- Law 7. -/
def Obligations.KeepsHeadUnderHold : Prop :=
  ∀ s t : State, HoldKeepsHead s → step s = .next t → HoldKeepsHead t

/-- Law 1. -/
def Obligations.KeepsOneFillingRecord : Prop :=
  ∀ s t : State, ScansFillOneRecord s → step s = .next t → ScansFillOneRecord t

/-- Laws 1 and 2, with R93: a record that a station holds is not picked, and its contents stay, until the command that ends
the hold (the end of the reply, the station's absence, device reset). -/
def Obligations.KeepsHeldRecordsComplete : Prop :=
  (∀ s t : State, HeldAreComplete s → step s = .next t → HeldAreComplete t)
  ∧ (∀ s t : State, HoldsKept s → step s = .next t → HoldsKept t)
  ∧ (∀ (s t : State) (c : Instr) (rest : List Instr) (st : Station) (i : Nat) (r : ScanRecord),
    HoldsKept s → ScansFillOneRecord s → s.pending = c :: rest → step s = .next t →
    c ≠ .deviceReset → c ≠ .lastCharacterSent st → c ≠ .presenceTimerExpiry st →
    s.ring.records[i]? = some r → r.holds.get st = true →
    ∃ r', t.ring.records[i]? = some r' ∧ r'.holds.get st = true ∧ { r' with holds := r.holds } = r)

/-- Law 9. -/
def Obligations.KeepsPortQueues : Prop :=
  ∀ s t : State, PortQueues s → step s = .next t → PortQueues t

/-- The base of the invariants. -/
def Obligations.ResetSatisfiesLaws : Prop :=
  CounterBounds State.reset ∧ BreakRelay State.reset ∧ RecipeSlots State.reset ∧ HoldKeepsHead State.reset
    ∧ ScansFillOneRecord State.reset ∧ HeldAreComplete State.reset ∧ PortQueues State.reset ∧ Settled State.reset
    ∧ HoldsKept State.reset ∧ UntimedLinkIsLost State.reset

end
end

