-- ==== Sys2Proof/Laws/Ops.lean ====
section
/-! SUPPORT. What the shared operations do, once: shapes, lists, clamping, rounding, the ring, the head commands. -/

namespace Sys2Proof.Machine

open Sys2Proof

/-! ## Shapes -/

@[simp] theorem Four.get_set_same {α : Type} (f : Four α) (i : Ix4) (x : α) : (f.set i x).get i = x := by
  cases i <;> rfl

theorem Four.get_set_ne {α : Type} (f : Four α) {i j : Ix4} (x : α) (h : j ≠ i) : (f.set i x).get j = f.get j := by
  cases i <;> cases j <;> first | rfl | exact absurd rfl h

theorem Four.get_set {α : Type} (f : Four α) (i j : Ix4) (x : α) :
    (f.set i x).get j = if j = i then x else f.get j := by
  cases i <;> cases j <;> rfl

@[simp] theorem Four.set_set {α : Type} (f : Four α) (i : Ix4) (x y : α) : (f.set i x).set i y = f.set i y := by
  cases i <;> rfl

@[simp] theorem Four.set_get {α : Type} (f : Four α) (i : Ix4) : f.set i (f.get i) = f := by
  cases i <;> rfl

@[simp] theorem Four.get_map {α β : Type} (g : α → β) (f : Four α) (i : Ix4) : (f.map g).get i = g (f.get i) := by
  cases i <;> rfl

theorem Four.map_set {α β : Type} (g : α → β) (f : Four α) (i : Ix4) (x : α) :
    (f.set i x).map g = (f.map g).set i (g x) := by
  cases i <;> rfl

@[simp] theorem Four.map_map {α β γ : Type} (g : β → γ) (h : α → β) (f : Four α) :
    (f.map h).map g = f.map (fun x => g (h x)) := rfl

theorem Four.ext_get {α : Type} {f g : Four α} (h : ∀ i, f.get i = g.get i) : f = g := by
  cases f; cases g
  have h0 := h .n0; have h1 := h .n1; have h2 := h .n2; have h3 := h .n3
  simp only [Four.get] at h0 h1 h2 h3
  subst h0; subst h1; subst h2; subst h3; rfl

/-- A test fails on all four exactly when the search finds none. -/
theorem Four.first_eq_none {α : Type} (p : α → Bool) (f : Four α) : f.first p = none ↔ ∀ i, p (f.get i) = false := by
  cases f with
  | mk a b c d =>
    constructor
    · intro h i
      simp only [Four.first] at h
      split at h
      · cases h
      · split at h
        · cases h
        · split at h
          · cases h
          · split at h
            · cases h
            · cases i <;> simp_all [Four.get]
    · intro h
      have h0 := h .n0; have h1 := h .n1; have h2 := h .n2; have h3 := h .n3
      simp only [Four.get] at h0 h1 h2 h3
      simp [Four.first, h0, h1, h2, h3]

/-- What the search finds passes the test. -/
theorem Four.first_some {α : Type} {p : α → Bool} {f : Four α} {i : Ix4} (h : f.first p = some i) : p (f.get i) = true := by
  simp only [Four.first] at h
  split at h
  · cases h; assumption
  · split at h
    · cases h; assumption
    · split at h
      · cases h; assumption
      · split at h
        · cases h; assumption
        · cases h

@[simp] theorem PerDetector.get_set_same {α : Type} (f : PerDetector α) (i : Detector) (x : α) :
    (f.set i x).get i = x := by
  cases i <;> rfl

theorem PerDetector.get_set_ne {α : Type} (f : PerDetector α) {i j : Detector} (x : α) (h : j ≠ i) :
    (f.set i x).get j = f.get j := by
  cases i <;> cases j <;> first | rfl | exact absurd rfl h

@[simp] theorem PerDetector.get_map {α β : Type} (g : α → β) (f : PerDetector α) (i : Detector) :
    (f.map g).get i = g (f.get i) := by
  cases i <;> rfl

/-! ## Lists, clamping, saturation, rounding -/

theorem keepNewest_length_le {α : Type} (n : Nat) (l : List α) : (keepNewest n l).length ≤ n := by
  simp only [keepNewest, List.length_drop]; omega

theorem keepNewest_of_le {α : Type} {n : Nat} {l : List α} (h : l.length ≤ n) : keepNewest n l = l := by
  simp [keepNewest, Nat.sub_eq_zero_of_le h]

theorem le_clampNat (lo hi x : Nat) : lo ≤ clampNat lo hi x := Nat.le_max_left _ _

theorem clampNat_le {lo hi : Nat} (x : Nat) (h : lo ≤ hi) : clampNat lo hi x ≤ hi := by
  simp only [clampNat]; omega

theorem clampNat_of_mem {lo hi x : Nat} (h : lo ≤ x) (h' : x ≤ hi) : clampNat lo hi x = x := by
  simp only [clampNat]; omega

theorem saturate_bounds (x : Int) : -32767 ≤ saturate x ∧ saturate x ≤ 32767 := by
  simp only [saturate]; omega

theorem saturate_of_mem {x : Int} (h : -32767 ≤ x) (h' : x ≤ 32767) : saturate x = x := by
  simp only [saturate]; omega

/-- The rounded quotient lies within one half of the quotient. -/
theorem roundHalfUp_spec (n : Nat) {d : Nat} (h : 0 < d) :
    2 * d * roundHalfUp n d ≤ 2 * n + d ∧ 2 * n + d < 2 * d * (roundHalfUp n d + 1) := by
  refine ⟨Nat.mul_div_le _ _, ?_⟩
  have h2 : 0 < 2 * d := by omega
  simpa [roundHalfUp, Nat.mul_comm] using Nat.lt_mul_div_succ (2 * n + d) h2

theorem roundHalfAway_neg (n : Int) (d : Nat) : roundHalfAway (-n) d = -roundHalfAway n d := by
  rcases lt_trichotomy n 0 with h | h | h
  · have h1 : ¬(-n < 0) := by omega
    simp only [roundHalfAway, h, h1, if_true, if_false, Int.natAbs_neg, neg_neg]
  · subst h
    have : roundHalfUp 0 d = 0 := by
      simp only [roundHalfUp, Nat.mul_zero, Nat.zero_add]
      rcases Nat.eq_zero_or_pos d with h | h
      · simp [h]
      · exact Nat.div_eq_of_lt (by omega)
    simp [roundHalfAway, this]
  · have h1 : ¬(n < 0) := by omega
    have h2 : -n < 0 := by omega
    simp only [roundHalfAway, h1, h2, if_true, if_false, Int.natAbs_neg]

theorem roundHalfAway_natAbs (n : Int) (d : Nat) : (roundHalfAway n d).natAbs = roundHalfUp n.natAbs d := by
  simp only [roundHalfAway]; split <;> simp

/-! ## The ring -/

@[simp] theorem Ring.modify_newest (r : Ring) (i : Nat) (f : ScanRecord → ScanRecord) :
    (r.modify i f).newest = r.newest := rfl

@[simp] theorem Ring.modify_length (r : Ring) (i : Nat) (f : ScanRecord → ScanRecord) :
    (r.modify i f).records.length = r.records.length := by
  simp [Ring.modify]

@[simp] theorem Ring.onFilling_newest (r : Ring) (f : ScanRecord → ScanRecord) :
    (r.onFilling f).newest = r.newest := by
  simp only [Ring.onFilling]; split <;> rfl

@[simp] theorem Ring.onFilling_length (r : Ring) (f : ScanRecord → ScanRecord) :
    (r.onFilling f).records.length = r.records.length := by
  simp only [Ring.onFilling]; split <;> simp

theorem Ring.onFilling_eq {r : Ring} {i : Nat} (h : r.filling = some i) (f : ScanRecord → ScanRecord) :
    r.onFilling f = r.modify i f := by
  simp [Ring.onFilling, h]

/-! ## The head commands change nothing of the receiver -/

@[simp] theorem HeadLink.raise_rx (l : HeadLink) (c : HeadCommand) : (l.raise c).rx = l.rx := by
  simp only [HeadLink.raise]; split <;> rfl

@[simp] theorem HeadLink.raise_state (l : HeadLink) (c : HeadCommand) : (l.raise c).state = l.state := by
  simp only [HeadLink.raise]; split <;> rfl

@[simp] theorem HeadLink.raise_resync (l : HeadLink) (c : HeadCommand) : (l.raise c).resync = l.resync := by
  simp only [HeadLink.raise]; split <;> rfl

@[simp] theorem HeadLink.raise_expected (l : HeadLink) (c : HeadCommand) : (l.raise c).expected = l.expected := by
  simp only [HeadLink.raise]; split <;> rfl

@[simp] theorem HeadLink.raise_slotCount (l : HeadLink) (c : HeadCommand) : (l.raise c).slotCount = l.slotCount := by
  simp only [HeadLink.raise]; split <;> rfl

@[simp] theorem HeadLink.raise_badCount (l : HeadLink) (c : HeadCommand) : (l.raise c).badCount = l.badCount := by
  simp only [HeadLink.raise]; split <;> rfl

@[simp] theorem HeadLink.raise_missingTimer (l : HeadLink) (c : HeadCommand) :
    (l.raise c).missingTimer = l.missingTimer := by
  simp only [HeadLink.raise]; split <;> rfl

end Sys2Proof.Machine
end

