-- ==== Sys2Proof/Laws/State.lean ====
section
/-! SUPPORT. Each field of State after each update of State, true by rfl. -/

namespace Sys2Proof.Machine

open Sys2Proof

variable (s : State)

@[simp] theorem State.setPins_pins (x : Pins) : (s.setPins x).pins = x := rfl
@[simp] theorem State.setPins_link (x : Pins) : (s.setPins x).link = s.link := rfl
@[simp] theorem State.setPins_conv (x : Pins) : (s.setPins x).conv = s.conv := rfl
@[simp] theorem State.setPins_std (x : Pins) : (s.setPins x).std = s.std := rfl
@[simp] theorem State.setPins_head (x : Pins) : (s.setPins x).head = s.head := rfl
@[simp] theorem State.setPins_edges (x : Pins) : (s.setPins x).edges = s.edges := rfl
@[simp] theorem State.setPins_bins (x : Pins) : (s.setPins x).bins = s.bins := rfl
@[simp] theorem State.setPins_profile (x : Pins) : (s.setPins x).profile = s.profile := rfl
@[simp] theorem State.setPins_ring (x : Pins) : (s.setPins x).ring = s.ring := rfl
@[simp] theorem State.setPins_trend (x : Pins) : (s.setPins x).trend = s.trend := rfl
@[simp] theorem State.setPins_points (x : Pins) : (s.setPins x).points = s.points := rfl
@[simp] theorem State.setPins_speed (x : Pins) : (s.setPins x).speed = s.speed := rfl
@[simp] theorem State.setPins_brk (x : Pins) : (s.setPins x).brk = s.brk := rfl
@[simp] theorem State.setPins_absent (x : Pins) : (s.setPins x).absent = s.absent := rfl
@[simp] theorem State.setPins_hole (x : Pins) : (s.setPins x).hole = s.hole := rfl
@[simp] theorem State.setPins_limits (x : Pins) : (s.setPins x).limits = s.limits := rfl
@[simp] theorem State.setPins_store (x : Pins) : (s.setPins x).store = s.store := rfl
@[simp] theorem State.setPins_ports (x : Pins) : (s.setPins x).ports = s.ports := rfl
@[simp] theorem State.setPins_pending (x : Pins) : (s.setPins x).pending = s.pending := rfl

@[simp] theorem State.setLink_pins (x : HeadLink) : (s.setLink x).pins = s.pins := rfl
@[simp] theorem State.setLink_link (x : HeadLink) : (s.setLink x).link = x := rfl
@[simp] theorem State.setLink_conv (x : HeadLink) : (s.setLink x).conv = s.conv := rfl
@[simp] theorem State.setLink_std (x : HeadLink) : (s.setLink x).std = s.std := rfl
@[simp] theorem State.setLink_head (x : HeadLink) : (s.setLink x).head = s.head := rfl
@[simp] theorem State.setLink_edges (x : HeadLink) : (s.setLink x).edges = s.edges := rfl
@[simp] theorem State.setLink_bins (x : HeadLink) : (s.setLink x).bins = s.bins := rfl
@[simp] theorem State.setLink_profile (x : HeadLink) : (s.setLink x).profile = s.profile := rfl
@[simp] theorem State.setLink_ring (x : HeadLink) : (s.setLink x).ring = s.ring := rfl
@[simp] theorem State.setLink_trend (x : HeadLink) : (s.setLink x).trend = s.trend := rfl
@[simp] theorem State.setLink_points (x : HeadLink) : (s.setLink x).points = s.points := rfl
@[simp] theorem State.setLink_speed (x : HeadLink) : (s.setLink x).speed = s.speed := rfl
@[simp] theorem State.setLink_brk (x : HeadLink) : (s.setLink x).brk = s.brk := rfl
@[simp] theorem State.setLink_absent (x : HeadLink) : (s.setLink x).absent = s.absent := rfl
@[simp] theorem State.setLink_hole (x : HeadLink) : (s.setLink x).hole = s.hole := rfl
@[simp] theorem State.setLink_limits (x : HeadLink) : (s.setLink x).limits = s.limits := rfl
@[simp] theorem State.setLink_store (x : HeadLink) : (s.setLink x).store = s.store := rfl
@[simp] theorem State.setLink_ports (x : HeadLink) : (s.setLink x).ports = s.ports := rfl
@[simp] theorem State.setLink_pending (x : HeadLink) : (s.setLink x).pending = s.pending := rfl

@[simp] theorem State.setConv_pins (x : Conversion) : (s.setConv x).pins = s.pins := rfl
@[simp] theorem State.setConv_link (x : Conversion) : (s.setConv x).link = s.link := rfl
@[simp] theorem State.setConv_conv (x : Conversion) : (s.setConv x).conv = x := rfl
@[simp] theorem State.setConv_std (x : Conversion) : (s.setConv x).std = s.std := rfl
@[simp] theorem State.setConv_head (x : Conversion) : (s.setConv x).head = s.head := rfl
@[simp] theorem State.setConv_edges (x : Conversion) : (s.setConv x).edges = s.edges := rfl
@[simp] theorem State.setConv_bins (x : Conversion) : (s.setConv x).bins = s.bins := rfl
@[simp] theorem State.setConv_profile (x : Conversion) : (s.setConv x).profile = s.profile := rfl
@[simp] theorem State.setConv_ring (x : Conversion) : (s.setConv x).ring = s.ring := rfl
@[simp] theorem State.setConv_trend (x : Conversion) : (s.setConv x).trend = s.trend := rfl
@[simp] theorem State.setConv_points (x : Conversion) : (s.setConv x).points = s.points := rfl
@[simp] theorem State.setConv_speed (x : Conversion) : (s.setConv x).speed = s.speed := rfl
@[simp] theorem State.setConv_brk (x : Conversion) : (s.setConv x).brk = s.brk := rfl
@[simp] theorem State.setConv_absent (x : Conversion) : (s.setConv x).absent = s.absent := rfl
@[simp] theorem State.setConv_hole (x : Conversion) : (s.setConv x).hole = s.hole := rfl
@[simp] theorem State.setConv_limits (x : Conversion) : (s.setConv x).limits = s.limits := rfl
@[simp] theorem State.setConv_store (x : Conversion) : (s.setConv x).store = s.store := rfl
@[simp] theorem State.setConv_ports (x : Conversion) : (s.setConv x).ports = s.ports := rfl
@[simp] theorem State.setConv_pending (x : Conversion) : (s.setConv x).pending = s.pending := rfl

@[simp] theorem State.setStd_pins (x : StdUnit) : (s.setStd x).pins = s.pins := rfl
@[simp] theorem State.setStd_link (x : StdUnit) : (s.setStd x).link = s.link := rfl
@[simp] theorem State.setStd_conv (x : StdUnit) : (s.setStd x).conv = s.conv := rfl
@[simp] theorem State.setStd_std (x : StdUnit) : (s.setStd x).std = x := rfl
@[simp] theorem State.setStd_head (x : StdUnit) : (s.setStd x).head = s.head := rfl
@[simp] theorem State.setStd_edges (x : StdUnit) : (s.setStd x).edges = s.edges := rfl
@[simp] theorem State.setStd_bins (x : StdUnit) : (s.setStd x).bins = s.bins := rfl
@[simp] theorem State.setStd_profile (x : StdUnit) : (s.setStd x).profile = s.profile := rfl
@[simp] theorem State.setStd_ring (x : StdUnit) : (s.setStd x).ring = s.ring := rfl
@[simp] theorem State.setStd_trend (x : StdUnit) : (s.setStd x).trend = s.trend := rfl
@[simp] theorem State.setStd_points (x : StdUnit) : (s.setStd x).points = s.points := rfl
@[simp] theorem State.setStd_speed (x : StdUnit) : (s.setStd x).speed = s.speed := rfl
@[simp] theorem State.setStd_brk (x : StdUnit) : (s.setStd x).brk = s.brk := rfl
@[simp] theorem State.setStd_absent (x : StdUnit) : (s.setStd x).absent = s.absent := rfl
@[simp] theorem State.setStd_hole (x : StdUnit) : (s.setStd x).hole = s.hole := rfl
@[simp] theorem State.setStd_limits (x : StdUnit) : (s.setStd x).limits = s.limits := rfl
@[simp] theorem State.setStd_store (x : StdUnit) : (s.setStd x).store = s.store := rfl
@[simp] theorem State.setStd_ports (x : StdUnit) : (s.setStd x).ports = s.ports := rfl
@[simp] theorem State.setStd_pending (x : StdUnit) : (s.setStd x).pending = s.pending := rfl

@[simp] theorem State.setHead_pins (x : Head) : (s.setHead x).pins = s.pins := rfl
@[simp] theorem State.setHead_link (x : Head) : (s.setHead x).link = s.link := rfl
@[simp] theorem State.setHead_conv (x : Head) : (s.setHead x).conv = s.conv := rfl
@[simp] theorem State.setHead_std (x : Head) : (s.setHead x).std = s.std := rfl
@[simp] theorem State.setHead_head (x : Head) : (s.setHead x).head = x := rfl
@[simp] theorem State.setHead_edges (x : Head) : (s.setHead x).edges = s.edges := rfl
@[simp] theorem State.setHead_bins (x : Head) : (s.setHead x).bins = s.bins := rfl
@[simp] theorem State.setHead_profile (x : Head) : (s.setHead x).profile = s.profile := rfl
@[simp] theorem State.setHead_ring (x : Head) : (s.setHead x).ring = s.ring := rfl
@[simp] theorem State.setHead_trend (x : Head) : (s.setHead x).trend = s.trend := rfl
@[simp] theorem State.setHead_points (x : Head) : (s.setHead x).points = s.points := rfl
@[simp] theorem State.setHead_speed (x : Head) : (s.setHead x).speed = s.speed := rfl
@[simp] theorem State.setHead_brk (x : Head) : (s.setHead x).brk = s.brk := rfl
@[simp] theorem State.setHead_absent (x : Head) : (s.setHead x).absent = s.absent := rfl
@[simp] theorem State.setHead_hole (x : Head) : (s.setHead x).hole = s.hole := rfl
@[simp] theorem State.setHead_limits (x : Head) : (s.setHead x).limits = s.limits := rfl
@[simp] theorem State.setHead_store (x : Head) : (s.setHead x).store = s.store := rfl
@[simp] theorem State.setHead_ports (x : Head) : (s.setHead x).ports = s.ports := rfl
@[simp] theorem State.setHead_pending (x : Head) : (s.setHead x).pending = s.pending := rfl

@[simp] theorem State.setEdges_pins (x : EdgeTracker) : (s.setEdges x).pins = s.pins := rfl
@[simp] theorem State.setEdges_link (x : EdgeTracker) : (s.setEdges x).link = s.link := rfl
@[simp] theorem State.setEdges_conv (x : EdgeTracker) : (s.setEdges x).conv = s.conv := rfl
@[simp] theorem State.setEdges_std (x : EdgeTracker) : (s.setEdges x).std = s.std := rfl
@[simp] theorem State.setEdges_head (x : EdgeTracker) : (s.setEdges x).head = s.head := rfl
@[simp] theorem State.setEdges_edges (x : EdgeTracker) : (s.setEdges x).edges = x := rfl
@[simp] theorem State.setEdges_bins (x : EdgeTracker) : (s.setEdges x).bins = s.bins := rfl
@[simp] theorem State.setEdges_profile (x : EdgeTracker) : (s.setEdges x).profile = s.profile := rfl
@[simp] theorem State.setEdges_ring (x : EdgeTracker) : (s.setEdges x).ring = s.ring := rfl
@[simp] theorem State.setEdges_trend (x : EdgeTracker) : (s.setEdges x).trend = s.trend := rfl
@[simp] theorem State.setEdges_points (x : EdgeTracker) : (s.setEdges x).points = s.points := rfl
@[simp] theorem State.setEdges_speed (x : EdgeTracker) : (s.setEdges x).speed = s.speed := rfl
@[simp] theorem State.setEdges_brk (x : EdgeTracker) : (s.setEdges x).brk = s.brk := rfl
@[simp] theorem State.setEdges_absent (x : EdgeTracker) : (s.setEdges x).absent = s.absent := rfl
@[simp] theorem State.setEdges_hole (x : EdgeTracker) : (s.setEdges x).hole = s.hole := rfl
@[simp] theorem State.setEdges_limits (x : EdgeTracker) : (s.setEdges x).limits = s.limits := rfl
@[simp] theorem State.setEdges_store (x : EdgeTracker) : (s.setEdges x).store = s.store := rfl
@[simp] theorem State.setEdges_ports (x : EdgeTracker) : (s.setEdges x).ports = s.ports := rfl
@[simp] theorem State.setEdges_pending (x : EdgeTracker) : (s.setEdges x).pending = s.pending := rfl

@[simp] theorem State.setBins_pins (x : List BinSums) : (s.setBins x).pins = s.pins := rfl
@[simp] theorem State.setBins_link (x : List BinSums) : (s.setBins x).link = s.link := rfl
@[simp] theorem State.setBins_conv (x : List BinSums) : (s.setBins x).conv = s.conv := rfl
@[simp] theorem State.setBins_std (x : List BinSums) : (s.setBins x).std = s.std := rfl
@[simp] theorem State.setBins_head (x : List BinSums) : (s.setBins x).head = s.head := rfl
@[simp] theorem State.setBins_edges (x : List BinSums) : (s.setBins x).edges = s.edges := rfl
@[simp] theorem State.setBins_bins (x : List BinSums) : (s.setBins x).bins = x := rfl
@[simp] theorem State.setBins_profile (x : List BinSums) : (s.setBins x).profile = s.profile := rfl
@[simp] theorem State.setBins_ring (x : List BinSums) : (s.setBins x).ring = s.ring := rfl
@[simp] theorem State.setBins_trend (x : List BinSums) : (s.setBins x).trend = s.trend := rfl
@[simp] theorem State.setBins_points (x : List BinSums) : (s.setBins x).points = s.points := rfl
@[simp] theorem State.setBins_speed (x : List BinSums) : (s.setBins x).speed = s.speed := rfl
@[simp] theorem State.setBins_brk (x : List BinSums) : (s.setBins x).brk = s.brk := rfl
@[simp] theorem State.setBins_absent (x : List BinSums) : (s.setBins x).absent = s.absent := rfl
@[simp] theorem State.setBins_hole (x : List BinSums) : (s.setBins x).hole = s.hole := rfl
@[simp] theorem State.setBins_limits (x : List BinSums) : (s.setBins x).limits = s.limits := rfl
@[simp] theorem State.setBins_store (x : List BinSums) : (s.setBins x).store = s.store := rfl
@[simp] theorem State.setBins_ports (x : List BinSums) : (s.setBins x).ports = s.ports := rfl
@[simp] theorem State.setBins_pending (x : List BinSums) : (s.setBins x).pending = s.pending := rfl

@[simp] theorem State.setProfile_pins (x : Profile) : (s.setProfile x).pins = s.pins := rfl
@[simp] theorem State.setProfile_link (x : Profile) : (s.setProfile x).link = s.link := rfl
@[simp] theorem State.setProfile_conv (x : Profile) : (s.setProfile x).conv = s.conv := rfl
@[simp] theorem State.setProfile_std (x : Profile) : (s.setProfile x).std = s.std := rfl
@[simp] theorem State.setProfile_head (x : Profile) : (s.setProfile x).head = s.head := rfl
@[simp] theorem State.setProfile_edges (x : Profile) : (s.setProfile x).edges = s.edges := rfl
@[simp] theorem State.setProfile_bins (x : Profile) : (s.setProfile x).bins = s.bins := rfl
@[simp] theorem State.setProfile_profile (x : Profile) : (s.setProfile x).profile = x := rfl
@[simp] theorem State.setProfile_ring (x : Profile) : (s.setProfile x).ring = s.ring := rfl
@[simp] theorem State.setProfile_trend (x : Profile) : (s.setProfile x).trend = s.trend := rfl
@[simp] theorem State.setProfile_points (x : Profile) : (s.setProfile x).points = s.points := rfl
@[simp] theorem State.setProfile_speed (x : Profile) : (s.setProfile x).speed = s.speed := rfl
@[simp] theorem State.setProfile_brk (x : Profile) : (s.setProfile x).brk = s.brk := rfl
@[simp] theorem State.setProfile_absent (x : Profile) : (s.setProfile x).absent = s.absent := rfl
@[simp] theorem State.setProfile_hole (x : Profile) : (s.setProfile x).hole = s.hole := rfl
@[simp] theorem State.setProfile_limits (x : Profile) : (s.setProfile x).limits = s.limits := rfl
@[simp] theorem State.setProfile_store (x : Profile) : (s.setProfile x).store = s.store := rfl
@[simp] theorem State.setProfile_ports (x : Profile) : (s.setProfile x).ports = s.ports := rfl
@[simp] theorem State.setProfile_pending (x : Profile) : (s.setProfile x).pending = s.pending := rfl

@[simp] theorem State.setRing_pins (x : Ring) : (s.setRing x).pins = s.pins := rfl
@[simp] theorem State.setRing_link (x : Ring) : (s.setRing x).link = s.link := rfl
@[simp] theorem State.setRing_conv (x : Ring) : (s.setRing x).conv = s.conv := rfl
@[simp] theorem State.setRing_std (x : Ring) : (s.setRing x).std = s.std := rfl
@[simp] theorem State.setRing_head (x : Ring) : (s.setRing x).head = s.head := rfl
@[simp] theorem State.setRing_edges (x : Ring) : (s.setRing x).edges = s.edges := rfl
@[simp] theorem State.setRing_bins (x : Ring) : (s.setRing x).bins = s.bins := rfl
@[simp] theorem State.setRing_profile (x : Ring) : (s.setRing x).profile = s.profile := rfl
@[simp] theorem State.setRing_ring (x : Ring) : (s.setRing x).ring = x := rfl
@[simp] theorem State.setRing_trend (x : Ring) : (s.setRing x).trend = s.trend := rfl
@[simp] theorem State.setRing_points (x : Ring) : (s.setRing x).points = s.points := rfl
@[simp] theorem State.setRing_speed (x : Ring) : (s.setRing x).speed = s.speed := rfl
@[simp] theorem State.setRing_brk (x : Ring) : (s.setRing x).brk = s.brk := rfl
@[simp] theorem State.setRing_absent (x : Ring) : (s.setRing x).absent = s.absent := rfl
@[simp] theorem State.setRing_hole (x : Ring) : (s.setRing x).hole = s.hole := rfl
@[simp] theorem State.setRing_limits (x : Ring) : (s.setRing x).limits = s.limits := rfl
@[simp] theorem State.setRing_store (x : Ring) : (s.setRing x).store = s.store := rfl
@[simp] theorem State.setRing_ports (x : Ring) : (s.setRing x).ports = s.ports := rfl
@[simp] theorem State.setRing_pending (x : Ring) : (s.setRing x).pending = s.pending := rfl

@[simp] theorem State.setTrend_pins (x : List TrendEntry) : (s.setTrend x).pins = s.pins := rfl
@[simp] theorem State.setTrend_link (x : List TrendEntry) : (s.setTrend x).link = s.link := rfl
@[simp] theorem State.setTrend_conv (x : List TrendEntry) : (s.setTrend x).conv = s.conv := rfl
@[simp] theorem State.setTrend_std (x : List TrendEntry) : (s.setTrend x).std = s.std := rfl
@[simp] theorem State.setTrend_head (x : List TrendEntry) : (s.setTrend x).head = s.head := rfl
@[simp] theorem State.setTrend_edges (x : List TrendEntry) : (s.setTrend x).edges = s.edges := rfl
@[simp] theorem State.setTrend_bins (x : List TrendEntry) : (s.setTrend x).bins = s.bins := rfl
@[simp] theorem State.setTrend_profile (x : List TrendEntry) : (s.setTrend x).profile = s.profile := rfl
@[simp] theorem State.setTrend_ring (x : List TrendEntry) : (s.setTrend x).ring = s.ring := rfl
@[simp] theorem State.setTrend_trend (x : List TrendEntry) : (s.setTrend x).trend = x := rfl
@[simp] theorem State.setTrend_points (x : List TrendEntry) : (s.setTrend x).points = s.points := rfl
@[simp] theorem State.setTrend_speed (x : List TrendEntry) : (s.setTrend x).speed = s.speed := rfl
@[simp] theorem State.setTrend_brk (x : List TrendEntry) : (s.setTrend x).brk = s.brk := rfl
@[simp] theorem State.setTrend_absent (x : List TrendEntry) : (s.setTrend x).absent = s.absent := rfl
@[simp] theorem State.setTrend_hole (x : List TrendEntry) : (s.setTrend x).hole = s.hole := rfl
@[simp] theorem State.setTrend_limits (x : List TrendEntry) : (s.setTrend x).limits = s.limits := rfl
@[simp] theorem State.setTrend_store (x : List TrendEntry) : (s.setTrend x).store = s.store := rfl
@[simp] theorem State.setTrend_ports (x : List TrendEntry) : (s.setTrend x).ports = s.ports := rfl
@[simp] theorem State.setTrend_pending (x : List TrendEntry) : (s.setTrend x).pending = s.pending := rfl

@[simp] theorem State.setPoints_pins (x : Points) : (s.setPoints x).pins = s.pins := rfl
@[simp] theorem State.setPoints_link (x : Points) : (s.setPoints x).link = s.link := rfl
@[simp] theorem State.setPoints_conv (x : Points) : (s.setPoints x).conv = s.conv := rfl
@[simp] theorem State.setPoints_std (x : Points) : (s.setPoints x).std = s.std := rfl
@[simp] theorem State.setPoints_head (x : Points) : (s.setPoints x).head = s.head := rfl
@[simp] theorem State.setPoints_edges (x : Points) : (s.setPoints x).edges = s.edges := rfl
@[simp] theorem State.setPoints_bins (x : Points) : (s.setPoints x).bins = s.bins := rfl
@[simp] theorem State.setPoints_profile (x : Points) : (s.setPoints x).profile = s.profile := rfl
@[simp] theorem State.setPoints_ring (x : Points) : (s.setPoints x).ring = s.ring := rfl
@[simp] theorem State.setPoints_trend (x : Points) : (s.setPoints x).trend = s.trend := rfl
@[simp] theorem State.setPoints_points (x : Points) : (s.setPoints x).points = x := rfl
@[simp] theorem State.setPoints_speed (x : Points) : (s.setPoints x).speed = s.speed := rfl
@[simp] theorem State.setPoints_brk (x : Points) : (s.setPoints x).brk = s.brk := rfl
@[simp] theorem State.setPoints_absent (x : Points) : (s.setPoints x).absent = s.absent := rfl
@[simp] theorem State.setPoints_hole (x : Points) : (s.setPoints x).hole = s.hole := rfl
@[simp] theorem State.setPoints_limits (x : Points) : (s.setPoints x).limits = s.limits := rfl
@[simp] theorem State.setPoints_store (x : Points) : (s.setPoints x).store = s.store := rfl
@[simp] theorem State.setPoints_ports (x : Points) : (s.setPoints x).ports = s.ports := rfl
@[simp] theorem State.setPoints_pending (x : Points) : (s.setPoints x).pending = s.pending := rfl

@[simp] theorem State.setSpeed_pins (x : Speed) : (s.setSpeed x).pins = s.pins := rfl
@[simp] theorem State.setSpeed_link (x : Speed) : (s.setSpeed x).link = s.link := rfl
@[simp] theorem State.setSpeed_conv (x : Speed) : (s.setSpeed x).conv = s.conv := rfl
@[simp] theorem State.setSpeed_std (x : Speed) : (s.setSpeed x).std = s.std := rfl
@[simp] theorem State.setSpeed_head (x : Speed) : (s.setSpeed x).head = s.head := rfl
@[simp] theorem State.setSpeed_edges (x : Speed) : (s.setSpeed x).edges = s.edges := rfl
@[simp] theorem State.setSpeed_bins (x : Speed) : (s.setSpeed x).bins = s.bins := rfl
@[simp] theorem State.setSpeed_profile (x : Speed) : (s.setSpeed x).profile = s.profile := rfl
@[simp] theorem State.setSpeed_ring (x : Speed) : (s.setSpeed x).ring = s.ring := rfl
@[simp] theorem State.setSpeed_trend (x : Speed) : (s.setSpeed x).trend = s.trend := rfl
@[simp] theorem State.setSpeed_points (x : Speed) : (s.setSpeed x).points = s.points := rfl
@[simp] theorem State.setSpeed_speed (x : Speed) : (s.setSpeed x).speed = x := rfl
@[simp] theorem State.setSpeed_brk (x : Speed) : (s.setSpeed x).brk = s.brk := rfl
@[simp] theorem State.setSpeed_absent (x : Speed) : (s.setSpeed x).absent = s.absent := rfl
@[simp] theorem State.setSpeed_hole (x : Speed) : (s.setSpeed x).hole = s.hole := rfl
@[simp] theorem State.setSpeed_limits (x : Speed) : (s.setSpeed x).limits = s.limits := rfl
@[simp] theorem State.setSpeed_store (x : Speed) : (s.setSpeed x).store = s.store := rfl
@[simp] theorem State.setSpeed_ports (x : Speed) : (s.setSpeed x).ports = s.ports := rfl
@[simp] theorem State.setSpeed_pending (x : Speed) : (s.setSpeed x).pending = s.pending := rfl

@[simp] theorem State.setBrk_pins (x : Supervisor) : (s.setBrk x).pins = s.pins := rfl
@[simp] theorem State.setBrk_link (x : Supervisor) : (s.setBrk x).link = s.link := rfl
@[simp] theorem State.setBrk_conv (x : Supervisor) : (s.setBrk x).conv = s.conv := rfl
@[simp] theorem State.setBrk_std (x : Supervisor) : (s.setBrk x).std = s.std := rfl
@[simp] theorem State.setBrk_head (x : Supervisor) : (s.setBrk x).head = s.head := rfl
@[simp] theorem State.setBrk_edges (x : Supervisor) : (s.setBrk x).edges = s.edges := rfl
@[simp] theorem State.setBrk_bins (x : Supervisor) : (s.setBrk x).bins = s.bins := rfl
@[simp] theorem State.setBrk_profile (x : Supervisor) : (s.setBrk x).profile = s.profile := rfl
@[simp] theorem State.setBrk_ring (x : Supervisor) : (s.setBrk x).ring = s.ring := rfl
@[simp] theorem State.setBrk_trend (x : Supervisor) : (s.setBrk x).trend = s.trend := rfl
@[simp] theorem State.setBrk_points (x : Supervisor) : (s.setBrk x).points = s.points := rfl
@[simp] theorem State.setBrk_speed (x : Supervisor) : (s.setBrk x).speed = s.speed := rfl
@[simp] theorem State.setBrk_brk (x : Supervisor) : (s.setBrk x).brk = x := rfl
@[simp] theorem State.setBrk_absent (x : Supervisor) : (s.setBrk x).absent = s.absent := rfl
@[simp] theorem State.setBrk_hole (x : Supervisor) : (s.setBrk x).hole = s.hole := rfl
@[simp] theorem State.setBrk_limits (x : Supervisor) : (s.setBrk x).limits = s.limits := rfl
@[simp] theorem State.setBrk_store (x : Supervisor) : (s.setBrk x).store = s.store := rfl
@[simp] theorem State.setBrk_ports (x : Supervisor) : (s.setBrk x).ports = s.ports := rfl
@[simp] theorem State.setBrk_pending (x : Supervisor) : (s.setBrk x).pending = s.pending := rfl

@[simp] theorem State.setAbsent_pins (x : Absent) : (s.setAbsent x).pins = s.pins := rfl
@[simp] theorem State.setAbsent_link (x : Absent) : (s.setAbsent x).link = s.link := rfl
@[simp] theorem State.setAbsent_conv (x : Absent) : (s.setAbsent x).conv = s.conv := rfl
@[simp] theorem State.setAbsent_std (x : Absent) : (s.setAbsent x).std = s.std := rfl
@[simp] theorem State.setAbsent_head (x : Absent) : (s.setAbsent x).head = s.head := rfl
@[simp] theorem State.setAbsent_edges (x : Absent) : (s.setAbsent x).edges = s.edges := rfl
@[simp] theorem State.setAbsent_bins (x : Absent) : (s.setAbsent x).bins = s.bins := rfl
@[simp] theorem State.setAbsent_profile (x : Absent) : (s.setAbsent x).profile = s.profile := rfl
@[simp] theorem State.setAbsent_ring (x : Absent) : (s.setAbsent x).ring = s.ring := rfl
@[simp] theorem State.setAbsent_trend (x : Absent) : (s.setAbsent x).trend = s.trend := rfl
@[simp] theorem State.setAbsent_points (x : Absent) : (s.setAbsent x).points = s.points := rfl
@[simp] theorem State.setAbsent_speed (x : Absent) : (s.setAbsent x).speed = s.speed := rfl
@[simp] theorem State.setAbsent_brk (x : Absent) : (s.setAbsent x).brk = s.brk := rfl
@[simp] theorem State.setAbsent_absent (x : Absent) : (s.setAbsent x).absent = x := rfl
@[simp] theorem State.setAbsent_hole (x : Absent) : (s.setAbsent x).hole = s.hole := rfl
@[simp] theorem State.setAbsent_limits (x : Absent) : (s.setAbsent x).limits = s.limits := rfl
@[simp] theorem State.setAbsent_store (x : Absent) : (s.setAbsent x).store = s.store := rfl
@[simp] theorem State.setAbsent_ports (x : Absent) : (s.setAbsent x).ports = s.ports := rfl
@[simp] theorem State.setAbsent_pending (x : Absent) : (s.setAbsent x).pending = s.pending := rfl

@[simp] theorem State.setHole_pins (x : Hole) : (s.setHole x).pins = s.pins := rfl
@[simp] theorem State.setHole_link (x : Hole) : (s.setHole x).link = s.link := rfl
@[simp] theorem State.setHole_conv (x : Hole) : (s.setHole x).conv = s.conv := rfl
@[simp] theorem State.setHole_std (x : Hole) : (s.setHole x).std = s.std := rfl
@[simp] theorem State.setHole_head (x : Hole) : (s.setHole x).head = s.head := rfl
@[simp] theorem State.setHole_edges (x : Hole) : (s.setHole x).edges = s.edges := rfl
@[simp] theorem State.setHole_bins (x : Hole) : (s.setHole x).bins = s.bins := rfl
@[simp] theorem State.setHole_profile (x : Hole) : (s.setHole x).profile = s.profile := rfl
@[simp] theorem State.setHole_ring (x : Hole) : (s.setHole x).ring = s.ring := rfl
@[simp] theorem State.setHole_trend (x : Hole) : (s.setHole x).trend = s.trend := rfl
@[simp] theorem State.setHole_points (x : Hole) : (s.setHole x).points = s.points := rfl
@[simp] theorem State.setHole_speed (x : Hole) : (s.setHole x).speed = s.speed := rfl
@[simp] theorem State.setHole_brk (x : Hole) : (s.setHole x).brk = s.brk := rfl
@[simp] theorem State.setHole_absent (x : Hole) : (s.setHole x).absent = s.absent := rfl
@[simp] theorem State.setHole_hole (x : Hole) : (s.setHole x).hole = x := rfl
@[simp] theorem State.setHole_limits (x : Hole) : (s.setHole x).limits = s.limits := rfl
@[simp] theorem State.setHole_store (x : Hole) : (s.setHole x).store = s.store := rfl
@[simp] theorem State.setHole_ports (x : Hole) : (s.setHole x).ports = s.ports := rfl
@[simp] theorem State.setHole_pending (x : Hole) : (s.setHole x).pending = s.pending := rfl

@[simp] theorem State.setLimits_pins (x : Limits) : (s.setLimits x).pins = s.pins := rfl
@[simp] theorem State.setLimits_link (x : Limits) : (s.setLimits x).link = s.link := rfl
@[simp] theorem State.setLimits_conv (x : Limits) : (s.setLimits x).conv = s.conv := rfl
@[simp] theorem State.setLimits_std (x : Limits) : (s.setLimits x).std = s.std := rfl
@[simp] theorem State.setLimits_head (x : Limits) : (s.setLimits x).head = s.head := rfl
@[simp] theorem State.setLimits_edges (x : Limits) : (s.setLimits x).edges = s.edges := rfl
@[simp] theorem State.setLimits_bins (x : Limits) : (s.setLimits x).bins = s.bins := rfl
@[simp] theorem State.setLimits_profile (x : Limits) : (s.setLimits x).profile = s.profile := rfl
@[simp] theorem State.setLimits_ring (x : Limits) : (s.setLimits x).ring = s.ring := rfl
@[simp] theorem State.setLimits_trend (x : Limits) : (s.setLimits x).trend = s.trend := rfl
@[simp] theorem State.setLimits_points (x : Limits) : (s.setLimits x).points = s.points := rfl
@[simp] theorem State.setLimits_speed (x : Limits) : (s.setLimits x).speed = s.speed := rfl
@[simp] theorem State.setLimits_brk (x : Limits) : (s.setLimits x).brk = s.brk := rfl
@[simp] theorem State.setLimits_absent (x : Limits) : (s.setLimits x).absent = s.absent := rfl
@[simp] theorem State.setLimits_hole (x : Limits) : (s.setLimits x).hole = s.hole := rfl
@[simp] theorem State.setLimits_limits (x : Limits) : (s.setLimits x).limits = x := rfl
@[simp] theorem State.setLimits_store (x : Limits) : (s.setLimits x).store = s.store := rfl
@[simp] theorem State.setLimits_ports (x : Limits) : (s.setLimits x).ports = s.ports := rfl
@[simp] theorem State.setLimits_pending (x : Limits) : (s.setLimits x).pending = s.pending := rfl

@[simp] theorem State.setStore_pins (x : Store) : (s.setStore x).pins = s.pins := rfl
@[simp] theorem State.setStore_link (x : Store) : (s.setStore x).link = s.link := rfl
@[simp] theorem State.setStore_conv (x : Store) : (s.setStore x).conv = s.conv := rfl
@[simp] theorem State.setStore_std (x : Store) : (s.setStore x).std = s.std := rfl
@[simp] theorem State.setStore_head (x : Store) : (s.setStore x).head = s.head := rfl
@[simp] theorem State.setStore_edges (x : Store) : (s.setStore x).edges = s.edges := rfl
@[simp] theorem State.setStore_bins (x : Store) : (s.setStore x).bins = s.bins := rfl
@[simp] theorem State.setStore_profile (x : Store) : (s.setStore x).profile = s.profile := rfl
@[simp] theorem State.setStore_ring (x : Store) : (s.setStore x).ring = s.ring := rfl
@[simp] theorem State.setStore_trend (x : Store) : (s.setStore x).trend = s.trend := rfl
@[simp] theorem State.setStore_points (x : Store) : (s.setStore x).points = s.points := rfl
@[simp] theorem State.setStore_speed (x : Store) : (s.setStore x).speed = s.speed := rfl
@[simp] theorem State.setStore_brk (x : Store) : (s.setStore x).brk = s.brk := rfl
@[simp] theorem State.setStore_absent (x : Store) : (s.setStore x).absent = s.absent := rfl
@[simp] theorem State.setStore_hole (x : Store) : (s.setStore x).hole = s.hole := rfl
@[simp] theorem State.setStore_limits (x : Store) : (s.setStore x).limits = s.limits := rfl
@[simp] theorem State.setStore_store (x : Store) : (s.setStore x).store = x := rfl
@[simp] theorem State.setStore_ports (x : Store) : (s.setStore x).ports = s.ports := rfl
@[simp] theorem State.setStore_pending (x : Store) : (s.setStore x).pending = s.pending := rfl

@[simp] theorem State.setPorts_pins (x : Four Port) : (s.setPorts x).pins = s.pins := rfl
@[simp] theorem State.setPorts_link (x : Four Port) : (s.setPorts x).link = s.link := rfl
@[simp] theorem State.setPorts_conv (x : Four Port) : (s.setPorts x).conv = s.conv := rfl
@[simp] theorem State.setPorts_std (x : Four Port) : (s.setPorts x).std = s.std := rfl
@[simp] theorem State.setPorts_head (x : Four Port) : (s.setPorts x).head = s.head := rfl
@[simp] theorem State.setPorts_edges (x : Four Port) : (s.setPorts x).edges = s.edges := rfl
@[simp] theorem State.setPorts_bins (x : Four Port) : (s.setPorts x).bins = s.bins := rfl
@[simp] theorem State.setPorts_profile (x : Four Port) : (s.setPorts x).profile = s.profile := rfl
@[simp] theorem State.setPorts_ring (x : Four Port) : (s.setPorts x).ring = s.ring := rfl
@[simp] theorem State.setPorts_trend (x : Four Port) : (s.setPorts x).trend = s.trend := rfl
@[simp] theorem State.setPorts_points (x : Four Port) : (s.setPorts x).points = s.points := rfl
@[simp] theorem State.setPorts_speed (x : Four Port) : (s.setPorts x).speed = s.speed := rfl
@[simp] theorem State.setPorts_brk (x : Four Port) : (s.setPorts x).brk = s.brk := rfl
@[simp] theorem State.setPorts_absent (x : Four Port) : (s.setPorts x).absent = s.absent := rfl
@[simp] theorem State.setPorts_hole (x : Four Port) : (s.setPorts x).hole = s.hole := rfl
@[simp] theorem State.setPorts_limits (x : Four Port) : (s.setPorts x).limits = s.limits := rfl
@[simp] theorem State.setPorts_store (x : Four Port) : (s.setPorts x).store = s.store := rfl
@[simp] theorem State.setPorts_ports (x : Four Port) : (s.setPorts x).ports = x := rfl
@[simp] theorem State.setPorts_pending (x : Four Port) : (s.setPorts x).pending = s.pending := rfl

@[simp] theorem State.setPending_pins (x : List Instr) : (s.setPending x).pins = s.pins := rfl
@[simp] theorem State.setPending_link (x : List Instr) : (s.setPending x).link = s.link := rfl
@[simp] theorem State.setPending_conv (x : List Instr) : (s.setPending x).conv = s.conv := rfl
@[simp] theorem State.setPending_std (x : List Instr) : (s.setPending x).std = s.std := rfl
@[simp] theorem State.setPending_head (x : List Instr) : (s.setPending x).head = s.head := rfl
@[simp] theorem State.setPending_edges (x : List Instr) : (s.setPending x).edges = s.edges := rfl
@[simp] theorem State.setPending_bins (x : List Instr) : (s.setPending x).bins = s.bins := rfl
@[simp] theorem State.setPending_profile (x : List Instr) : (s.setPending x).profile = s.profile := rfl
@[simp] theorem State.setPending_ring (x : List Instr) : (s.setPending x).ring = s.ring := rfl
@[simp] theorem State.setPending_trend (x : List Instr) : (s.setPending x).trend = s.trend := rfl
@[simp] theorem State.setPending_points (x : List Instr) : (s.setPending x).points = s.points := rfl
@[simp] theorem State.setPending_speed (x : List Instr) : (s.setPending x).speed = s.speed := rfl
@[simp] theorem State.setPending_brk (x : List Instr) : (s.setPending x).brk = s.brk := rfl
@[simp] theorem State.setPending_absent (x : List Instr) : (s.setPending x).absent = s.absent := rfl
@[simp] theorem State.setPending_hole (x : List Instr) : (s.setPending x).hole = s.hole := rfl
@[simp] theorem State.setPending_limits (x : List Instr) : (s.setPending x).limits = s.limits := rfl
@[simp] theorem State.setPending_store (x : List Instr) : (s.setPending x).store = s.store := rfl
@[simp] theorem State.setPending_ports (x : List Instr) : (s.setPending x).ports = s.ports := rfl
@[simp] theorem State.setPending_pending (x : List Instr) : (s.setPending x).pending = x := rfl

end Sys2Proof.Machine
end

