-- ==== Sys2Proof/Laws/Frames.lean ====
section
/-! SUPPORT. The frame of every shared operation: which part of the state it leaves alone, one lemma for each
operation and part. A part that an operation has no lemma about is one it can change. -/

namespace Sys2Proof.Machine

open Sys2Proof

section

set_option linter.all false

/-- The receiver's part of the head link: everything but the head commands on their way. -/
def HeadLink.received (l : HeadLink) : HeadLink := { l with sending := none, waiting := none }

@[simp] theorem HeadLink.raise_received (l : HeadLink) (c : HeadCommand) : (l.raise c).received = l.received := by
  simp only [HeadLink.raise]; split <;> rfl

/-- Two links with one receiver part agree on every field of the receiver. -/
theorem HeadLink.received_eq {a b : HeadLink} (h : a.received = b.received) :
    a.rx = b.rx ∧ a.state = b.state ∧ a.resync = b.resync ∧ a.expected = b.expected
      ∧ a.slotCount = b.slotCount ∧ a.badCount = b.badCount ∧ a.missingTimer = b.missingTimer := by
  cases a; cases b; simp [HeadLink.received] at h; simp [h]

/-! ### What leaves the queue alone -/

@[simp] theorem onPort_pending (s : State) (st : Station) (f : Port → Port) : (s.onPort st f).pending = s.pending := by
  simp only [State.onPort] <;> (repeat' split) <;> simp
@[simp] theorem startBit_pending (s : State) (st : Station) : (s.startBit st).pending = s.pending := by
  simp only [State.startBit] <;> (repeat' split) <;> simp
@[simp] theorem onPorts_pending (s : State) (f : Port → Port) : (s.onPorts f).pending = s.pending := by
  simp only [State.onPorts] <;> (repeat' split) <;> simp
@[simp] theorem reply_pending (s : State) (st : Station) (k : RequestKind) (tag : Byte) (b : ReplyBody) : (s.reply st k tag b).pending = s.pending := by
  simp only [State.reply] <;> (repeat' split) <;> simp
@[simp] theorem offer_pending (s : State) (n : Notice) : (s.offer n).pending = s.pending := by
  simp only [State.offer] <;> (repeat' split) <;> simp
@[simp] theorem settle_pending (s : State) : (s.settle).pending = s.pending := by
  simp only [State.settle] <;> (repeat' split) <;> simp
@[simp] theorem serveScan_pending (s : State) (st : Station) (tag : Byte) (q : ScanQuery) (i : Nat) : (s.serveScan st tag q i).pending = s.pending := by
  simp only [State.serveScan] <;> (repeat' split) <;> simp
@[simp] theorem endPending_pending (s : State) (st : Station) (b : ReplyBody) : (s.endPending st b).pending = s.pending := by
  simp only [State.endPending] <;> (repeat' split) <;> simp
@[simp] theorem endPendingByBreak_pending (s : State) : (s.endPendingByBreak).pending = s.pending := by
  simp only [State.endPendingByBreak] <;> (repeat' split) <;> simp
@[simp] theorem servePending_pending (s : State) (i : Nat) (st : Station) : (s.servePending i st).pending = s.pending := by
  simp only [State.servePending] <;> (repeat' split) <;> simp
@[simp] theorem serveAllPending_pending (s : State) (i : Nat) : (s.serveAllPending i).pending = s.pending := by
  simp only [State.serveAllPending] <;> (repeat' split) <;> simp
@[simp] theorem endStretch_pending (s : State) : (s.endStretch).pending = s.pending := by
  simp only [State.endStretch] <;> (repeat' split) <;> simp
@[simp] theorem stopAssessment_pending (s : State) : (s.stopAssessment).pending = s.pending := by
  simp only [State.stopAssessment] <;> (repeat' split) <;> simp
@[simp] theorem absentTake_pending (s : State) (x : Sample) : (s.absentTake x).pending = s.pending := by
  simp only [State.absentTake] <;> (repeat' split) <;> simp
@[simp] theorem absentNextWindow_pending (s : State) : (s.absentNextWindow).pending = s.pending := by
  simp only [State.absentNextWindow] <;> (repeat' split) <;> simp
@[simp] theorem holeTake_pending (s : State) (x : Sample) : (s.holeTake x).pending = s.pending := by
  simp only [State.holeTake] <;> (repeat' split) <;> simp
@[simp] theorem holeTransfer_pending (s : State) (src : ReportSource) : (s.holeTransfer src).pending = s.pending := by
  simp only [State.holeTransfer] <;> (repeat' split) <;> simp
@[simp] theorem updateEdges_pending (s : State) (e : EdgeTracker) : (s.updateEdges e).pending = s.pending := by
  simp only [State.updateEdges] <;> (repeat' split) <;> simp
@[simp] theorem edgeTake_pending (s : State) (x : Sample) : (s.edgeTake x).pending = s.pending := by
  simp only [State.edgeTake] <;> (repeat' split) <;> simp
@[simp] theorem binTake_pending (s : State) (x : Sample) : (s.binTake x).pending = s.pending := by
  simp only [State.binTake] <;> (repeat' split) <;> simp
@[simp] theorem profileRestart_pending (s : State) : (s.profileRestart).pending = s.pending := by
  simp only [State.profileRestart] <;> (repeat' split) <;> simp
@[simp] theorem clearContinuity_pending (s : State) : (s.clearContinuity).pending = s.pending := by
  simp only [State.clearContinuity] <;> (repeat' split) <;> simp
@[simp] theorem deferredAtAbort_pending (s : State) : (s.deferredAtAbort).pending = s.pending := by
  simp only [State.deferredAtAbort] <;> (repeat' split) <;> simp
@[simp] theorem profileActivation_pending (s : State) (l : Layout) : (s.profileActivation l).pending = s.pending := by
  simp only [State.profileActivation] <;> (repeat' split) <;> simp
@[simp] theorem adopt_pending (s : State) : (s.adopt).pending = s.pending := by
  simp only [State.adopt] <;> (repeat' split) <;> simp
@[simp] theorem dropPendingSet_pending (s : State) : (s.dropPendingSet).pending = s.pending := by
  simp only [State.dropPendingSet] <;> (repeat' split) <;> simp
@[simp] theorem startRecord_pending (s : State) (dir : ScanDir) : (s.startRecord dir).pending = s.pending := by
  simp only [State.startRecord] <;> (repeat' split) <;> simp
@[simp] theorem voidRecord_pending (s : State) : (s.voidRecord).pending = s.pending := by
  simp only [State.voidRecord] <;> (repeat' split) <;> simp
@[simp] theorem markLinkGaps_pending (s : State) : (s.markLinkGaps).pending = s.pending := by
  simp only [State.markLinkGaps] <;> (repeat' split) <;> simp
@[simp] theorem markTachHeld_pending (s : State) : (s.markTachHeld).pending = s.pending := by
  simp only [State.markTachHeld] <;> (repeat' split) <;> simp
@[simp] theorem closeAt_pending (s : State) (i : Nat) : (s.closeAt i).pending = s.pending := by
  simp only [State.closeAt] <;> (repeat' split) <;> simp
@[simp] theorem startPeriod_pending (s : State) : (s.startPeriod).pending = s.pending := by
  simp only [State.startPeriod] <;> (repeat' split) <;> simp
@[simp] theorem dropPeriod_pending (s : State) : (s.dropPeriod).pending = s.pending := by
  simp only [State.dropPeriod] <;> (repeat' split) <;> simp
@[simp] theorem periodSlot_pending (s : State) : (s.periodSlot).pending = s.pending := by
  simp only [State.periodSlot] <;> (repeat' split) <;> simp
@[simp] theorem pointTake_pending (s : State) (x : Sample) : (s.pointTake x).pending = s.pending := by
  simp only [State.pointTake] <;> (repeat' split) <;> simp
@[simp] theorem recordPeriod_pending (s : State) (p : PointPeriod) : (s.recordPeriod p).pending = s.pending := by
  simp only [State.recordPeriod] <;> (repeat' split) <;> simp
@[simp] theorem raise_pending (s : State) (c : HeadCommand) : (s.raise c).pending = s.pending := by
  simp only [State.raise] <;> (repeat' split) <;> simp
@[simp] theorem consumeStd_pending (s : State) : (s.consumeStd).pending = s.pending := by
  simp only [State.consumeStd] <;> (repeat' split) <;> simp
@[simp] theorem stdNotice_pending (s : State) : (s.stdNotice).pending = s.pending := by
  simp only [State.stdNotice] <;> (repeat' split) <;> simp
@[simp] theorem stdCommit_pending (s : State) : (s.stdCommit).pending = s.pending := by
  simp only [State.stdCommit] <;> (repeat' split) <;> simp
@[simp] theorem stdFail_pending (s : State) : (s.stdFail).pending = s.pending := by
  simp only [State.stdFail] <;> (repeat' split) <;> simp
@[simp] theorem stdNoRecord_pending (s : State) : (s.stdNoRecord).pending = s.pending := by
  simp only [State.stdNoRecord] <;> (repeat' split) <;> simp
@[simp] theorem abortRefOut_pending (s : State) : (s.abortRefOut).pending = s.pending := by
  simp only [State.abortRefOut] <;> (repeat' split) <;> simp
@[simp] theorem stdAbort_pending (s : State) : (s.stdAbort).pending = s.pending := by
  simp only [State.stdAbort] <;> (repeat' split) <;> simp
@[simp] theorem enterReference_pending (s : State) : (s.enterReference).pending = s.pending := by
  simp only [State.enterReference] <;> (repeat' split) <;> simp
@[simp] theorem enterWithdraw_pending (s : State) : (s.enterWithdraw).pending = s.pending := by
  simp only [State.enterWithdraw] <;> (repeat' split) <;> simp
@[simp] theorem zeroEnd_pending (s : State) : (s.zeroEnd).pending = s.pending := by
  simp only [State.zeroEnd] <;> (repeat' split) <;> simp
@[simp] theorem referenceEnd_pending (s : State) : (s.referenceEnd).pending = s.pending := by
  simp only [State.referenceEnd] <;> (repeat' split) <;> simp
@[simp] theorem collectionSlot_pending (s : State) (raw : Option RawSample) : (s.collectionSlot raw).pending = s.pending := by
  simp only [State.collectionSlot] <;> (repeat' split) <;> simp
@[simp] theorem tileSeen_pending (s : State) : (s.tileSeen).pending = s.pending := by
  simp only [State.tileSeen] <;> (repeat' split) <;> simp
@[simp] theorem tileExpired_pending (s : State) : (s.tileExpired).pending = s.pending := by
  simp only [State.tileExpired] <;> (repeat' split) <;> simp
@[simp] theorem stuckTile_pending (s : State) : (s.stuckTile).pending = s.pending := by
  simp only [State.stuckTile] <;> (repeat' split) <;> simp
@[simp] theorem toHead_pending (s : State) (h : HeadState) : (s.toHead h).pending = s.pending := by
  simp only [State.toHead] <;> (repeat' split) <;> simp
@[simp] theorem headNotice_pending (s : State) : (s.headNotice).pending = s.pending := by
  simp only [State.headNotice] <;> (repeat' split) <;> simp
@[simp] theorem grantTo_pending (s : State) (g : Grant) : (s.grantTo g).pending = s.pending := by
  simp only [State.grantTo] <;> (repeat' split) <;> simp
@[simp] theorem driveOff_pending (s : State) : (s.driveOff).pending = s.pending := by
  simp only [State.driveOff] <;> (repeat' split) <;> simp
@[simp] theorem drive_pending (s : State) (d : Bool) (n : Nat) : (s.drive d n).pending = s.pending := by
  simp only [State.drive] <;> (repeat' split) <;> simp
@[simp] theorem startScan_pending (s : State) (dir : ScanDir) (a : Bool) : (s.startScan dir a).pending = s.pending := by
  simp only [State.startScan] <;> (repeat' split) <;> simp
@[simp] theorem enterHead_pending (s : State) (h : HeadState) (g : Grant) : (s.enterHead h g).pending = s.pending := by
  simp only [State.enterHead] <;> (repeat' split) <;> simp
@[simp] theorem arriveApproach_pending (s : State) : (s.arriveApproach).pending = s.pending := by
  simp only [State.arriveApproach] <;> (repeat' split) <;> simp
@[simp] theorem arrivePoint_pending (s : State) : (s.arrivePoint).pending = s.pending := by
  simp only [State.arrivePoint] <;> (repeat' split) <;> simp
@[simp] theorem faultStill_pending (s : State) (c : FaultCause) : (s.faultStill c).pending = s.pending := by
  simp only [State.faultEntryWith, State.scanAbortWith, State.faultStill] <;> (repeat' split) <;> simp
@[simp] theorem beginApproach_pending (s : State) (g : Grant) : (s.beginApproach g).pending = s.pending := by
  simp only [State.beginApproach] <;> (repeat' split) <;> simp
@[simp] theorem beginPositioning_pending (s : State) (st : Station) (p : Nat) : (s.beginPositioning st p).pending = s.pending := by
  simp only [State.beginPositioning] <;> (repeat' split) <;> simp
@[simp] theorem stayParked_pending (s : State) (g : Grant) : (s.stayParked g).pending = s.pending := by
  simp only [State.stayParked] <;> (repeat' split) <;> simp
@[simp] theorem decideParkedOther_pending (s : State) (g : Grant) : (s.decideParkedOther g).pending = s.pending := by
  simp only [State.decideParkedOther] <;> (repeat' split) <;> simp
@[simp] theorem startStd_pending (s : State) : (s.startStd).pending = s.pending := by
  simp only [State.startStd] <;> (repeat' split) <;> simp
@[simp] theorem decideParked_pending (s : State) : (s.decideParked).pending = s.pending := by
  simp only [State.decideParked] <;> (repeat' split) <;> simp
@[simp] theorem redecideIfParked_pending (s : State) : (s.redecideIfParked).pending = s.pending := by
  simp only [State.redecideIfParked] <;> (repeat' split) <;> simp
@[simp] theorem stdEnded_pending (s : State) : (s.stdEnded).pending = s.pending := by
  simp only [State.stdEnded] <;> (repeat' split) <;> simp
@[simp] theorem arriveParked_pending (s : State) : (s.arriveParked).pending = s.pending := by
  simp only [State.arriveParked] <;> (repeat' split) <;> simp
@[simp] theorem beginReturning_pending (s : State) (g : Grant) : (s.beginReturning g).pending = s.pending := by
  simp only [State.beginReturning] <;> (repeat' split) <;> simp
@[simp] theorem stdAtCompletion_pending (s : State) (dir : ScanDir) (a : Bool) : (s.stdAtCompletion dir a).pending = s.pending := by
  simp only [State.stdAtCompletion] <;> (repeat' split) <;> simp
@[simp] theorem scanAtCompletion_pending (s : State) (dir : ScanDir) (a : Bool) : (s.scanAtCompletion dir a).pending = s.pending := by
  simp only [State.scanAtCompletion] <;> (repeat' split) <;> simp
@[simp] theorem decideCompletion_pending (s : State) (dir : ScanDir) (a : Bool) : (s.decideCompletion dir a).pending = s.pending := by
  simp only [State.decideCompletion] <;> (repeat' split) <;> simp
@[simp] theorem decidePeriodEnd_pending (s : State) : (s.decidePeriodEnd).pending = s.pending := by
  simp only [State.decidePeriodEnd] <;> (repeat' split) <;> simp
@[simp] theorem beginSearch_pending (s : State) : (s.beginSearch).pending = s.pending := by
  simp only [State.beginSearch] <;> (repeat' split) <;> simp
@[simp] theorem homingBegun_pending (s : State) : (s.homingBegun).pending = s.pending := by
  simp only [State.homingBegun] <;> (repeat' split) <;> simp
@[simp] theorem enterHoming_pending (s : State) : (s.enterHoming).pending = s.pending := by
  simp only [State.enterHoming] <;> (repeat' split) <;> simp
@[simp] theorem indexFound_pending (s : State) : (s.indexFound).pending = s.pending := by
  simp only [State.indexFound] <;> (repeat' split) <;> simp
@[simp] theorem scanAbortWith_pending (act : State → State) (h : ∀ s, (act s).pending = s.pending) (s : State) : (s.scanAbortWith act).pending = s.pending := by
  simp only [State.scanAbortWith] <;> (repeat' split) <;> simp [h]
@[simp] theorem faultEntryWith_pending (act : State → State) (c : FaultCause) (h : ∀ s, (act s).pending = s.pending) (s : State) : (s.faultEntryWith act c).pending = s.pending := by
  simp only [State.faultEntryWith] <;> (repeat' split) <;> simp [h]
@[simp] theorem claimTakesEffectWith_pending (act : State → State) (h : ∀ s, (act s).pending = s.pending) (s : State) : (s.claimTakesEffectWith act).pending = s.pending := by
  simp only [State.claimTakesEffectWith] <;> (repeat' split) <;> simp [h]
@[simp] theorem breakNotice_pending (s : State) : (s.breakNotice).pending = s.pending := by
  simp only [State.breakNotice] <;> (repeat' split) <;> simp
@[simp] theorem recoveringEntry_pending (s : State) : (s.recoveringEntry).pending = s.pending := by
  simp only [State.recoveringEntry] <;> (repeat' split) <;> simp
@[simp] theorem threadingExpiry_pending (s : State) : (s.threadingExpiry).pending = s.pending := by
  simp only [State.threadingExpiry] <;> (repeat' split) <;> simp
@[simp] theorem threadingEntry_pending (s : State) : (s.threadingEntry).pending = s.pending := by
  simp only [State.threadingEntry] <;> (repeat' split) <;> simp
@[simp] theorem judgeThreading_pending (s : State) : (s.judgeThreading).pending = s.pending := by
  simp only [State.judgeThreading] <;> (repeat' split) <;> simp
@[simp] theorem breakEntryWith_pending (act : State → State) (x : Bool) (h : ∀ s, (act s).pending = s.pending) (s : State) : (s.breakEntryWith act x).pending = s.pending := by
  simp only [State.breakEntryWith] <;> (repeat' split) <;> simp [h]
@[simp] theorem addCauses_pending (s : State) (t : PerDetector Bool) : (s.addCauses t).pending = s.pending := by
  simp only [State.addCauses] <;> (repeat' split) <;> simp
@[simp] theorem judgeDetectorsWith_pending (entry : State → State) (t c : PerDetector Bool) (h : ∀ s, (entry s).pending = s.pending) (s : State) : (s.judgeDetectorsWith entry t c).pending = s.pending := by
  simp only [State.judgeDetectorsWith] <;> (repeat' split) <;> simp [h]
@[simp] theorem judgeActivationWith_pending (entry : State → State) (t c : PerDetector Bool) (h : ∀ s, (entry s).pending = s.pending) (s : State) : (s.judgeActivationWith entry t c).pending = s.pending := by
  simp only [State.judgeActivationWith] <;> (repeat' split) <;> simp [h]
@[simp] theorem judgeInEntry_pending (s : State) (t c : PerDetector Bool) : (s.judgeInEntry t c).pending = s.pending := by
  simp only [State.judgeInEntry] <;> (repeat' split) <;> simp
@[simp] theorem clearLimits_pending (s : State) : (s.clearLimits).pending = s.pending := by
  simp only [State.clearLimits] <;> (repeat' split) <;> simp
@[simp] theorem recipeNotice_pending (s : State) (c : RecipeCause) : (s.recipeNotice c).pending = s.pending := by
  simp only [State.recipeNotice] <;> (repeat' split) <;> simp
@[simp] theorem reaim_pending (s : State) : (s.reaim).pending = s.pending := by
  simp only [State.reaim] <;> (repeat' split) <;> simp
@[simp] theorem activateWith_pending (judge : PerDetector Bool → PerDetector Bool → State → State) (i : SlotNo) (h : ∀ a b s, (judge a b s).pending = s.pending) (s : State) : (s.activateWith judge i).pending = s.pending := by
  simp only [State.activateWith] <;> (repeat' split) <;> simp [h]
@[simp] theorem activate_pending (s : State) (i : SlotNo) : (s.activate i).pending = s.pending :=
  activateWith_pending _ i (fun t c s => judgeActivationWith_pending _ t c (breakEntryWith_pending id false (fun _ => rfl)) s) s
@[simp] theorem activatePending_pending (s : State) : (s.activatePending).pending = s.pending := by
  simp only [State.activatePending] <;> (repeat' split) <;> simp
@[simp] theorem activateInEntry_pending (s : State) : (s.activateInEntry).pending = s.pending := by
  simp only [State.activateInEntry] <;> (repeat' split) <;> simp
@[simp] theorem breakEntry_pending (s : State) (x : Bool) : (s.breakEntry x).pending = s.pending := by
  simp only [State.breakEntry] <;> (repeat' split) <;> simp
@[simp] theorem faultEntry_pending (s : State) (c : FaultCause) : (s.faultEntry c).pending = s.pending := by
  simp only [State.faultEntry] <;> (repeat' split) <;> simp
@[simp] theorem parkTakesEffect_pending (s : State) : (s.parkTakesEffect).pending = s.pending := by
  simp only [State.parkTakesEffect] <;> (repeat' split) <;> simp
@[simp] theorem judgeDetectors_pending (s : State) (t c : PerDetector Bool) : (s.judgeDetectors t c).pending = s.pending := by
  simp only [State.judgeDetectors] <;> (repeat' split) <;> simp
@[simp] theorem faultUnlessFaulted_pending (s : State) (c : FaultCause) : (s.faultUnlessFaulted c).pending = s.pending := by
  simp only [State.faultUnlessFaulted] <;> (repeat' split) <;> simp
@[simp] theorem completeEdges_pending (s : State) (e : Option Edges) : (s.completeEdges e).pending = s.pending := by
  simp only [State.completeEdges] <;> (repeat' split) <;> simp
@[simp] theorem closeFilling_pending (s : State) : (s.closeFilling).pending = s.pending := by
  simp only [State.closeFilling] <;> (repeat' split) <;> simp
@[simp] theorem completeRecord_pending (s : State) (dir : ScanDir) : (s.completeRecord dir).pending = s.pending := by
  simp only [State.completeRecord] <;> (repeat' split) <;> simp
@[simp] theorem completeStd_pending (s : State) : (s.completeStd).pending = s.pending := by
  simp only [State.completeStd] <;> (repeat' split) <;> simp
@[simp] theorem completeRecovery_pending (s : State) : (s.completeRecovery).pending = s.pending := by
  simp only [State.completeRecovery] <;> (repeat' split) <;> simp
@[simp] theorem evaluateLimits_pending (s : State) (r : ScanRecord) : (s.evaluateLimits r).pending = s.pending := by
  simp only [State.evaluateLimits] <;> (repeat' split) <;> simp
@[simp] theorem reportHoles_pending (s : State) (src : ReportSource) : (s.reportHoles src).pending = s.pending := by
  simp only [State.reportHoles] <;> (repeat' split) <;> simp
@[simp] theorem completeHoles_pending (s : State) : (s.completeHoles).pending = s.pending := by
  simp only [State.completeHoles] <;> (repeat' split) <;> simp
@[simp] theorem completeLimits_pending (s : State) : (s.completeLimits).pending = s.pending := by
  simp only [State.completeLimits] <;> (repeat' split) <;> simp
@[simp] theorem completeScan_pending (s : State) (dir : ScanDir) : (s.completeScan dir).pending = s.pending := by
  simp only [State.completeScan] <;> (repeat' split) <;> simp
@[simp] theorem handOn_pending (s : State) (x : Sample) : (s.handOn x).pending = s.pending := by
  simp only [State.handOn] <;> (repeat' split) <;> simp
@[simp] theorem absentWindowEnd_pending (s : State) : (s.absentWindowEnd).pending = s.pending := by
  simp only [State.absentWindowEnd] <;> (repeat' split) <;> simp
@[simp] theorem withdrawEnd_pending (s : State) : (s.withdrawEnd).pending = s.pending := by
  simp only [State.withdrawEnd] <;> (repeat' split) <;> simp
@[simp] theorem stdSlot_pending (s : State) (raw : Option RawSample) : (s.stdSlot raw).pending = s.pending := by
  simp only [State.stdSlot] <;> (repeat' split) <;> simp
@[simp] theorem linkLost_pending (s : State) : (s.linkLost).pending = s.pending := by
  simp only [State.linkLost] <;> (repeat' split) <;> simp
@[simp] theorem linkWindowEnd_pending (s : State) : (s.linkWindowEnd).pending = s.pending := by
  simp only [State.linkWindowEnd] <;> (repeat' split) <;> simp
@[simp] theorem pointPeriodEnd_pending (s : State) : (s.pointPeriodEnd).pending = s.pending := by
  simp only [State.pointPeriodEnd] <;> (repeat' split) <;> simp
@[simp] theorem takeSample_pending (s : State) (t : Option SampleTelegram) : (s.takeSample t).pending = s.pending := by
  simp only [State.takeSample] <;> (repeat' split) <;> simp
@[simp] theorem declareSlot_pending (s : State) (d : SlotDecl) : (s.declareSlot d).pending = s.pending := by
  simp only [State.declareSlot] <;> (repeat' split) <;> simp
@[simp] theorem rejudgeAtSpeed_pending (s : State) : (s.rejudgeAtSpeed).pending = s.pending := by
  simp only [State.rejudgeAtSpeed] <;> (repeat' split) <;> simp
@[simp] theorem gateEnd_pending (s : State) : (s.gateEnd).pending = s.pending := by
  simp only [State.gateEnd] <;> (repeat' split) <;> simp
@[simp] theorem lossExpiry_pending (s : State) : (s.lossExpiry).pending = s.pending := by
  simp only [State.lossExpiry] <;> (repeat' split) <;> simp
@[simp] theorem debounceExpiry_pending (s : State) (d : Detector) : (s.debounceExpiry d).pending = s.pending := by
  simp only [State.debounceExpiry] <;> (repeat' split) <;> simp
@[simp] theorem levelChange_pending (s : State) (d : Detector) (h : Bool) : (s.levelChange d h).pending = s.pending := by
  simp only [State.levelChange] <;> (repeat' split) <;> simp
@[simp] theorem serveStatus_pending (s : State) (st : Station) (tag : Byte) : (s.serveStatus st tag).pending = s.pending := by
  simp only [State.serveStatus] <;> (repeat' split) <;> simp
@[simp] theorem answer_pending (s : State) (st : Station) (k : RequestKind) (tag : Byte) (c : Status) : (s.answer st k tag c).pending = s.pending := by
  simp only [State.answer] <;> (repeat' split) <;> simp
@[simp] theorem serveFound_pending (s : State) (st : Station) (tag : Byte) (q : ScanQuery) (i : Option Nat) : (s.serveFound st tag q i).pending = s.pending := by
  simp only [State.serveFound] <;> (repeat' split) <;> simp
@[simp] theorem makePending_pending (s : State) (st : Station) (tag : Byte) (q : ScanQuery) (m : BitVec 16) (wait : Nat) : (s.makePending st tag q m wait).pending = s.pending := by
  simp only [State.makePending] <;> (repeat' split) <;> simp
@[simp] theorem serveMinimum_pending (s : State) (st : Station) (tag : Byte) (q : ScanQuery) (m : BitVec 16) (wait : Nat) : (s.serveMinimum st tag q m wait).pending = s.pending := by
  simp only [State.serveMinimum] <;> (repeat' split) <;> simp
@[simp] theorem serveReadScan_pending (s : State) (st : Station) (tag : Byte) (p : List Byte) : (s.serveReadScan st tag p).pending = s.pending := by
  simp only [State.serveReadScan] <;> (repeat' split) <;> simp
@[simp] theorem serveReadTrend_pending (s : State) (st : Station) (tag : Byte) : (s.serveReadTrend st tag).pending = s.pending := by
  simp only [State.serveReadTrend] <;> (repeat' split) <;> simp
@[simp] theorem serveReadPoints_pending (s : State) (st : Station) (tag : Byte) (p : List Byte) : (s.serveReadPoints st tag p).pending = s.pending := by
  simp only [State.serveReadPoints] <;> (repeat' split) <;> simp
@[simp] theorem serveReadStandardization_pending (s : State) (st : Station) (tag : Byte) : (s.serveReadStandardization st tag).pending = s.pending := by
  simp only [State.serveReadStandardization] <;> (repeat' split) <;> simp
@[simp] theorem serveCancel_pending (s : State) (st : Station) (tag : Byte) : (s.serveCancel st tag).pending = s.pending := by
  simp only [State.serveCancel] <;> (repeat' split) <;> simp
@[simp] theorem setSlot_pending (s : State) (st : Station) (m : ModeSlot) : (s.setSlot st m).pending = s.pending := by
  simp only [State.setSlot] <;> (repeat' split) <;> simp
@[simp] theorem modeReply_pending (s : State) (st : Station) (tag : Byte) (c : Status) : (s.modeReply st tag c).pending = s.pending := by
  simp only [State.modeReply] <;> (repeat' split) <;> simp
@[simp] theorem modeRelease_pending (s : State) (st : Station) (tag : Byte) : (s.modeRelease st tag).pending = s.pending := by
  simp only [State.modeRelease] <;> (repeat' split) <;> simp
@[simp] theorem modePark_pending (s : State) (st : Station) (tag : Byte) : (s.modePark st tag).pending = s.pending := by
  simp only [State.modePark] <;> (repeat' split) <;> simp
@[simp] theorem modeStandardize_pending (s : State) (st : Station) (tag : Byte) : (s.modeStandardize st tag).pending = s.pending := by
  simp only [State.modeStandardize] <;> (repeat' split) <;> simp
@[simp] theorem modePoint_pending (s : State) (st : Station) (tag : Byte) (pos : Nat) : (s.modePoint st tag pos).pending = s.pending := by
  simp only [State.modePoint] <;> (repeat' split) <;> simp
@[simp] theorem serveMode_pending (s : State) (st : Station) (tag : Byte) (p : List Byte) : (s.serveMode st tag p).pending = s.pending := by
  simp only [State.serveMode] <;> (repeat' split) <;> simp
@[simp] theorem serveClearFault_pending (s : State) (st : Station) (tag : Byte) : (s.serveClearFault st tag).pending = s.pending := by
  simp only [State.serveClearFault] <;> (repeat' split) <;> simp
@[simp] theorem serveResume_pending (s : State) (st : Station) (tag : Byte) : (s.serveResume st tag).pending = s.pending := by
  simp only [State.serveResume] <;> (repeat' split) <;> simp
@[simp] theorem takeCountReply_pending (s : State) (st : Station) (tag : Byte) (m : HoleMode) : (s.takeCountReply st tag m).pending = s.pending := by
  simp only [State.takeCountReply] <;> (repeat' split) <;> simp
@[simp] theorem serveTakeCount_pending (s : State) (st : Station) (tag : Byte) : (s.serveTakeCount st tag).pending = s.pending := by
  simp only [State.serveTakeCount] <;> (repeat' split) <;> simp
@[simp] theorem serveRestart_pending (s : State) (st : Station) (tag : Byte) : (s.serveRestart st tag).pending = s.pending := by
  simp only [State.serveRestart] <;> (repeat' split) <;> simp
@[simp] theorem writeRecipe_pending (s : State) (st : Station) (tag : Byte) (p : List Byte) (i : SlotNo) (g : Group) : (s.writeRecipe st tag p i g).pending = s.pending := by
  simp only [State.writeRecipe] <;> (repeat' split) <;> simp
@[simp] theorem serveRecipeWrite_pending (s : State) (st : Station) (tag : Byte) (p : List Byte) : (s.serveRecipeWrite st tag p).pending = s.pending := by
  simp only [State.serveRecipeWrite] <;> (repeat' split) <;> simp
@[simp] theorem serveRecipeRead_pending (s : State) (st : Station) (tag : Byte) (p : List Byte) : (s.serveRecipeRead st tag p).pending = s.pending := by
  simp only [State.serveRecipeRead] <;> (repeat' split) <;> simp
@[simp] theorem validateSlot_pending (s : State) (st : Station) (tag : Byte) (i : SlotNo) : (s.validateSlot st tag i).pending = s.pending := by
  simp only [State.validateSlot] <;> (repeat' split) <;> simp
@[simp] theorem serveValidate_pending (s : State) (st : Station) (tag : Byte) (p : List Byte) : (s.serveValidate st tag p).pending = s.pending := by
  simp only [State.serveValidate] <;> (repeat' split) <;> simp
@[simp] theorem selectReply_pending (s : State) (st : Station) (tag : Byte) (t : Timing) : (s.selectReply st tag t).pending = s.pending := by
  simp only [State.selectReply] <;> (repeat' split) <;> simp
@[simp] theorem selectSlot_pending (s : State) (st : Station) (tag : Byte) (i : SlotNo) : (s.selectSlot st tag i).pending = s.pending := by
  simp only [State.selectSlot] <;> (repeat' split) <;> simp
@[simp] theorem serveSelect_pending (s : State) (st : Station) (tag : Byte) (p : List Byte) : (s.serveSelect st tag p).pending = s.pending := by
  simp only [State.serveSelect] <;> (repeat' split) <;> simp
@[simp] theorem handMachine_pending (s : State) (old : MachineRecord) : (s.handMachine old).pending = s.pending := by
  simp only [State.handMachine] <;> (repeat' split) <;> simp
@[simp] theorem machineReply_pending (s : State) (st : Station) (k : RequestKind) (tag : Byte) (c : Status) : (s.machineReply st k tag c).pending = s.pending := by
  simp only [State.machineReply] <;> (repeat' split) <;> simp
@[simp] theorem acceptMachine_pending (s : State) (st : Station) (tag : Byte) (c : Status) (m : MachineRecord) : (s.acceptMachine st tag c m).pending = s.pending := by
  simp only [State.acceptMachine] <;> (repeat' split) <;> simp
@[simp] theorem judgeMachine_pending (s : State) (st : Station) (tag : Byte) (m : MachineRecord) : (s.judgeMachine st tag m).pending = s.pending := by
  simp only [State.judgeMachine] <;> (repeat' split) <;> simp
@[simp] theorem serveMachineWrite_pending (s : State) (st : Station) (tag : Byte) (p : List Byte) : (s.serveMachineWrite st tag p).pending = s.pending := by
  simp only [State.serveMachineWrite] <;> (repeat' split) <;> simp
@[simp] theorem serveMachineRead_pending (s : State) (st : Station) (tag : Byte) : (s.serveMachineRead st tag).pending = s.pending := by
  simp only [State.serveMachineRead] <;> (repeat' split) <;> simp
@[simp] theorem serveSubscribe_pending (s : State) (st : Station) (tag : Byte) (p : List Byte) : (s.serveSubscribe st tag p).pending = s.pending := by
  simp only [State.serveSubscribe] <;> (repeat' split) <;> simp
@[simp] theorem serve_pending (s : State) (k : RequestKind) (st : Station) (tag : Byte) (p : List Byte) : (s.serve k st tag p).pending = s.pending := by
  simp only [State.serve] <;> (repeat' split) <;> simp
@[simp] theorem judgeKnown_pending (s : State) (k : RequestKind) (st : Station) (tag : Byte) (p : List Byte) : (s.judgeKnown k st tag p).pending = s.pending := by
  simp only [State.judgeKnown] <;> (repeat' split) <;> simp
@[simp] theorem answerUnknown_pending (s : State) (st : Station) (tag : Byte) : (s.answerUnknown st tag).pending = s.pending := by
  simp only [State.answerUnknown] <;> (repeat' split) <;> simp
@[simp] theorem judgeKind_pending (s : State) (st : Station) (kind tag : Byte) (p : List Byte) : (s.judgeKind st kind tag p).pending = s.pending := by
  simp only [State.judgeKind] <;> (repeat' split) <;> simp
@[simp] theorem telegram_pending (s : State) (st : Station) (kind tag : Byte) (p : List Byte) : (s.telegram st kind tag p).pending = s.pending := by
  simp only [State.telegram] <;> (repeat' split) <;> simp
@[simp] theorem telegramArrival_pending (s : State) (st : Station) (k t : Byte) (p : List Byte) : (s.telegramArrival st k t p).pending = s.pending := by
  simp only [State.telegramArrival] <;> (repeat' split) <;> simp
@[simp] theorem storeChar_pending (s : State) (st : Station) (cs : List Byte) (b : Byte) : (s.storeChar st cs b).pending = s.pending := by
  simp only [State.storeChar] <;> (repeat' split) <;> simp
@[simp] theorem takeChar_pending (s : State) (st : Station) (c : Character) : (s.takeChar st c).pending = s.pending := by
  simp only [State.dropTelegram, State.takeChar] <;> (repeat' split) <;> simp
@[simp] theorem takeLine_pending (s : State) (st : Station) (e : LineEvent) : (s.takeLine st e).pending = s.pending := by
  cases e <;> simp [State.takeLine]
@[simp] theorem absence_pending (s : State) (st : Station) : (s.absence st).pending = s.pending := by
  simp only [State.absence] <;> (repeat' split) <;> simp
@[simp] theorem transmitted_pending (s : State) (st : Station) : (s.transmitted st).pending = s.pending := by
  simp only [State.transmitted] <;> (repeat' split) <;> simp
@[simp] theorem storeHeadChar_pending (s : State) (cs : List Byte) (b : Byte) : (s.storeHeadChar cs b).pending = s.pending := by
  simp only [State.setHeadRx, State.storeHeadChar] <;> (repeat' split) <;> simp
@[simp] theorem takeHeadChar_pending (s : State) (c : Character) : (s.takeHeadChar c).pending = s.pending := by
  simp only [State.setHeadRx, State.takeHeadChar] <;> (repeat' split) <;> simp
@[simp] theorem arrival_pending (s : State) : (s.arrival).pending = s.pending := by
  simp only [State.arrival] <;> (repeat' split) <;> simp

/-! ### What leaves the input levels alone -/

@[simp] theorem onPort_pins (s : State) (st : Station) (f : Port → Port) : (s.onPort st f).pins = s.pins := by
  simp only [State.onPort] <;> (repeat' split) <;> simp
@[simp] theorem startBit_pins (s : State) (st : Station) : (s.startBit st).pins = s.pins := by
  simp only [State.startBit] <;> (repeat' split) <;> simp
@[simp] theorem onPorts_pins (s : State) (f : Port → Port) : (s.onPorts f).pins = s.pins := by
  simp only [State.onPorts] <;> (repeat' split) <;> simp
@[simp] theorem reply_pins (s : State) (st : Station) (k : RequestKind) (tag : Byte) (b : ReplyBody) : (s.reply st k tag b).pins = s.pins := by
  simp only [State.reply] <;> (repeat' split) <;> simp
@[simp] theorem offer_pins (s : State) (n : Notice) : (s.offer n).pins = s.pins := by
  simp only [State.offer] <;> (repeat' split) <;> simp
@[simp] theorem settle_pins (s : State) : (s.settle).pins = s.pins := by
  simp only [State.settle] <;> (repeat' split) <;> simp
@[simp] theorem serveScan_pins (s : State) (st : Station) (tag : Byte) (q : ScanQuery) (i : Nat) : (s.serveScan st tag q i).pins = s.pins := by
  simp only [State.serveScan] <;> (repeat' split) <;> simp
@[simp] theorem endPending_pins (s : State) (st : Station) (b : ReplyBody) : (s.endPending st b).pins = s.pins := by
  simp only [State.endPending] <;> (repeat' split) <;> simp
@[simp] theorem endPendingByBreak_pins (s : State) : (s.endPendingByBreak).pins = s.pins := by
  simp only [State.endPendingByBreak] <;> (repeat' split) <;> simp
@[simp] theorem servePending_pins (s : State) (i : Nat) (st : Station) : (s.servePending i st).pins = s.pins := by
  simp only [State.servePending] <;> (repeat' split) <;> simp
@[simp] theorem serveAllPending_pins (s : State) (i : Nat) : (s.serveAllPending i).pins = s.pins := by
  simp only [State.serveAllPending] <;> (repeat' split) <;> simp
@[simp] theorem endStretch_pins (s : State) : (s.endStretch).pins = s.pins := by
  simp only [State.endStretch] <;> (repeat' split) <;> simp
@[simp] theorem stopAssessment_pins (s : State) : (s.stopAssessment).pins = s.pins := by
  simp only [State.stopAssessment] <;> (repeat' split) <;> simp
@[simp] theorem absentTake_pins (s : State) (x : Sample) : (s.absentTake x).pins = s.pins := by
  simp only [State.absentTake] <;> (repeat' split) <;> simp
@[simp] theorem absentNextWindow_pins (s : State) : (s.absentNextWindow).pins = s.pins := by
  simp only [State.absentNextWindow] <;> (repeat' split) <;> simp
@[simp] theorem holeTake_pins (s : State) (x : Sample) : (s.holeTake x).pins = s.pins := by
  simp only [State.holeTake] <;> (repeat' split) <;> simp
@[simp] theorem holeTransfer_pins (s : State) (src : ReportSource) : (s.holeTransfer src).pins = s.pins := by
  simp only [State.holeTransfer] <;> (repeat' split) <;> simp
@[simp] theorem updateEdges_pins (s : State) (e : EdgeTracker) : (s.updateEdges e).pins = s.pins := by
  simp only [State.updateEdges] <;> (repeat' split) <;> simp
@[simp] theorem edgeTake_pins (s : State) (x : Sample) : (s.edgeTake x).pins = s.pins := by
  simp only [State.edgeTake] <;> (repeat' split) <;> simp
@[simp] theorem binTake_pins (s : State) (x : Sample) : (s.binTake x).pins = s.pins := by
  simp only [State.binTake] <;> (repeat' split) <;> simp
@[simp] theorem profileRestart_pins (s : State) : (s.profileRestart).pins = s.pins := by
  simp only [State.profileRestart] <;> (repeat' split) <;> simp
@[simp] theorem clearContinuity_pins (s : State) : (s.clearContinuity).pins = s.pins := by
  simp only [State.clearContinuity] <;> (repeat' split) <;> simp
@[simp] theorem deferredAtAbort_pins (s : State) : (s.deferredAtAbort).pins = s.pins := by
  simp only [State.deferredAtAbort] <;> (repeat' split) <;> simp
@[simp] theorem profileActivation_pins (s : State) (l : Layout) : (s.profileActivation l).pins = s.pins := by
  simp only [State.profileActivation] <;> (repeat' split) <;> simp
@[simp] theorem adopt_pins (s : State) : (s.adopt).pins = s.pins := by
  simp only [State.adopt] <;> (repeat' split) <;> simp
@[simp] theorem dropPendingSet_pins (s : State) : (s.dropPendingSet).pins = s.pins := by
  simp only [State.dropPendingSet] <;> (repeat' split) <;> simp
@[simp] theorem startRecord_pins (s : State) (dir : ScanDir) : (s.startRecord dir).pins = s.pins := by
  simp only [State.startRecord] <;> (repeat' split) <;> simp
@[simp] theorem voidRecord_pins (s : State) : (s.voidRecord).pins = s.pins := by
  simp only [State.voidRecord] <;> (repeat' split) <;> simp
@[simp] theorem markLinkGaps_pins (s : State) : (s.markLinkGaps).pins = s.pins := by
  simp only [State.markLinkGaps] <;> (repeat' split) <;> simp
@[simp] theorem markTachHeld_pins (s : State) : (s.markTachHeld).pins = s.pins := by
  simp only [State.markTachHeld] <;> (repeat' split) <;> simp
@[simp] theorem closeAt_pins (s : State) (i : Nat) : (s.closeAt i).pins = s.pins := by
  simp only [State.closeAt] <;> (repeat' split) <;> simp
@[simp] theorem startPeriod_pins (s : State) : (s.startPeriod).pins = s.pins := by
  simp only [State.startPeriod] <;> (repeat' split) <;> simp
@[simp] theorem dropPeriod_pins (s : State) : (s.dropPeriod).pins = s.pins := by
  simp only [State.dropPeriod] <;> (repeat' split) <;> simp
@[simp] theorem periodSlot_pins (s : State) : (s.periodSlot).pins = s.pins := by
  simp only [State.periodSlot] <;> (repeat' split) <;> simp
@[simp] theorem pointTake_pins (s : State) (x : Sample) : (s.pointTake x).pins = s.pins := by
  simp only [State.pointTake] <;> (repeat' split) <;> simp
@[simp] theorem recordPeriod_pins (s : State) (p : PointPeriod) : (s.recordPeriod p).pins = s.pins := by
  simp only [State.recordPeriod] <;> (repeat' split) <;> simp
@[simp] theorem raise_pins (s : State) (c : HeadCommand) : (s.raise c).pins = s.pins := by
  simp only [State.raise] <;> (repeat' split) <;> simp
@[simp] theorem consumeStd_pins (s : State) : (s.consumeStd).pins = s.pins := by
  simp only [State.consumeStd] <;> (repeat' split) <;> simp
@[simp] theorem stdNotice_pins (s : State) : (s.stdNotice).pins = s.pins := by
  simp only [State.stdNotice] <;> (repeat' split) <;> simp
@[simp] theorem stdCommit_pins (s : State) : (s.stdCommit).pins = s.pins := by
  simp only [State.stdCommit] <;> (repeat' split) <;> simp
@[simp] theorem stdFail_pins (s : State) : (s.stdFail).pins = s.pins := by
  simp only [State.stdFail] <;> (repeat' split) <;> simp
@[simp] theorem stdNoRecord_pins (s : State) : (s.stdNoRecord).pins = s.pins := by
  simp only [State.stdNoRecord] <;> (repeat' split) <;> simp
@[simp] theorem abortRefOut_pins (s : State) : (s.abortRefOut).pins = s.pins := by
  simp only [State.abortRefOut] <;> (repeat' split) <;> simp
@[simp] theorem stdAbort_pins (s : State) : (s.stdAbort).pins = s.pins := by
  simp only [State.stdAbort] <;> (repeat' split) <;> simp
@[simp] theorem enterReference_pins (s : State) : (s.enterReference).pins = s.pins := by
  simp only [State.enterReference] <;> (repeat' split) <;> simp
@[simp] theorem enterWithdraw_pins (s : State) : (s.enterWithdraw).pins = s.pins := by
  simp only [State.enterWithdraw] <;> (repeat' split) <;> simp
@[simp] theorem zeroEnd_pins (s : State) : (s.zeroEnd).pins = s.pins := by
  simp only [State.zeroEnd] <;> (repeat' split) <;> simp
@[simp] theorem referenceEnd_pins (s : State) : (s.referenceEnd).pins = s.pins := by
  simp only [State.referenceEnd] <;> (repeat' split) <;> simp
@[simp] theorem collectionSlot_pins (s : State) (raw : Option RawSample) : (s.collectionSlot raw).pins = s.pins := by
  simp only [State.collectionSlot] <;> (repeat' split) <;> simp
@[simp] theorem tileSeen_pins (s : State) : (s.tileSeen).pins = s.pins := by
  simp only [State.tileSeen] <;> (repeat' split) <;> simp
@[simp] theorem tileExpired_pins (s : State) : (s.tileExpired).pins = s.pins := by
  simp only [State.tileExpired] <;> (repeat' split) <;> simp
@[simp] theorem stuckTile_pins (s : State) : (s.stuckTile).pins = s.pins := by
  simp only [State.stuckTile] <;> (repeat' split) <;> simp
@[simp] theorem toHead_pins (s : State) (h : HeadState) : (s.toHead h).pins = s.pins := by
  simp only [State.toHead] <;> (repeat' split) <;> simp
@[simp] theorem headNotice_pins (s : State) : (s.headNotice).pins = s.pins := by
  simp only [State.headNotice] <;> (repeat' split) <;> simp
@[simp] theorem grantTo_pins (s : State) (g : Grant) : (s.grantTo g).pins = s.pins := by
  simp only [State.grantTo] <;> (repeat' split) <;> simp
@[simp] theorem driveOff_pins (s : State) : (s.driveOff).pins = s.pins := by
  simp only [State.driveOff] <;> (repeat' split) <;> simp
@[simp] theorem drive_pins (s : State) (d : Bool) (n : Nat) : (s.drive d n).pins = s.pins := by
  simp only [State.drive] <;> (repeat' split) <;> simp
@[simp] theorem startScan_pins (s : State) (dir : ScanDir) (a : Bool) : (s.startScan dir a).pins = s.pins := by
  simp only [State.startScan] <;> (repeat' split) <;> simp
@[simp] theorem enterHead_pins (s : State) (h : HeadState) (g : Grant) : (s.enterHead h g).pins = s.pins := by
  simp only [State.enterHead] <;> (repeat' split) <;> simp
@[simp] theorem arriveApproach_pins (s : State) : (s.arriveApproach).pins = s.pins := by
  simp only [State.arriveApproach] <;> (repeat' split) <;> simp
@[simp] theorem arrivePoint_pins (s : State) : (s.arrivePoint).pins = s.pins := by
  simp only [State.arrivePoint] <;> (repeat' split) <;> simp
@[simp] theorem faultStill_pins (s : State) (c : FaultCause) : (s.faultStill c).pins = s.pins := by
  simp only [State.faultEntryWith, State.scanAbortWith, State.faultStill] <;> (repeat' split) <;> simp
@[simp] theorem beginApproach_pins (s : State) (g : Grant) : (s.beginApproach g).pins = s.pins := by
  simp only [State.beginApproach] <;> (repeat' split) <;> simp
@[simp] theorem beginPositioning_pins (s : State) (st : Station) (p : Nat) : (s.beginPositioning st p).pins = s.pins := by
  simp only [State.beginPositioning] <;> (repeat' split) <;> simp
@[simp] theorem stayParked_pins (s : State) (g : Grant) : (s.stayParked g).pins = s.pins := by
  simp only [State.stayParked] <;> (repeat' split) <;> simp
@[simp] theorem decideParkedOther_pins (s : State) (g : Grant) : (s.decideParkedOther g).pins = s.pins := by
  simp only [State.decideParkedOther] <;> (repeat' split) <;> simp
@[simp] theorem startStd_pins (s : State) : (s.startStd).pins = s.pins := by
  simp only [State.startStd] <;> (repeat' split) <;> simp
@[simp] theorem decideParked_pins (s : State) : (s.decideParked).pins = s.pins := by
  simp only [State.decideParked] <;> (repeat' split) <;> simp
@[simp] theorem redecideIfParked_pins (s : State) : (s.redecideIfParked).pins = s.pins := by
  simp only [State.redecideIfParked] <;> (repeat' split) <;> simp
@[simp] theorem stdEnded_pins (s : State) : (s.stdEnded).pins = s.pins := by
  simp only [State.stdEnded] <;> (repeat' split) <;> simp
@[simp] theorem arriveParked_pins (s : State) : (s.arriveParked).pins = s.pins := by
  simp only [State.arriveParked] <;> (repeat' split) <;> simp
@[simp] theorem beginReturning_pins (s : State) (g : Grant) : (s.beginReturning g).pins = s.pins := by
  simp only [State.beginReturning] <;> (repeat' split) <;> simp
@[simp] theorem stdAtCompletion_pins (s : State) (dir : ScanDir) (a : Bool) : (s.stdAtCompletion dir a).pins = s.pins := by
  simp only [State.stdAtCompletion] <;> (repeat' split) <;> simp
@[simp] theorem scanAtCompletion_pins (s : State) (dir : ScanDir) (a : Bool) : (s.scanAtCompletion dir a).pins = s.pins := by
  simp only [State.scanAtCompletion] <;> (repeat' split) <;> simp
@[simp] theorem decideCompletion_pins (s : State) (dir : ScanDir) (a : Bool) : (s.decideCompletion dir a).pins = s.pins := by
  simp only [State.decideCompletion] <;> (repeat' split) <;> simp
@[simp] theorem decidePeriodEnd_pins (s : State) : (s.decidePeriodEnd).pins = s.pins := by
  simp only [State.decidePeriodEnd] <;> (repeat' split) <;> simp
@[simp] theorem beginSearch_pins (s : State) : (s.beginSearch).pins = s.pins := by
  simp only [State.beginSearch] <;> (repeat' split) <;> simp
@[simp] theorem homingBegun_pins (s : State) : (s.homingBegun).pins = s.pins := by
  simp only [State.homingBegun] <;> (repeat' split) <;> simp
@[simp] theorem enterHoming_pins (s : State) : (s.enterHoming).pins = s.pins := by
  simp only [State.enterHoming] <;> (repeat' split) <;> simp
@[simp] theorem indexFound_pins (s : State) : (s.indexFound).pins = s.pins := by
  simp only [State.indexFound] <;> (repeat' split) <;> simp
@[simp] theorem scanAbortWith_pins (act : State → State) (h : ∀ s, (act s).pins = s.pins) (s : State) : (s.scanAbortWith act).pins = s.pins := by
  simp only [State.scanAbortWith] <;> (repeat' split) <;> simp [h]
@[simp] theorem faultEntryWith_pins (act : State → State) (c : FaultCause) (h : ∀ s, (act s).pins = s.pins) (s : State) : (s.faultEntryWith act c).pins = s.pins := by
  simp only [State.faultEntryWith] <;> (repeat' split) <;> simp [h]
@[simp] theorem claimTakesEffectWith_pins (act : State → State) (h : ∀ s, (act s).pins = s.pins) (s : State) : (s.claimTakesEffectWith act).pins = s.pins := by
  simp only [State.claimTakesEffectWith] <;> (repeat' split) <;> simp [h]
@[simp] theorem breakNotice_pins (s : State) : (s.breakNotice).pins = s.pins := by
  simp only [State.breakNotice] <;> (repeat' split) <;> simp
@[simp] theorem recoveringEntry_pins (s : State) : (s.recoveringEntry).pins = s.pins := by
  simp only [State.recoveringEntry] <;> (repeat' split) <;> simp
@[simp] theorem threadingExpiry_pins (s : State) : (s.threadingExpiry).pins = s.pins := by
  simp only [State.threadingExpiry] <;> (repeat' split) <;> simp
@[simp] theorem threadingEntry_pins (s : State) : (s.threadingEntry).pins = s.pins := by
  simp only [State.threadingEntry] <;> (repeat' split) <;> simp
@[simp] theorem judgeThreading_pins (s : State) : (s.judgeThreading).pins = s.pins := by
  simp only [State.judgeThreading] <;> (repeat' split) <;> simp
@[simp] theorem breakEntryWith_pins (act : State → State) (x : Bool) (h : ∀ s, (act s).pins = s.pins) (s : State) : (s.breakEntryWith act x).pins = s.pins := by
  simp only [State.breakEntryWith] <;> (repeat' split) <;> simp [h]
@[simp] theorem addCauses_pins (s : State) (t : PerDetector Bool) : (s.addCauses t).pins = s.pins := by
  simp only [State.addCauses] <;> (repeat' split) <;> simp
@[simp] theorem judgeDetectorsWith_pins (entry : State → State) (t c : PerDetector Bool) (h : ∀ s, (entry s).pins = s.pins) (s : State) : (s.judgeDetectorsWith entry t c).pins = s.pins := by
  simp only [State.judgeDetectorsWith] <;> (repeat' split) <;> simp [h]
@[simp] theorem judgeActivationWith_pins (entry : State → State) (t c : PerDetector Bool) (h : ∀ s, (entry s).pins = s.pins) (s : State) : (s.judgeActivationWith entry t c).pins = s.pins := by
  simp only [State.judgeActivationWith] <;> (repeat' split) <;> simp [h]
@[simp] theorem judgeInEntry_pins (s : State) (t c : PerDetector Bool) : (s.judgeInEntry t c).pins = s.pins := by
  simp only [State.judgeInEntry] <;> (repeat' split) <;> simp
@[simp] theorem clearLimits_pins (s : State) : (s.clearLimits).pins = s.pins := by
  simp only [State.clearLimits] <;> (repeat' split) <;> simp
@[simp] theorem recipeNotice_pins (s : State) (c : RecipeCause) : (s.recipeNotice c).pins = s.pins := by
  simp only [State.recipeNotice] <;> (repeat' split) <;> simp
@[simp] theorem reaim_pins (s : State) : (s.reaim).pins = s.pins := by
  simp only [State.reaim] <;> (repeat' split) <;> simp
@[simp] theorem activateWith_pins (judge : PerDetector Bool → PerDetector Bool → State → State) (i : SlotNo) (h : ∀ a b s, (judge a b s).pins = s.pins) (s : State) : (s.activateWith judge i).pins = s.pins := by
  simp only [State.activateWith] <;> (repeat' split) <;> simp [h]
@[simp] theorem activate_pins (s : State) (i : SlotNo) : (s.activate i).pins = s.pins :=
  activateWith_pins _ i (fun t c s => judgeActivationWith_pins _ t c (breakEntryWith_pins id false (fun _ => rfl)) s) s
@[simp] theorem activatePending_pins (s : State) : (s.activatePending).pins = s.pins := by
  simp only [State.activatePending] <;> (repeat' split) <;> simp
@[simp] theorem activateInEntry_pins (s : State) : (s.activateInEntry).pins = s.pins := by
  simp only [State.activateInEntry] <;> (repeat' split) <;> simp
@[simp] theorem breakEntry_pins (s : State) (x : Bool) : (s.breakEntry x).pins = s.pins := by
  simp only [State.breakEntry] <;> (repeat' split) <;> simp
@[simp] theorem faultEntry_pins (s : State) (c : FaultCause) : (s.faultEntry c).pins = s.pins := by
  simp only [State.faultEntry] <;> (repeat' split) <;> simp
@[simp] theorem parkTakesEffect_pins (s : State) : (s.parkTakesEffect).pins = s.pins := by
  simp only [State.parkTakesEffect] <;> (repeat' split) <;> simp
@[simp] theorem judgeDetectors_pins (s : State) (t c : PerDetector Bool) : (s.judgeDetectors t c).pins = s.pins := by
  simp only [State.judgeDetectors] <;> (repeat' split) <;> simp
@[simp] theorem faultUnlessFaulted_pins (s : State) (c : FaultCause) : (s.faultUnlessFaulted c).pins = s.pins := by
  simp only [State.faultUnlessFaulted] <;> (repeat' split) <;> simp
@[simp] theorem completeEdges_pins (s : State) (e : Option Edges) : (s.completeEdges e).pins = s.pins := by
  simp only [State.completeEdges] <;> (repeat' split) <;> simp
@[simp] theorem closeFilling_pins (s : State) : (s.closeFilling).pins = s.pins := by
  simp only [State.closeFilling] <;> (repeat' split) <;> simp
@[simp] theorem completeRecord_pins (s : State) (dir : ScanDir) : (s.completeRecord dir).pins = s.pins := by
  simp only [State.completeRecord] <;> (repeat' split) <;> simp
@[simp] theorem completeStd_pins (s : State) : (s.completeStd).pins = s.pins := by
  simp only [State.completeStd] <;> (repeat' split) <;> simp
@[simp] theorem completeRecovery_pins (s : State) : (s.completeRecovery).pins = s.pins := by
  simp only [State.completeRecovery] <;> (repeat' split) <;> simp
@[simp] theorem evaluateLimits_pins (s : State) (r : ScanRecord) : (s.evaluateLimits r).pins = s.pins := by
  simp only [State.evaluateLimits] <;> (repeat' split) <;> simp
@[simp] theorem reportHoles_pins (s : State) (src : ReportSource) : (s.reportHoles src).pins = s.pins := by
  simp only [State.reportHoles] <;> (repeat' split) <;> simp
@[simp] theorem completeHoles_pins (s : State) : (s.completeHoles).pins = s.pins := by
  simp only [State.completeHoles] <;> (repeat' split) <;> simp
@[simp] theorem completeLimits_pins (s : State) : (s.completeLimits).pins = s.pins := by
  simp only [State.completeLimits] <;> (repeat' split) <;> simp
@[simp] theorem completeScan_pins (s : State) (dir : ScanDir) : (s.completeScan dir).pins = s.pins := by
  simp only [State.completeScan] <;> (repeat' split) <;> simp
@[simp] theorem handOn_pins (s : State) (x : Sample) : (s.handOn x).pins = s.pins := by
  simp only [State.handOn] <;> (repeat' split) <;> simp
@[simp] theorem absentWindowEnd_pins (s : State) : (s.absentWindowEnd).pins = s.pins := by
  simp only [State.absentWindowEnd] <;> (repeat' split) <;> simp
@[simp] theorem withdrawEnd_pins (s : State) : (s.withdrawEnd).pins = s.pins := by
  simp only [State.withdrawEnd] <;> (repeat' split) <;> simp
@[simp] theorem stdSlot_pins (s : State) (raw : Option RawSample) : (s.stdSlot raw).pins = s.pins := by
  simp only [State.stdSlot] <;> (repeat' split) <;> simp
@[simp] theorem linkLost_pins (s : State) : (s.linkLost).pins = s.pins := by
  simp only [State.linkLost] <;> (repeat' split) <;> simp
@[simp] theorem linkWindowEnd_pins (s : State) : (s.linkWindowEnd).pins = s.pins := by
  simp only [State.linkWindowEnd] <;> (repeat' split) <;> simp
@[simp] theorem pointPeriodEnd_pins (s : State) : (s.pointPeriodEnd).pins = s.pins := by
  simp only [State.pointPeriodEnd] <;> (repeat' split) <;> simp
@[simp] theorem takeSample_pins (s : State) (t : Option SampleTelegram) : (s.takeSample t).pins = s.pins := by
  simp only [State.takeSample] <;> (repeat' split) <;> simp
@[simp] theorem declareSlot_pins (s : State) (d : SlotDecl) : (s.declareSlot d).pins = s.pins := by
  simp only [State.declareSlot] <;> (repeat' split) <;> simp
@[simp] theorem rejudgeAtSpeed_pins (s : State) : (s.rejudgeAtSpeed).pins = s.pins := by
  simp only [State.rejudgeAtSpeed] <;> (repeat' split) <;> simp
@[simp] theorem gateEnd_pins (s : State) : (s.gateEnd).pins = s.pins := by
  simp only [State.gateEnd] <;> (repeat' split) <;> simp
@[simp] theorem lossExpiry_pins (s : State) : (s.lossExpiry).pins = s.pins := by
  simp only [State.lossExpiry] <;> (repeat' split) <;> simp
@[simp] theorem debounceExpiry_pins (s : State) (d : Detector) : (s.debounceExpiry d).pins = s.pins := by
  simp only [State.debounceExpiry] <;> (repeat' split) <;> simp
@[simp] theorem serveStatus_pins (s : State) (st : Station) (tag : Byte) : (s.serveStatus st tag).pins = s.pins := by
  simp only [State.serveStatus] <;> (repeat' split) <;> simp
@[simp] theorem answer_pins (s : State) (st : Station) (k : RequestKind) (tag : Byte) (c : Status) : (s.answer st k tag c).pins = s.pins := by
  simp only [State.answer] <;> (repeat' split) <;> simp
@[simp] theorem serveFound_pins (s : State) (st : Station) (tag : Byte) (q : ScanQuery) (i : Option Nat) : (s.serveFound st tag q i).pins = s.pins := by
  simp only [State.serveFound] <;> (repeat' split) <;> simp
@[simp] theorem makePending_pins (s : State) (st : Station) (tag : Byte) (q : ScanQuery) (m : BitVec 16) (wait : Nat) : (s.makePending st tag q m wait).pins = s.pins := by
  simp only [State.makePending] <;> (repeat' split) <;> simp
@[simp] theorem serveMinimum_pins (s : State) (st : Station) (tag : Byte) (q : ScanQuery) (m : BitVec 16) (wait : Nat) : (s.serveMinimum st tag q m wait).pins = s.pins := by
  simp only [State.serveMinimum] <;> (repeat' split) <;> simp
@[simp] theorem serveReadScan_pins (s : State) (st : Station) (tag : Byte) (p : List Byte) : (s.serveReadScan st tag p).pins = s.pins := by
  simp only [State.serveReadScan] <;> (repeat' split) <;> simp
@[simp] theorem serveReadTrend_pins (s : State) (st : Station) (tag : Byte) : (s.serveReadTrend st tag).pins = s.pins := by
  simp only [State.serveReadTrend] <;> (repeat' split) <;> simp
@[simp] theorem serveReadPoints_pins (s : State) (st : Station) (tag : Byte) (p : List Byte) : (s.serveReadPoints st tag p).pins = s.pins := by
  simp only [State.serveReadPoints] <;> (repeat' split) <;> simp
@[simp] theorem serveReadStandardization_pins (s : State) (st : Station) (tag : Byte) : (s.serveReadStandardization st tag).pins = s.pins := by
  simp only [State.serveReadStandardization] <;> (repeat' split) <;> simp
@[simp] theorem serveCancel_pins (s : State) (st : Station) (tag : Byte) : (s.serveCancel st tag).pins = s.pins := by
  simp only [State.serveCancel] <;> (repeat' split) <;> simp
@[simp] theorem setSlot_pins (s : State) (st : Station) (m : ModeSlot) : (s.setSlot st m).pins = s.pins := by
  simp only [State.setSlot] <;> (repeat' split) <;> simp
@[simp] theorem modeReply_pins (s : State) (st : Station) (tag : Byte) (c : Status) : (s.modeReply st tag c).pins = s.pins := by
  simp only [State.modeReply] <;> (repeat' split) <;> simp
@[simp] theorem modeRelease_pins (s : State) (st : Station) (tag : Byte) : (s.modeRelease st tag).pins = s.pins := by
  simp only [State.modeRelease] <;> (repeat' split) <;> simp
@[simp] theorem modePark_pins (s : State) (st : Station) (tag : Byte) : (s.modePark st tag).pins = s.pins := by
  simp only [State.modePark] <;> (repeat' split) <;> simp
@[simp] theorem modeStandardize_pins (s : State) (st : Station) (tag : Byte) : (s.modeStandardize st tag).pins = s.pins := by
  simp only [State.modeStandardize] <;> (repeat' split) <;> simp
@[simp] theorem modePoint_pins (s : State) (st : Station) (tag : Byte) (pos : Nat) : (s.modePoint st tag pos).pins = s.pins := by
  simp only [State.modePoint] <;> (repeat' split) <;> simp
@[simp] theorem serveMode_pins (s : State) (st : Station) (tag : Byte) (p : List Byte) : (s.serveMode st tag p).pins = s.pins := by
  simp only [State.serveMode] <;> (repeat' split) <;> simp
@[simp] theorem serveClearFault_pins (s : State) (st : Station) (tag : Byte) : (s.serveClearFault st tag).pins = s.pins := by
  simp only [State.serveClearFault] <;> (repeat' split) <;> simp
@[simp] theorem serveResume_pins (s : State) (st : Station) (tag : Byte) : (s.serveResume st tag).pins = s.pins := by
  simp only [State.serveResume] <;> (repeat' split) <;> simp
@[simp] theorem takeCountReply_pins (s : State) (st : Station) (tag : Byte) (m : HoleMode) : (s.takeCountReply st tag m).pins = s.pins := by
  simp only [State.takeCountReply] <;> (repeat' split) <;> simp
@[simp] theorem serveTakeCount_pins (s : State) (st : Station) (tag : Byte) : (s.serveTakeCount st tag).pins = s.pins := by
  simp only [State.serveTakeCount] <;> (repeat' split) <;> simp
@[simp] theorem serveRestart_pins (s : State) (st : Station) (tag : Byte) : (s.serveRestart st tag).pins = s.pins := by
  simp only [State.serveRestart] <;> (repeat' split) <;> simp
@[simp] theorem writeRecipe_pins (s : State) (st : Station) (tag : Byte) (p : List Byte) (i : SlotNo) (g : Group) : (s.writeRecipe st tag p i g).pins = s.pins := by
  simp only [State.writeRecipe] <;> (repeat' split) <;> simp
@[simp] theorem serveRecipeWrite_pins (s : State) (st : Station) (tag : Byte) (p : List Byte) : (s.serveRecipeWrite st tag p).pins = s.pins := by
  simp only [State.serveRecipeWrite] <;> (repeat' split) <;> simp
@[simp] theorem serveRecipeRead_pins (s : State) (st : Station) (tag : Byte) (p : List Byte) : (s.serveRecipeRead st tag p).pins = s.pins := by
  simp only [State.serveRecipeRead] <;> (repeat' split) <;> simp
@[simp] theorem validateSlot_pins (s : State) (st : Station) (tag : Byte) (i : SlotNo) : (s.validateSlot st tag i).pins = s.pins := by
  simp only [State.validateSlot] <;> (repeat' split) <;> simp
@[simp] theorem serveValidate_pins (s : State) (st : Station) (tag : Byte) (p : List Byte) : (s.serveValidate st tag p).pins = s.pins := by
  simp only [State.serveValidate] <;> (repeat' split) <;> simp
@[simp] theorem selectReply_pins (s : State) (st : Station) (tag : Byte) (t : Timing) : (s.selectReply st tag t).pins = s.pins := by
  simp only [State.selectReply] <;> (repeat' split) <;> simp
@[simp] theorem selectSlot_pins (s : State) (st : Station) (tag : Byte) (i : SlotNo) : (s.selectSlot st tag i).pins = s.pins := by
  simp only [State.selectSlot] <;> (repeat' split) <;> simp
@[simp] theorem serveSelect_pins (s : State) (st : Station) (tag : Byte) (p : List Byte) : (s.serveSelect st tag p).pins = s.pins := by
  simp only [State.serveSelect] <;> (repeat' split) <;> simp
@[simp] theorem handMachine_pins (s : State) (old : MachineRecord) : (s.handMachine old).pins = s.pins := by
  simp only [State.handMachine] <;> (repeat' split) <;> simp
@[simp] theorem machineReply_pins (s : State) (st : Station) (k : RequestKind) (tag : Byte) (c : Status) : (s.machineReply st k tag c).pins = s.pins := by
  simp only [State.machineReply] <;> (repeat' split) <;> simp
@[simp] theorem acceptMachine_pins (s : State) (st : Station) (tag : Byte) (c : Status) (m : MachineRecord) : (s.acceptMachine st tag c m).pins = s.pins := by
  simp only [State.acceptMachine] <;> (repeat' split) <;> simp
@[simp] theorem judgeMachine_pins (s : State) (st : Station) (tag : Byte) (m : MachineRecord) : (s.judgeMachine st tag m).pins = s.pins := by
  simp only [State.judgeMachine] <;> (repeat' split) <;> simp
@[simp] theorem serveMachineWrite_pins (s : State) (st : Station) (tag : Byte) (p : List Byte) : (s.serveMachineWrite st tag p).pins = s.pins := by
  simp only [State.serveMachineWrite] <;> (repeat' split) <;> simp
@[simp] theorem serveMachineRead_pins (s : State) (st : Station) (tag : Byte) : (s.serveMachineRead st tag).pins = s.pins := by
  simp only [State.serveMachineRead] <;> (repeat' split) <;> simp
@[simp] theorem serveSubscribe_pins (s : State) (st : Station) (tag : Byte) (p : List Byte) : (s.serveSubscribe st tag p).pins = s.pins := by
  simp only [State.serveSubscribe] <;> (repeat' split) <;> simp
@[simp] theorem serve_pins (s : State) (k : RequestKind) (st : Station) (tag : Byte) (p : List Byte) : (s.serve k st tag p).pins = s.pins := by
  simp only [State.serve] <;> (repeat' split) <;> simp
@[simp] theorem judgeKnown_pins (s : State) (k : RequestKind) (st : Station) (tag : Byte) (p : List Byte) : (s.judgeKnown k st tag p).pins = s.pins := by
  simp only [State.judgeKnown] <;> (repeat' split) <;> simp
@[simp] theorem answerUnknown_pins (s : State) (st : Station) (tag : Byte) : (s.answerUnknown st tag).pins = s.pins := by
  simp only [State.answerUnknown] <;> (repeat' split) <;> simp
@[simp] theorem judgeKind_pins (s : State) (st : Station) (kind tag : Byte) (p : List Byte) : (s.judgeKind st kind tag p).pins = s.pins := by
  simp only [State.judgeKind] <;> (repeat' split) <;> simp
@[simp] theorem telegram_pins (s : State) (st : Station) (kind tag : Byte) (p : List Byte) : (s.telegram st kind tag p).pins = s.pins := by
  simp only [State.telegram] <;> (repeat' split) <;> simp
@[simp] theorem telegramArrival_pins (s : State) (st : Station) (k t : Byte) (p : List Byte) : (s.telegramArrival st k t p).pins = s.pins := by
  simp only [State.telegramArrival] <;> (repeat' split) <;> simp
@[simp] theorem storeChar_pins (s : State) (st : Station) (cs : List Byte) (b : Byte) : (s.storeChar st cs b).pins = s.pins := by
  simp only [State.storeChar] <;> (repeat' split) <;> simp
@[simp] theorem takeChar_pins (s : State) (st : Station) (c : Character) : (s.takeChar st c).pins = s.pins := by
  simp only [State.dropTelegram, State.takeChar] <;> (repeat' split) <;> simp
@[simp] theorem takeLine_pins (s : State) (st : Station) (e : LineEvent) : (s.takeLine st e).pins = s.pins := by
  cases e <;> simp [State.takeLine]
@[simp] theorem absence_pins (s : State) (st : Station) : (s.absence st).pins = s.pins := by
  simp only [State.absence] <;> (repeat' split) <;> simp
@[simp] theorem transmitted_pins (s : State) (st : Station) : (s.transmitted st).pins = s.pins := by
  simp only [State.transmitted] <;> (repeat' split) <;> simp
@[simp] theorem storeHeadChar_pins (s : State) (cs : List Byte) (b : Byte) : (s.storeHeadChar cs b).pins = s.pins := by
  simp only [State.setHeadRx, State.storeHeadChar] <;> (repeat' split) <;> simp
@[simp] theorem takeHeadChar_pins (s : State) (c : Character) : (s.takeHeadChar c).pins = s.pins := by
  simp only [State.setHeadRx, State.takeHeadChar] <;> (repeat' split) <;> simp
@[simp] theorem arrival_pins (s : State) : (s.arrival).pins = s.pins := by
  simp only [State.arrival] <;> (repeat' split) <;> simp

/-! ### What leaves the recipe store alone -/

@[simp] theorem onPort_store (s : State) (st : Station) (f : Port → Port) : (s.onPort st f).store = s.store := by
  simp only [State.onPort] <;> (repeat' split) <;> simp
@[simp] theorem startBit_store (s : State) (st : Station) : (s.startBit st).store = s.store := by
  simp only [State.startBit] <;> (repeat' split) <;> simp
@[simp] theorem onPorts_store (s : State) (f : Port → Port) : (s.onPorts f).store = s.store := by
  simp only [State.onPorts] <;> (repeat' split) <;> simp
@[simp] theorem reply_store (s : State) (st : Station) (k : RequestKind) (tag : Byte) (b : ReplyBody) : (s.reply st k tag b).store = s.store := by
  simp only [State.reply] <;> (repeat' split) <;> simp
@[simp] theorem offer_store (s : State) (n : Notice) : (s.offer n).store = s.store := by
  simp only [State.offer] <;> (repeat' split) <;> simp
@[simp] theorem settle_store (s : State) : (s.settle).store = s.store := by
  simp only [State.settle] <;> (repeat' split) <;> simp
@[simp] theorem serveScan_store (s : State) (st : Station) (tag : Byte) (q : ScanQuery) (i : Nat) : (s.serveScan st tag q i).store = s.store := by
  simp only [State.serveScan] <;> (repeat' split) <;> simp
@[simp] theorem endPending_store (s : State) (st : Station) (b : ReplyBody) : (s.endPending st b).store = s.store := by
  simp only [State.endPending] <;> (repeat' split) <;> simp
@[simp] theorem endPendingByBreak_store (s : State) : (s.endPendingByBreak).store = s.store := by
  simp only [State.endPendingByBreak] <;> (repeat' split) <;> simp
@[simp] theorem servePending_store (s : State) (i : Nat) (st : Station) : (s.servePending i st).store = s.store := by
  simp only [State.servePending] <;> (repeat' split) <;> simp
@[simp] theorem serveAllPending_store (s : State) (i : Nat) : (s.serveAllPending i).store = s.store := by
  simp only [State.serveAllPending] <;> (repeat' split) <;> simp
@[simp] theorem endStretch_store (s : State) : (s.endStretch).store = s.store := by
  simp only [State.endStretch] <;> (repeat' split) <;> simp
@[simp] theorem stopAssessment_store (s : State) : (s.stopAssessment).store = s.store := by
  simp only [State.stopAssessment] <;> (repeat' split) <;> simp
@[simp] theorem absentTake_store (s : State) (x : Sample) : (s.absentTake x).store = s.store := by
  simp only [State.absentTake] <;> (repeat' split) <;> simp
@[simp] theorem absentNextWindow_store (s : State) : (s.absentNextWindow).store = s.store := by
  simp only [State.absentNextWindow] <;> (repeat' split) <;> simp
@[simp] theorem holeTake_store (s : State) (x : Sample) : (s.holeTake x).store = s.store := by
  simp only [State.holeTake] <;> (repeat' split) <;> simp
@[simp] theorem holeTransfer_store (s : State) (src : ReportSource) : (s.holeTransfer src).store = s.store := by
  simp only [State.holeTransfer] <;> (repeat' split) <;> simp
@[simp] theorem updateEdges_store (s : State) (e : EdgeTracker) : (s.updateEdges e).store = s.store := by
  simp only [State.updateEdges] <;> (repeat' split) <;> simp
@[simp] theorem edgeTake_store (s : State) (x : Sample) : (s.edgeTake x).store = s.store := by
  simp only [State.edgeTake] <;> (repeat' split) <;> simp
@[simp] theorem binTake_store (s : State) (x : Sample) : (s.binTake x).store = s.store := by
  simp only [State.binTake] <;> (repeat' split) <;> simp
@[simp] theorem profileRestart_store (s : State) : (s.profileRestart).store = s.store := by
  simp only [State.profileRestart] <;> (repeat' split) <;> simp
@[simp] theorem clearContinuity_store (s : State) : (s.clearContinuity).store = s.store := by
  simp only [State.clearContinuity] <;> (repeat' split) <;> simp
@[simp] theorem deferredAtAbort_store (s : State) : (s.deferredAtAbort).store = s.store := by
  simp only [State.deferredAtAbort] <;> (repeat' split) <;> simp
@[simp] theorem profileActivation_store (s : State) (l : Layout) : (s.profileActivation l).store = s.store := by
  simp only [State.profileActivation] <;> (repeat' split) <;> simp
@[simp] theorem adopt_store (s : State) : (s.adopt).store = s.store := by
  simp only [State.adopt] <;> (repeat' split) <;> simp
@[simp] theorem dropPendingSet_store (s : State) : (s.dropPendingSet).store = s.store := by
  simp only [State.dropPendingSet] <;> (repeat' split) <;> simp
@[simp] theorem startRecord_store (s : State) (dir : ScanDir) : (s.startRecord dir).store = s.store := by
  simp only [State.startRecord] <;> (repeat' split) <;> simp
@[simp] theorem voidRecord_store (s : State) : (s.voidRecord).store = s.store := by
  simp only [State.voidRecord] <;> (repeat' split) <;> simp
@[simp] theorem markLinkGaps_store (s : State) : (s.markLinkGaps).store = s.store := by
  simp only [State.markLinkGaps] <;> (repeat' split) <;> simp
@[simp] theorem markTachHeld_store (s : State) : (s.markTachHeld).store = s.store := by
  simp only [State.markTachHeld] <;> (repeat' split) <;> simp
@[simp] theorem closeAt_store (s : State) (i : Nat) : (s.closeAt i).store = s.store := by
  simp only [State.closeAt] <;> (repeat' split) <;> simp
@[simp] theorem startPeriod_store (s : State) : (s.startPeriod).store = s.store := by
  simp only [State.startPeriod] <;> (repeat' split) <;> simp
@[simp] theorem dropPeriod_store (s : State) : (s.dropPeriod).store = s.store := by
  simp only [State.dropPeriod] <;> (repeat' split) <;> simp
@[simp] theorem periodSlot_store (s : State) : (s.periodSlot).store = s.store := by
  simp only [State.periodSlot] <;> (repeat' split) <;> simp
@[simp] theorem pointTake_store (s : State) (x : Sample) : (s.pointTake x).store = s.store := by
  simp only [State.pointTake] <;> (repeat' split) <;> simp
@[simp] theorem recordPeriod_store (s : State) (p : PointPeriod) : (s.recordPeriod p).store = s.store := by
  simp only [State.recordPeriod] <;> (repeat' split) <;> simp
@[simp] theorem raise_store (s : State) (c : HeadCommand) : (s.raise c).store = s.store := by
  simp only [State.raise] <;> (repeat' split) <;> simp
@[simp] theorem consumeStd_store (s : State) : (s.consumeStd).store = s.store := by
  simp only [State.consumeStd] <;> (repeat' split) <;> simp
@[simp] theorem stdNotice_store (s : State) : (s.stdNotice).store = s.store := by
  simp only [State.stdNotice] <;> (repeat' split) <;> simp
@[simp] theorem stdCommit_store (s : State) : (s.stdCommit).store = s.store := by
  simp only [State.stdCommit] <;> (repeat' split) <;> simp
@[simp] theorem stdFail_store (s : State) : (s.stdFail).store = s.store := by
  simp only [State.stdFail] <;> (repeat' split) <;> simp
@[simp] theorem stdNoRecord_store (s : State) : (s.stdNoRecord).store = s.store := by
  simp only [State.stdNoRecord] <;> (repeat' split) <;> simp
@[simp] theorem abortRefOut_store (s : State) : (s.abortRefOut).store = s.store := by
  simp only [State.abortRefOut] <;> (repeat' split) <;> simp
@[simp] theorem stdAbort_store (s : State) : (s.stdAbort).store = s.store := by
  simp only [State.stdAbort] <;> (repeat' split) <;> simp
@[simp] theorem enterReference_store (s : State) : (s.enterReference).store = s.store := by
  simp only [State.enterReference] <;> (repeat' split) <;> simp
@[simp] theorem enterWithdraw_store (s : State) : (s.enterWithdraw).store = s.store := by
  simp only [State.enterWithdraw] <;> (repeat' split) <;> simp
@[simp] theorem zeroEnd_store (s : State) : (s.zeroEnd).store = s.store := by
  simp only [State.zeroEnd] <;> (repeat' split) <;> simp
@[simp] theorem referenceEnd_store (s : State) : (s.referenceEnd).store = s.store := by
  simp only [State.referenceEnd] <;> (repeat' split) <;> simp
@[simp] theorem collectionSlot_store (s : State) (raw : Option RawSample) : (s.collectionSlot raw).store = s.store := by
  simp only [State.collectionSlot] <;> (repeat' split) <;> simp
@[simp] theorem tileSeen_store (s : State) : (s.tileSeen).store = s.store := by
  simp only [State.tileSeen] <;> (repeat' split) <;> simp
@[simp] theorem tileExpired_store (s : State) : (s.tileExpired).store = s.store := by
  simp only [State.tileExpired] <;> (repeat' split) <;> simp
@[simp] theorem stuckTile_store (s : State) : (s.stuckTile).store = s.store := by
  simp only [State.stuckTile] <;> (repeat' split) <;> simp
@[simp] theorem toHead_store (s : State) (h : HeadState) : (s.toHead h).store = s.store := by
  simp only [State.toHead] <;> (repeat' split) <;> simp
@[simp] theorem headNotice_store (s : State) : (s.headNotice).store = s.store := by
  simp only [State.headNotice] <;> (repeat' split) <;> simp
@[simp] theorem grantTo_store (s : State) (g : Grant) : (s.grantTo g).store = s.store := by
  simp only [State.grantTo] <;> (repeat' split) <;> simp
@[simp] theorem driveOff_store (s : State) : (s.driveOff).store = s.store := by
  simp only [State.driveOff] <;> (repeat' split) <;> simp
@[simp] theorem drive_store (s : State) (d : Bool) (n : Nat) : (s.drive d n).store = s.store := by
  simp only [State.drive] <;> (repeat' split) <;> simp
@[simp] theorem startScan_store (s : State) (dir : ScanDir) (a : Bool) : (s.startScan dir a).store = s.store := by
  simp only [State.startScan] <;> (repeat' split) <;> simp
@[simp] theorem enterHead_store (s : State) (h : HeadState) (g : Grant) : (s.enterHead h g).store = s.store := by
  simp only [State.enterHead] <;> (repeat' split) <;> simp
@[simp] theorem arriveApproach_store (s : State) : (s.arriveApproach).store = s.store := by
  simp only [State.arriveApproach] <;> (repeat' split) <;> simp
@[simp] theorem arrivePoint_store (s : State) : (s.arrivePoint).store = s.store := by
  simp only [State.arrivePoint] <;> (repeat' split) <;> simp
@[simp] theorem faultStill_store (s : State) (c : FaultCause) : (s.faultStill c).store = s.store := by
  simp only [State.faultEntryWith, State.scanAbortWith, State.faultStill] <;> (repeat' split) <;> simp
@[simp] theorem beginApproach_store (s : State) (g : Grant) : (s.beginApproach g).store = s.store := by
  simp only [State.beginApproach] <;> (repeat' split) <;> simp
@[simp] theorem beginPositioning_store (s : State) (st : Station) (p : Nat) : (s.beginPositioning st p).store = s.store := by
  simp only [State.beginPositioning] <;> (repeat' split) <;> simp
@[simp] theorem stayParked_store (s : State) (g : Grant) : (s.stayParked g).store = s.store := by
  simp only [State.stayParked] <;> (repeat' split) <;> simp
@[simp] theorem decideParkedOther_store (s : State) (g : Grant) : (s.decideParkedOther g).store = s.store := by
  simp only [State.decideParkedOther] <;> (repeat' split) <;> simp
@[simp] theorem startStd_store (s : State) : (s.startStd).store = s.store := by
  simp only [State.startStd] <;> (repeat' split) <;> simp
@[simp] theorem decideParked_store (s : State) : (s.decideParked).store = s.store := by
  simp only [State.decideParked] <;> (repeat' split) <;> simp
@[simp] theorem redecideIfParked_store (s : State) : (s.redecideIfParked).store = s.store := by
  simp only [State.redecideIfParked] <;> (repeat' split) <;> simp
@[simp] theorem stdEnded_store (s : State) : (s.stdEnded).store = s.store := by
  simp only [State.stdEnded] <;> (repeat' split) <;> simp
@[simp] theorem arriveParked_store (s : State) : (s.arriveParked).store = s.store := by
  simp only [State.arriveParked] <;> (repeat' split) <;> simp
@[simp] theorem beginReturning_store (s : State) (g : Grant) : (s.beginReturning g).store = s.store := by
  simp only [State.beginReturning] <;> (repeat' split) <;> simp
@[simp] theorem stdAtCompletion_store (s : State) (dir : ScanDir) (a : Bool) : (s.stdAtCompletion dir a).store = s.store := by
  simp only [State.stdAtCompletion] <;> (repeat' split) <;> simp
@[simp] theorem scanAtCompletion_store (s : State) (dir : ScanDir) (a : Bool) : (s.scanAtCompletion dir a).store = s.store := by
  simp only [State.scanAtCompletion] <;> (repeat' split) <;> simp
@[simp] theorem decideCompletion_store (s : State) (dir : ScanDir) (a : Bool) : (s.decideCompletion dir a).store = s.store := by
  simp only [State.decideCompletion] <;> (repeat' split) <;> simp
@[simp] theorem decidePeriodEnd_store (s : State) : (s.decidePeriodEnd).store = s.store := by
  simp only [State.decidePeriodEnd] <;> (repeat' split) <;> simp
@[simp] theorem beginSearch_store (s : State) : (s.beginSearch).store = s.store := by
  simp only [State.beginSearch] <;> (repeat' split) <;> simp
@[simp] theorem homingBegun_store (s : State) : (s.homingBegun).store = s.store := by
  simp only [State.homingBegun] <;> (repeat' split) <;> simp
@[simp] theorem enterHoming_store (s : State) : (s.enterHoming).store = s.store := by
  simp only [State.enterHoming] <;> (repeat' split) <;> simp
@[simp] theorem indexFound_store (s : State) : (s.indexFound).store = s.store := by
  simp only [State.indexFound] <;> (repeat' split) <;> simp
@[simp] theorem scanAbortWith_store (act : State → State) (h : ∀ s, (act s).store = s.store) (s : State) : (s.scanAbortWith act).store = s.store := by
  simp only [State.scanAbortWith] <;> (repeat' split) <;> simp [h]
@[simp] theorem faultEntryWith_store (act : State → State) (c : FaultCause) (h : ∀ s, (act s).store = s.store) (s : State) : (s.faultEntryWith act c).store = s.store := by
  simp only [State.faultEntryWith] <;> (repeat' split) <;> simp [h]
@[simp] theorem claimTakesEffectWith_store (act : State → State) (h : ∀ s, (act s).store = s.store) (s : State) : (s.claimTakesEffectWith act).store = s.store := by
  simp only [State.claimTakesEffectWith] <;> (repeat' split) <;> simp [h]
@[simp] theorem breakNotice_store (s : State) : (s.breakNotice).store = s.store := by
  simp only [State.breakNotice] <;> (repeat' split) <;> simp
@[simp] theorem recoveringEntry_store (s : State) : (s.recoveringEntry).store = s.store := by
  simp only [State.recoveringEntry] <;> (repeat' split) <;> simp
@[simp] theorem threadingExpiry_store (s : State) : (s.threadingExpiry).store = s.store := by
  simp only [State.threadingExpiry] <;> (repeat' split) <;> simp
@[simp] theorem threadingEntry_store (s : State) : (s.threadingEntry).store = s.store := by
  simp only [State.threadingEntry] <;> (repeat' split) <;> simp
@[simp] theorem judgeThreading_store (s : State) : (s.judgeThreading).store = s.store := by
  simp only [State.judgeThreading] <;> (repeat' split) <;> simp
@[simp] theorem breakEntryWith_store (act : State → State) (x : Bool) (h : ∀ s, (act s).store = s.store) (s : State) : (s.breakEntryWith act x).store = s.store := by
  simp only [State.breakEntryWith] <;> (repeat' split) <;> simp [h]
@[simp] theorem addCauses_store (s : State) (t : PerDetector Bool) : (s.addCauses t).store = s.store := by
  simp only [State.addCauses] <;> (repeat' split) <;> simp
@[simp] theorem judgeDetectorsWith_store (entry : State → State) (t c : PerDetector Bool) (h : ∀ s, (entry s).store = s.store) (s : State) : (s.judgeDetectorsWith entry t c).store = s.store := by
  simp only [State.judgeDetectorsWith] <;> (repeat' split) <;> simp [h]
@[simp] theorem judgeActivationWith_store (entry : State → State) (t c : PerDetector Bool) (h : ∀ s, (entry s).store = s.store) (s : State) : (s.judgeActivationWith entry t c).store = s.store := by
  simp only [State.judgeActivationWith] <;> (repeat' split) <;> simp [h]
@[simp] theorem judgeInEntry_store (s : State) (t c : PerDetector Bool) : (s.judgeInEntry t c).store = s.store := by
  simp only [State.judgeInEntry] <;> (repeat' split) <;> simp
@[simp] theorem clearLimits_store (s : State) : (s.clearLimits).store = s.store := by
  simp only [State.clearLimits] <;> (repeat' split) <;> simp
@[simp] theorem recipeNotice_store (s : State) (c : RecipeCause) : (s.recipeNotice c).store = s.store := by
  simp only [State.recipeNotice] <;> (repeat' split) <;> simp
@[simp] theorem reaim_store (s : State) : (s.reaim).store = s.store := by
  simp only [State.reaim] <;> (repeat' split) <;> simp
@[simp] theorem completeEdges_store (s : State) (e : Option Edges) : (s.completeEdges e).store = s.store := by
  simp only [State.completeEdges] <;> (repeat' split) <;> simp
@[simp] theorem closeFilling_store (s : State) : (s.closeFilling).store = s.store := by
  simp only [State.closeFilling] <;> (repeat' split) <;> simp
@[simp] theorem completeRecord_store (s : State) (dir : ScanDir) : (s.completeRecord dir).store = s.store := by
  simp only [State.completeRecord] <;> (repeat' split) <;> simp
@[simp] theorem completeStd_store (s : State) : (s.completeStd).store = s.store := by
  simp only [State.completeStd] <;> (repeat' split) <;> simp
@[simp] theorem completeRecovery_store (s : State) : (s.completeRecovery).store = s.store := by
  simp only [State.completeRecovery] <;> (repeat' split) <;> simp
@[simp] theorem evaluateLimits_store (s : State) (r : ScanRecord) : (s.evaluateLimits r).store = s.store := by
  simp only [State.evaluateLimits] <;> (repeat' split) <;> simp
@[simp] theorem reportHoles_store (s : State) (src : ReportSource) : (s.reportHoles src).store = s.store := by
  simp only [State.reportHoles] <;> (repeat' split) <;> simp
@[simp] theorem completeHoles_store (s : State) : (s.completeHoles).store = s.store := by
  simp only [State.completeHoles] <;> (repeat' split) <;> simp
@[simp] theorem completeLimits_store (s : State) : (s.completeLimits).store = s.store := by
  simp only [State.completeLimits] <;> (repeat' split) <;> simp
@[simp] theorem handOn_store (s : State) (x : Sample) : (s.handOn x).store = s.store := by
  simp only [State.handOn] <;> (repeat' split) <;> simp
@[simp] theorem linkLost_store (s : State) : (s.linkLost).store = s.store := by
  simp only [State.linkLost] <;> (repeat' split) <;> simp
@[simp] theorem linkWindowEnd_store (s : State) : (s.linkWindowEnd).store = s.store := by
  simp only [State.linkWindowEnd] <;> (repeat' split) <;> simp
@[simp] theorem pointPeriodEnd_store (s : State) : (s.pointPeriodEnd).store = s.store := by
  simp only [State.pointPeriodEnd] <;> (repeat' split) <;> simp
@[simp] theorem rejudgeAtSpeed_store (s : State) : (s.rejudgeAtSpeed).store = s.store := by
  simp only [State.rejudgeAtSpeed] <;> (repeat' split) <;> simp
@[simp] theorem gateEnd_store (s : State) : (s.gateEnd).store = s.store := by
  simp only [State.gateEnd] <;> (repeat' split) <;> simp
@[simp] theorem lossExpiry_store (s : State) : (s.lossExpiry).store = s.store := by
  simp only [State.lossExpiry] <;> (repeat' split) <;> simp
@[simp] theorem levelChange_store (s : State) (d : Detector) (h : Bool) : (s.levelChange d h).store = s.store := by
  simp only [State.levelChange] <;> (repeat' split) <;> simp
@[simp] theorem serveStatus_store (s : State) (st : Station) (tag : Byte) : (s.serveStatus st tag).store = s.store := by
  simp only [State.serveStatus] <;> (repeat' split) <;> simp
@[simp] theorem answer_store (s : State) (st : Station) (k : RequestKind) (tag : Byte) (c : Status) : (s.answer st k tag c).store = s.store := by
  simp only [State.answer] <;> (repeat' split) <;> simp
@[simp] theorem serveFound_store (s : State) (st : Station) (tag : Byte) (q : ScanQuery) (i : Option Nat) : (s.serveFound st tag q i).store = s.store := by
  simp only [State.serveFound] <;> (repeat' split) <;> simp
@[simp] theorem makePending_store (s : State) (st : Station) (tag : Byte) (q : ScanQuery) (m : BitVec 16) (wait : Nat) : (s.makePending st tag q m wait).store = s.store := by
  simp only [State.makePending] <;> (repeat' split) <;> simp
@[simp] theorem serveMinimum_store (s : State) (st : Station) (tag : Byte) (q : ScanQuery) (m : BitVec 16) (wait : Nat) : (s.serveMinimum st tag q m wait).store = s.store := by
  simp only [State.serveMinimum] <;> (repeat' split) <;> simp
@[simp] theorem serveReadScan_store (s : State) (st : Station) (tag : Byte) (p : List Byte) : (s.serveReadScan st tag p).store = s.store := by
  simp only [State.serveReadScan] <;> (repeat' split) <;> simp
@[simp] theorem serveReadTrend_store (s : State) (st : Station) (tag : Byte) : (s.serveReadTrend st tag).store = s.store := by
  simp only [State.serveReadTrend] <;> (repeat' split) <;> simp
@[simp] theorem serveReadPoints_store (s : State) (st : Station) (tag : Byte) (p : List Byte) : (s.serveReadPoints st tag p).store = s.store := by
  simp only [State.serveReadPoints] <;> (repeat' split) <;> simp
@[simp] theorem serveReadStandardization_store (s : State) (st : Station) (tag : Byte) : (s.serveReadStandardization st tag).store = s.store := by
  simp only [State.serveReadStandardization] <;> (repeat' split) <;> simp
@[simp] theorem serveCancel_store (s : State) (st : Station) (tag : Byte) : (s.serveCancel st tag).store = s.store := by
  simp only [State.serveCancel] <;> (repeat' split) <;> simp
@[simp] theorem setSlot_store (s : State) (st : Station) (m : ModeSlot) : (s.setSlot st m).store = s.store := by
  simp only [State.setSlot] <;> (repeat' split) <;> simp
@[simp] theorem modeReply_store (s : State) (st : Station) (tag : Byte) (c : Status) : (s.modeReply st tag c).store = s.store := by
  simp only [State.modeReply] <;> (repeat' split) <;> simp
@[simp] theorem modeRelease_store (s : State) (st : Station) (tag : Byte) : (s.modeRelease st tag).store = s.store := by
  simp only [State.modeRelease] <;> (repeat' split) <;> simp
@[simp] theorem modeStandardize_store (s : State) (st : Station) (tag : Byte) : (s.modeStandardize st tag).store = s.store := by
  simp only [State.modeStandardize] <;> (repeat' split) <;> simp
@[simp] theorem modePoint_store (s : State) (st : Station) (tag : Byte) (pos : Nat) : (s.modePoint st tag pos).store = s.store := by
  simp only [State.modePoint] <;> (repeat' split) <;> simp
@[simp] theorem serveClearFault_store (s : State) (st : Station) (tag : Byte) : (s.serveClearFault st tag).store = s.store := by
  simp only [State.serveClearFault] <;> (repeat' split) <;> simp
@[simp] theorem serveResume_store (s : State) (st : Station) (tag : Byte) : (s.serveResume st tag).store = s.store := by
  simp only [State.serveResume] <;> (repeat' split) <;> simp
@[simp] theorem takeCountReply_store (s : State) (st : Station) (tag : Byte) (m : HoleMode) : (s.takeCountReply st tag m).store = s.store := by
  simp only [State.takeCountReply] <;> (repeat' split) <;> simp
@[simp] theorem serveTakeCount_store (s : State) (st : Station) (tag : Byte) : (s.serveTakeCount st tag).store = s.store := by
  simp only [State.serveTakeCount] <;> (repeat' split) <;> simp
@[simp] theorem serveRestart_store (s : State) (st : Station) (tag : Byte) : (s.serveRestart st tag).store = s.store := by
  simp only [State.serveRestart] <;> (repeat' split) <;> simp
@[simp] theorem serveRecipeRead_store (s : State) (st : Station) (tag : Byte) (p : List Byte) : (s.serveRecipeRead st tag p).store = s.store := by
  simp only [State.serveRecipeRead] <;> (repeat' split) <;> simp
@[simp] theorem selectReply_store (s : State) (st : Station) (tag : Byte) (t : Timing) : (s.selectReply st tag t).store = s.store := by
  simp only [State.selectReply] <;> (repeat' split) <;> simp
@[simp] theorem handMachine_store (s : State) (old : MachineRecord) : (s.handMachine old).store = s.store := by
  simp only [State.handMachine] <;> (repeat' split) <;> simp
@[simp] theorem machineReply_store (s : State) (st : Station) (k : RequestKind) (tag : Byte) (c : Status) : (s.machineReply st k tag c).store = s.store := by
  simp only [State.machineReply] <;> (repeat' split) <;> simp
@[simp] theorem serveMachineRead_store (s : State) (st : Station) (tag : Byte) : (s.serveMachineRead st tag).store = s.store := by
  simp only [State.serveMachineRead] <;> (repeat' split) <;> simp
@[simp] theorem serveSubscribe_store (s : State) (st : Station) (tag : Byte) (p : List Byte) : (s.serveSubscribe st tag p).store = s.store := by
  simp only [State.serveSubscribe] <;> (repeat' split) <;> simp
@[simp] theorem answerUnknown_store (s : State) (st : Station) (tag : Byte) : (s.answerUnknown st tag).store = s.store := by
  simp only [State.answerUnknown] <;> (repeat' split) <;> simp
@[simp] theorem absence_store (s : State) (st : Station) : (s.absence st).store = s.store := by
  simp only [State.absence] <;> (repeat' split) <;> simp
@[simp] theorem transmitted_store (s : State) (st : Station) : (s.transmitted st).store = s.store := by
  simp only [State.transmitted] <;> (repeat' split) <;> simp

/-! ### What leaves the speed unit alone -/

@[simp] theorem onPort_speed (s : State) (st : Station) (f : Port → Port) : (s.onPort st f).speed = s.speed := by
  simp only [State.onPort] <;> (repeat' split) <;> simp
@[simp] theorem startBit_speed (s : State) (st : Station) : (s.startBit st).speed = s.speed := by
  simp only [State.startBit] <;> (repeat' split) <;> simp
@[simp] theorem onPorts_speed (s : State) (f : Port → Port) : (s.onPorts f).speed = s.speed := by
  simp only [State.onPorts] <;> (repeat' split) <;> simp
@[simp] theorem reply_speed (s : State) (st : Station) (k : RequestKind) (tag : Byte) (b : ReplyBody) : (s.reply st k tag b).speed = s.speed := by
  simp only [State.reply] <;> (repeat' split) <;> simp
@[simp] theorem offer_speed (s : State) (n : Notice) : (s.offer n).speed = s.speed := by
  simp only [State.offer] <;> (repeat' split) <;> simp
@[simp] theorem settle_speed (s : State) : (s.settle).speed = s.speed := by
  simp only [State.settle] <;> (repeat' split) <;> simp
@[simp] theorem serveScan_speed (s : State) (st : Station) (tag : Byte) (q : ScanQuery) (i : Nat) : (s.serveScan st tag q i).speed = s.speed := by
  simp only [State.serveScan] <;> (repeat' split) <;> simp
@[simp] theorem endPending_speed (s : State) (st : Station) (b : ReplyBody) : (s.endPending st b).speed = s.speed := by
  simp only [State.endPending] <;> (repeat' split) <;> simp
@[simp] theorem endPendingByBreak_speed (s : State) : (s.endPendingByBreak).speed = s.speed := by
  simp only [State.endPendingByBreak] <;> (repeat' split) <;> simp
@[simp] theorem servePending_speed (s : State) (i : Nat) (st : Station) : (s.servePending i st).speed = s.speed := by
  simp only [State.servePending] <;> (repeat' split) <;> simp
@[simp] theorem serveAllPending_speed (s : State) (i : Nat) : (s.serveAllPending i).speed = s.speed := by
  simp only [State.serveAllPending] <;> (repeat' split) <;> simp
@[simp] theorem endStretch_speed (s : State) : (s.endStretch).speed = s.speed := by
  simp only [State.endStretch] <;> (repeat' split) <;> simp
@[simp] theorem stopAssessment_speed (s : State) : (s.stopAssessment).speed = s.speed := by
  simp only [State.stopAssessment] <;> (repeat' split) <;> simp
@[simp] theorem absentTake_speed (s : State) (x : Sample) : (s.absentTake x).speed = s.speed := by
  simp only [State.absentTake] <;> (repeat' split) <;> simp
@[simp] theorem absentNextWindow_speed (s : State) : (s.absentNextWindow).speed = s.speed := by
  simp only [State.absentNextWindow] <;> (repeat' split) <;> simp
@[simp] theorem holeTake_speed (s : State) (x : Sample) : (s.holeTake x).speed = s.speed := by
  simp only [State.holeTake] <;> (repeat' split) <;> simp
@[simp] theorem holeTransfer_speed (s : State) (src : ReportSource) : (s.holeTransfer src).speed = s.speed := by
  simp only [State.holeTransfer] <;> (repeat' split) <;> simp
@[simp] theorem updateEdges_speed (s : State) (e : EdgeTracker) : (s.updateEdges e).speed = s.speed := by
  simp only [State.updateEdges] <;> (repeat' split) <;> simp
@[simp] theorem edgeTake_speed (s : State) (x : Sample) : (s.edgeTake x).speed = s.speed := by
  simp only [State.edgeTake] <;> (repeat' split) <;> simp
@[simp] theorem binTake_speed (s : State) (x : Sample) : (s.binTake x).speed = s.speed := by
  simp only [State.binTake] <;> (repeat' split) <;> simp
@[simp] theorem profileRestart_speed (s : State) : (s.profileRestart).speed = s.speed := by
  simp only [State.profileRestart] <;> (repeat' split) <;> simp
@[simp] theorem clearContinuity_speed (s : State) : (s.clearContinuity).speed = s.speed := by
  simp only [State.clearContinuity] <;> (repeat' split) <;> simp
@[simp] theorem deferredAtAbort_speed (s : State) : (s.deferredAtAbort).speed = s.speed := by
  simp only [State.deferredAtAbort] <;> (repeat' split) <;> simp
@[simp] theorem profileActivation_speed (s : State) (l : Layout) : (s.profileActivation l).speed = s.speed := by
  simp only [State.profileActivation] <;> (repeat' split) <;> simp
@[simp] theorem adopt_speed (s : State) : (s.adopt).speed = s.speed := by
  simp only [State.adopt] <;> (repeat' split) <;> simp
@[simp] theorem dropPendingSet_speed (s : State) : (s.dropPendingSet).speed = s.speed := by
  simp only [State.dropPendingSet] <;> (repeat' split) <;> simp
@[simp] theorem startRecord_speed (s : State) (dir : ScanDir) : (s.startRecord dir).speed = s.speed := by
  simp only [State.startRecord] <;> (repeat' split) <;> simp
@[simp] theorem voidRecord_speed (s : State) : (s.voidRecord).speed = s.speed := by
  simp only [State.voidRecord] <;> (repeat' split) <;> simp
@[simp] theorem markLinkGaps_speed (s : State) : (s.markLinkGaps).speed = s.speed := by
  simp only [State.markLinkGaps] <;> (repeat' split) <;> simp
@[simp] theorem markTachHeld_speed (s : State) : (s.markTachHeld).speed = s.speed := by
  simp only [State.markTachHeld] <;> (repeat' split) <;> simp
@[simp] theorem closeAt_speed (s : State) (i : Nat) : (s.closeAt i).speed = s.speed := by
  simp only [State.closeAt] <;> (repeat' split) <;> simp
@[simp] theorem startPeriod_speed (s : State) : (s.startPeriod).speed = s.speed := by
  simp only [State.startPeriod] <;> (repeat' split) <;> simp
@[simp] theorem dropPeriod_speed (s : State) : (s.dropPeriod).speed = s.speed := by
  simp only [State.dropPeriod] <;> (repeat' split) <;> simp
@[simp] theorem periodSlot_speed (s : State) : (s.periodSlot).speed = s.speed := by
  simp only [State.periodSlot] <;> (repeat' split) <;> simp
@[simp] theorem pointTake_speed (s : State) (x : Sample) : (s.pointTake x).speed = s.speed := by
  simp only [State.pointTake] <;> (repeat' split) <;> simp
@[simp] theorem recordPeriod_speed (s : State) (p : PointPeriod) : (s.recordPeriod p).speed = s.speed := by
  simp only [State.recordPeriod] <;> (repeat' split) <;> simp
@[simp] theorem raise_speed (s : State) (c : HeadCommand) : (s.raise c).speed = s.speed := by
  simp only [State.raise] <;> (repeat' split) <;> simp
@[simp] theorem consumeStd_speed (s : State) : (s.consumeStd).speed = s.speed := by
  simp only [State.consumeStd] <;> (repeat' split) <;> simp
@[simp] theorem stdNotice_speed (s : State) : (s.stdNotice).speed = s.speed := by
  simp only [State.stdNotice] <;> (repeat' split) <;> simp
@[simp] theorem stdCommit_speed (s : State) : (s.stdCommit).speed = s.speed := by
  simp only [State.stdCommit] <;> (repeat' split) <;> simp
@[simp] theorem stdFail_speed (s : State) : (s.stdFail).speed = s.speed := by
  simp only [State.stdFail] <;> (repeat' split) <;> simp
@[simp] theorem stdNoRecord_speed (s : State) : (s.stdNoRecord).speed = s.speed := by
  simp only [State.stdNoRecord] <;> (repeat' split) <;> simp
@[simp] theorem abortRefOut_speed (s : State) : (s.abortRefOut).speed = s.speed := by
  simp only [State.abortRefOut] <;> (repeat' split) <;> simp
@[simp] theorem stdAbort_speed (s : State) : (s.stdAbort).speed = s.speed := by
  simp only [State.stdAbort] <;> (repeat' split) <;> simp
@[simp] theorem enterReference_speed (s : State) : (s.enterReference).speed = s.speed := by
  simp only [State.enterReference] <;> (repeat' split) <;> simp
@[simp] theorem enterWithdraw_speed (s : State) : (s.enterWithdraw).speed = s.speed := by
  simp only [State.enterWithdraw] <;> (repeat' split) <;> simp
@[simp] theorem zeroEnd_speed (s : State) : (s.zeroEnd).speed = s.speed := by
  simp only [State.zeroEnd] <;> (repeat' split) <;> simp
@[simp] theorem referenceEnd_speed (s : State) : (s.referenceEnd).speed = s.speed := by
  simp only [State.referenceEnd] <;> (repeat' split) <;> simp
@[simp] theorem collectionSlot_speed (s : State) (raw : Option RawSample) : (s.collectionSlot raw).speed = s.speed := by
  simp only [State.collectionSlot] <;> (repeat' split) <;> simp
@[simp] theorem tileSeen_speed (s : State) : (s.tileSeen).speed = s.speed := by
  simp only [State.tileSeen] <;> (repeat' split) <;> simp
@[simp] theorem tileExpired_speed (s : State) : (s.tileExpired).speed = s.speed := by
  simp only [State.tileExpired] <;> (repeat' split) <;> simp
@[simp] theorem stuckTile_speed (s : State) : (s.stuckTile).speed = s.speed := by
  simp only [State.stuckTile] <;> (repeat' split) <;> simp
@[simp] theorem toHead_speed (s : State) (h : HeadState) : (s.toHead h).speed = s.speed := by
  simp only [State.toHead] <;> (repeat' split) <;> simp
@[simp] theorem headNotice_speed (s : State) : (s.headNotice).speed = s.speed := by
  simp only [State.headNotice] <;> (repeat' split) <;> simp
@[simp] theorem grantTo_speed (s : State) (g : Grant) : (s.grantTo g).speed = s.speed := by
  simp only [State.grantTo] <;> (repeat' split) <;> simp
@[simp] theorem driveOff_speed (s : State) : (s.driveOff).speed = s.speed := by
  simp only [State.driveOff] <;> (repeat' split) <;> simp
@[simp] theorem drive_speed (s : State) (d : Bool) (n : Nat) : (s.drive d n).speed = s.speed := by
  simp only [State.drive] <;> (repeat' split) <;> simp
@[simp] theorem startScan_speed (s : State) (dir : ScanDir) (a : Bool) : (s.startScan dir a).speed = s.speed := by
  simp only [State.startScan] <;> (repeat' split) <;> simp
@[simp] theorem enterHead_speed (s : State) (h : HeadState) (g : Grant) : (s.enterHead h g).speed = s.speed := by
  simp only [State.enterHead] <;> (repeat' split) <;> simp
@[simp] theorem arriveApproach_speed (s : State) : (s.arriveApproach).speed = s.speed := by
  simp only [State.arriveApproach] <;> (repeat' split) <;> simp
@[simp] theorem arrivePoint_speed (s : State) : (s.arrivePoint).speed = s.speed := by
  simp only [State.arrivePoint] <;> (repeat' split) <;> simp
@[simp] theorem faultStill_speed (s : State) (c : FaultCause) : (s.faultStill c).speed = s.speed := by
  simp only [State.faultEntryWith, State.scanAbortWith, State.faultStill] <;> (repeat' split) <;> simp
@[simp] theorem beginApproach_speed (s : State) (g : Grant) : (s.beginApproach g).speed = s.speed := by
  simp only [State.beginApproach] <;> (repeat' split) <;> simp
@[simp] theorem beginPositioning_speed (s : State) (st : Station) (p : Nat) : (s.beginPositioning st p).speed = s.speed := by
  simp only [State.beginPositioning] <;> (repeat' split) <;> simp
@[simp] theorem stayParked_speed (s : State) (g : Grant) : (s.stayParked g).speed = s.speed := by
  simp only [State.stayParked] <;> (repeat' split) <;> simp
@[simp] theorem decideParkedOther_speed (s : State) (g : Grant) : (s.decideParkedOther g).speed = s.speed := by
  simp only [State.decideParkedOther] <;> (repeat' split) <;> simp
@[simp] theorem startStd_speed (s : State) : (s.startStd).speed = s.speed := by
  simp only [State.startStd] <;> (repeat' split) <;> simp
@[simp] theorem decideParked_speed (s : State) : (s.decideParked).speed = s.speed := by
  simp only [State.decideParked] <;> (repeat' split) <;> simp
@[simp] theorem redecideIfParked_speed (s : State) : (s.redecideIfParked).speed = s.speed := by
  simp only [State.redecideIfParked] <;> (repeat' split) <;> simp
@[simp] theorem stdEnded_speed (s : State) : (s.stdEnded).speed = s.speed := by
  simp only [State.stdEnded] <;> (repeat' split) <;> simp
@[simp] theorem arriveParked_speed (s : State) : (s.arriveParked).speed = s.speed := by
  simp only [State.arriveParked] <;> (repeat' split) <;> simp
@[simp] theorem beginReturning_speed (s : State) (g : Grant) : (s.beginReturning g).speed = s.speed := by
  simp only [State.beginReturning] <;> (repeat' split) <;> simp
@[simp] theorem stdAtCompletion_speed (s : State) (dir : ScanDir) (a : Bool) : (s.stdAtCompletion dir a).speed = s.speed := by
  simp only [State.stdAtCompletion] <;> (repeat' split) <;> simp
@[simp] theorem scanAtCompletion_speed (s : State) (dir : ScanDir) (a : Bool) : (s.scanAtCompletion dir a).speed = s.speed := by
  simp only [State.scanAtCompletion] <;> (repeat' split) <;> simp
@[simp] theorem decideCompletion_speed (s : State) (dir : ScanDir) (a : Bool) : (s.decideCompletion dir a).speed = s.speed := by
  simp only [State.decideCompletion] <;> (repeat' split) <;> simp
@[simp] theorem decidePeriodEnd_speed (s : State) : (s.decidePeriodEnd).speed = s.speed := by
  simp only [State.decidePeriodEnd] <;> (repeat' split) <;> simp
@[simp] theorem beginSearch_speed (s : State) : (s.beginSearch).speed = s.speed := by
  simp only [State.beginSearch] <;> (repeat' split) <;> simp
@[simp] theorem homingBegun_speed (s : State) : (s.homingBegun).speed = s.speed := by
  simp only [State.homingBegun] <;> (repeat' split) <;> simp
@[simp] theorem enterHoming_speed (s : State) : (s.enterHoming).speed = s.speed := by
  simp only [State.enterHoming] <;> (repeat' split) <;> simp
@[simp] theorem indexFound_speed (s : State) : (s.indexFound).speed = s.speed := by
  simp only [State.indexFound] <;> (repeat' split) <;> simp
@[simp] theorem scanAbortWith_speed (act : State → State) (h : ∀ s, (act s).speed = s.speed) (s : State) : (s.scanAbortWith act).speed = s.speed := by
  simp only [State.scanAbortWith] <;> (repeat' split) <;> simp [h]
@[simp] theorem faultEntryWith_speed (act : State → State) (c : FaultCause) (h : ∀ s, (act s).speed = s.speed) (s : State) : (s.faultEntryWith act c).speed = s.speed := by
  simp only [State.faultEntryWith] <;> (repeat' split) <;> simp [h]
@[simp] theorem claimTakesEffectWith_speed (act : State → State) (h : ∀ s, (act s).speed = s.speed) (s : State) : (s.claimTakesEffectWith act).speed = s.speed := by
  simp only [State.claimTakesEffectWith] <;> (repeat' split) <;> simp [h]
@[simp] theorem breakNotice_speed (s : State) : (s.breakNotice).speed = s.speed := by
  simp only [State.breakNotice] <;> (repeat' split) <;> simp
@[simp] theorem recoveringEntry_speed (s : State) : (s.recoveringEntry).speed = s.speed := by
  simp only [State.recoveringEntry] <;> (repeat' split) <;> simp
@[simp] theorem threadingExpiry_speed (s : State) : (s.threadingExpiry).speed = s.speed := by
  simp only [State.threadingExpiry] <;> (repeat' split) <;> simp
@[simp] theorem threadingEntry_speed (s : State) : (s.threadingEntry).speed = s.speed := by
  simp only [State.threadingEntry] <;> (repeat' split) <;> simp
@[simp] theorem judgeThreading_speed (s : State) : (s.judgeThreading).speed = s.speed := by
  simp only [State.judgeThreading] <;> (repeat' split) <;> simp
@[simp] theorem breakEntryWith_speed (act : State → State) (x : Bool) (h : ∀ s, (act s).speed = s.speed) (s : State) : (s.breakEntryWith act x).speed = s.speed := by
  simp only [State.breakEntryWith] <;> (repeat' split) <;> simp [h]
@[simp] theorem addCauses_speed (s : State) (t : PerDetector Bool) : (s.addCauses t).speed = s.speed := by
  simp only [State.addCauses] <;> (repeat' split) <;> simp
@[simp] theorem judgeDetectorsWith_speed (entry : State → State) (t c : PerDetector Bool) (h : ∀ s, (entry s).speed = s.speed) (s : State) : (s.judgeDetectorsWith entry t c).speed = s.speed := by
  simp only [State.judgeDetectorsWith] <;> (repeat' split) <;> simp [h]
@[simp] theorem judgeActivationWith_speed (entry : State → State) (t c : PerDetector Bool) (h : ∀ s, (entry s).speed = s.speed) (s : State) : (s.judgeActivationWith entry t c).speed = s.speed := by
  simp only [State.judgeActivationWith] <;> (repeat' split) <;> simp [h]
@[simp] theorem judgeInEntry_speed (s : State) (t c : PerDetector Bool) : (s.judgeInEntry t c).speed = s.speed := by
  simp only [State.judgeInEntry] <;> (repeat' split) <;> simp
@[simp] theorem clearLimits_speed (s : State) : (s.clearLimits).speed = s.speed := by
  simp only [State.clearLimits] <;> (repeat' split) <;> simp
@[simp] theorem recipeNotice_speed (s : State) (c : RecipeCause) : (s.recipeNotice c).speed = s.speed := by
  simp only [State.recipeNotice] <;> (repeat' split) <;> simp
@[simp] theorem reaim_speed (s : State) : (s.reaim).speed = s.speed := by
  simp only [State.reaim] <;> (repeat' split) <;> simp
@[simp] theorem activateWith_speed (judge : PerDetector Bool → PerDetector Bool → State → State) (i : SlotNo) (h : ∀ a b s, (judge a b s).speed = s.speed) (s : State) : (s.activateWith judge i).speed = s.speed := by
  simp only [State.activateWith] <;> (repeat' split) <;> simp [h]
@[simp] theorem activate_speed (s : State) (i : SlotNo) : (s.activate i).speed = s.speed :=
  activateWith_speed _ i (fun t c s => judgeActivationWith_speed _ t c (breakEntryWith_speed id false (fun _ => rfl)) s) s
@[simp] theorem activatePending_speed (s : State) : (s.activatePending).speed = s.speed := by
  simp only [State.activatePending] <;> (repeat' split) <;> simp
@[simp] theorem activateInEntry_speed (s : State) : (s.activateInEntry).speed = s.speed := by
  simp only [State.activateInEntry] <;> (repeat' split) <;> simp
@[simp] theorem breakEntry_speed (s : State) (x : Bool) : (s.breakEntry x).speed = s.speed := by
  simp only [State.breakEntry] <;> (repeat' split) <;> simp
@[simp] theorem faultEntry_speed (s : State) (c : FaultCause) : (s.faultEntry c).speed = s.speed := by
  simp only [State.faultEntry] <;> (repeat' split) <;> simp
@[simp] theorem parkTakesEffect_speed (s : State) : (s.parkTakesEffect).speed = s.speed := by
  simp only [State.parkTakesEffect] <;> (repeat' split) <;> simp
@[simp] theorem judgeDetectors_speed (s : State) (t c : PerDetector Bool) : (s.judgeDetectors t c).speed = s.speed := by
  simp only [State.judgeDetectors] <;> (repeat' split) <;> simp
@[simp] theorem faultUnlessFaulted_speed (s : State) (c : FaultCause) : (s.faultUnlessFaulted c).speed = s.speed := by
  simp only [State.faultUnlessFaulted] <;> (repeat' split) <;> simp
@[simp] theorem completeEdges_speed (s : State) (e : Option Edges) : (s.completeEdges e).speed = s.speed := by
  simp only [State.completeEdges] <;> (repeat' split) <;> simp
@[simp] theorem closeFilling_speed (s : State) : (s.closeFilling).speed = s.speed := by
  simp only [State.closeFilling] <;> (repeat' split) <;> simp
@[simp] theorem completeRecord_speed (s : State) (dir : ScanDir) : (s.completeRecord dir).speed = s.speed := by
  simp only [State.completeRecord] <;> (repeat' split) <;> simp
@[simp] theorem completeStd_speed (s : State) : (s.completeStd).speed = s.speed := by
  simp only [State.completeStd] <;> (repeat' split) <;> simp
@[simp] theorem completeRecovery_speed (s : State) : (s.completeRecovery).speed = s.speed := by
  simp only [State.completeRecovery] <;> (repeat' split) <;> simp
@[simp] theorem evaluateLimits_speed (s : State) (r : ScanRecord) : (s.evaluateLimits r).speed = s.speed := by
  simp only [State.evaluateLimits] <;> (repeat' split) <;> simp
@[simp] theorem reportHoles_speed (s : State) (src : ReportSource) : (s.reportHoles src).speed = s.speed := by
  simp only [State.reportHoles] <;> (repeat' split) <;> simp
@[simp] theorem completeHoles_speed (s : State) : (s.completeHoles).speed = s.speed := by
  simp only [State.completeHoles] <;> (repeat' split) <;> simp
@[simp] theorem completeLimits_speed (s : State) : (s.completeLimits).speed = s.speed := by
  simp only [State.completeLimits] <;> (repeat' split) <;> simp
@[simp] theorem completeScan_speed (s : State) (dir : ScanDir) : (s.completeScan dir).speed = s.speed := by
  simp only [State.completeScan] <;> (repeat' split) <;> simp
@[simp] theorem handOn_speed (s : State) (x : Sample) : (s.handOn x).speed = s.speed := by
  simp only [State.handOn] <;> (repeat' split) <;> simp
@[simp] theorem absentWindowEnd_speed (s : State) : (s.absentWindowEnd).speed = s.speed := by
  simp only [State.absentWindowEnd] <;> (repeat' split) <;> simp
@[simp] theorem withdrawEnd_speed (s : State) : (s.withdrawEnd).speed = s.speed := by
  simp only [State.withdrawEnd] <;> (repeat' split) <;> simp
@[simp] theorem stdSlot_speed (s : State) (raw : Option RawSample) : (s.stdSlot raw).speed = s.speed := by
  simp only [State.stdSlot] <;> (repeat' split) <;> simp
@[simp] theorem linkLost_speed (s : State) : (s.linkLost).speed = s.speed := by
  simp only [State.linkLost] <;> (repeat' split) <;> simp
@[simp] theorem linkWindowEnd_speed (s : State) : (s.linkWindowEnd).speed = s.speed := by
  simp only [State.linkWindowEnd] <;> (repeat' split) <;> simp
@[simp] theorem pointPeriodEnd_speed (s : State) : (s.pointPeriodEnd).speed = s.speed := by
  simp only [State.pointPeriodEnd] <;> (repeat' split) <;> simp
@[simp] theorem takeSample_speed (s : State) (t : Option SampleTelegram) : (s.takeSample t).speed = s.speed := by
  simp only [State.takeSample] <;> (repeat' split) <;> simp
@[simp] theorem declareSlot_speed (s : State) (d : SlotDecl) : (s.declareSlot d).speed = s.speed := by
  simp only [State.declareSlot] <;> (repeat' split) <;> simp
@[simp] theorem debounceExpiry_speed (s : State) (d : Detector) : (s.debounceExpiry d).speed = s.speed := by
  simp only [State.debounceExpiry] <;> (repeat' split) <;> simp
@[simp] theorem levelChange_speed (s : State) (d : Detector) (h : Bool) : (s.levelChange d h).speed = s.speed := by
  simp only [State.levelChange] <;> (repeat' split) <;> simp
@[simp] theorem serveStatus_speed (s : State) (st : Station) (tag : Byte) : (s.serveStatus st tag).speed = s.speed := by
  simp only [State.serveStatus] <;> (repeat' split) <;> simp
@[simp] theorem answer_speed (s : State) (st : Station) (k : RequestKind) (tag : Byte) (c : Status) : (s.answer st k tag c).speed = s.speed := by
  simp only [State.answer] <;> (repeat' split) <;> simp
@[simp] theorem serveFound_speed (s : State) (st : Station) (tag : Byte) (q : ScanQuery) (i : Option Nat) : (s.serveFound st tag q i).speed = s.speed := by
  simp only [State.serveFound] <;> (repeat' split) <;> simp
@[simp] theorem makePending_speed (s : State) (st : Station) (tag : Byte) (q : ScanQuery) (m : BitVec 16) (wait : Nat) : (s.makePending st tag q m wait).speed = s.speed := by
  simp only [State.makePending] <;> (repeat' split) <;> simp
@[simp] theorem serveMinimum_speed (s : State) (st : Station) (tag : Byte) (q : ScanQuery) (m : BitVec 16) (wait : Nat) : (s.serveMinimum st tag q m wait).speed = s.speed := by
  simp only [State.serveMinimum] <;> (repeat' split) <;> simp
@[simp] theorem serveReadScan_speed (s : State) (st : Station) (tag : Byte) (p : List Byte) : (s.serveReadScan st tag p).speed = s.speed := by
  simp only [State.serveReadScan] <;> (repeat' split) <;> simp
@[simp] theorem serveReadTrend_speed (s : State) (st : Station) (tag : Byte) : (s.serveReadTrend st tag).speed = s.speed := by
  simp only [State.serveReadTrend] <;> (repeat' split) <;> simp
@[simp] theorem serveReadPoints_speed (s : State) (st : Station) (tag : Byte) (p : List Byte) : (s.serveReadPoints st tag p).speed = s.speed := by
  simp only [State.serveReadPoints] <;> (repeat' split) <;> simp
@[simp] theorem serveReadStandardization_speed (s : State) (st : Station) (tag : Byte) : (s.serveReadStandardization st tag).speed = s.speed := by
  simp only [State.serveReadStandardization] <;> (repeat' split) <;> simp
@[simp] theorem serveCancel_speed (s : State) (st : Station) (tag : Byte) : (s.serveCancel st tag).speed = s.speed := by
  simp only [State.serveCancel] <;> (repeat' split) <;> simp
@[simp] theorem setSlot_speed (s : State) (st : Station) (m : ModeSlot) : (s.setSlot st m).speed = s.speed := by
  simp only [State.setSlot] <;> (repeat' split) <;> simp
@[simp] theorem modeReply_speed (s : State) (st : Station) (tag : Byte) (c : Status) : (s.modeReply st tag c).speed = s.speed := by
  simp only [State.modeReply] <;> (repeat' split) <;> simp
@[simp] theorem modeRelease_speed (s : State) (st : Station) (tag : Byte) : (s.modeRelease st tag).speed = s.speed := by
  simp only [State.modeRelease] <;> (repeat' split) <;> simp
@[simp] theorem modePark_speed (s : State) (st : Station) (tag : Byte) : (s.modePark st tag).speed = s.speed := by
  simp only [State.modePark] <;> (repeat' split) <;> simp
@[simp] theorem modeStandardize_speed (s : State) (st : Station) (tag : Byte) : (s.modeStandardize st tag).speed = s.speed := by
  simp only [State.modeStandardize] <;> (repeat' split) <;> simp
@[simp] theorem modePoint_speed (s : State) (st : Station) (tag : Byte) (pos : Nat) : (s.modePoint st tag pos).speed = s.speed := by
  simp only [State.modePoint] <;> (repeat' split) <;> simp
@[simp] theorem serveMode_speed (s : State) (st : Station) (tag : Byte) (p : List Byte) : (s.serveMode st tag p).speed = s.speed := by
  simp only [State.serveMode] <;> (repeat' split) <;> simp
@[simp] theorem serveClearFault_speed (s : State) (st : Station) (tag : Byte) : (s.serveClearFault st tag).speed = s.speed := by
  simp only [State.serveClearFault] <;> (repeat' split) <;> simp
@[simp] theorem serveResume_speed (s : State) (st : Station) (tag : Byte) : (s.serveResume st tag).speed = s.speed := by
  simp only [State.serveResume] <;> (repeat' split) <;> simp
@[simp] theorem takeCountReply_speed (s : State) (st : Station) (tag : Byte) (m : HoleMode) : (s.takeCountReply st tag m).speed = s.speed := by
  simp only [State.takeCountReply] <;> (repeat' split) <;> simp
@[simp] theorem serveTakeCount_speed (s : State) (st : Station) (tag : Byte) : (s.serveTakeCount st tag).speed = s.speed := by
  simp only [State.serveTakeCount] <;> (repeat' split) <;> simp
@[simp] theorem serveRestart_speed (s : State) (st : Station) (tag : Byte) : (s.serveRestart st tag).speed = s.speed := by
  simp only [State.serveRestart] <;> (repeat' split) <;> simp
@[simp] theorem writeRecipe_speed (s : State) (st : Station) (tag : Byte) (p : List Byte) (i : SlotNo) (g : Group) : (s.writeRecipe st tag p i g).speed = s.speed := by
  simp only [State.writeRecipe] <;> (repeat' split) <;> simp
@[simp] theorem serveRecipeWrite_speed (s : State) (st : Station) (tag : Byte) (p : List Byte) : (s.serveRecipeWrite st tag p).speed = s.speed := by
  simp only [State.serveRecipeWrite] <;> (repeat' split) <;> simp
@[simp] theorem serveRecipeRead_speed (s : State) (st : Station) (tag : Byte) (p : List Byte) : (s.serveRecipeRead st tag p).speed = s.speed := by
  simp only [State.serveRecipeRead] <;> (repeat' split) <;> simp
@[simp] theorem validateSlot_speed (s : State) (st : Station) (tag : Byte) (i : SlotNo) : (s.validateSlot st tag i).speed = s.speed := by
  simp only [State.validateSlot] <;> (repeat' split) <;> simp
@[simp] theorem serveValidate_speed (s : State) (st : Station) (tag : Byte) (p : List Byte) : (s.serveValidate st tag p).speed = s.speed := by
  simp only [State.serveValidate] <;> (repeat' split) <;> simp
@[simp] theorem selectReply_speed (s : State) (st : Station) (tag : Byte) (t : Timing) : (s.selectReply st tag t).speed = s.speed := by
  simp only [State.selectReply] <;> (repeat' split) <;> simp
@[simp] theorem selectSlot_speed (s : State) (st : Station) (tag : Byte) (i : SlotNo) : (s.selectSlot st tag i).speed = s.speed := by
  simp only [State.selectSlot] <;> (repeat' split) <;> simp
@[simp] theorem serveSelect_speed (s : State) (st : Station) (tag : Byte) (p : List Byte) : (s.serveSelect st tag p).speed = s.speed := by
  simp only [State.serveSelect] <;> (repeat' split) <;> simp
@[simp] theorem machineReply_speed (s : State) (st : Station) (k : RequestKind) (tag : Byte) (c : Status) : (s.machineReply st k tag c).speed = s.speed := by
  simp only [State.machineReply] <;> (repeat' split) <;> simp
@[simp] theorem serveMachineRead_speed (s : State) (st : Station) (tag : Byte) : (s.serveMachineRead st tag).speed = s.speed := by
  simp only [State.serveMachineRead] <;> (repeat' split) <;> simp
@[simp] theorem serveSubscribe_speed (s : State) (st : Station) (tag : Byte) (p : List Byte) : (s.serveSubscribe st tag p).speed = s.speed := by
  simp only [State.serveSubscribe] <;> (repeat' split) <;> simp
@[simp] theorem answerUnknown_speed (s : State) (st : Station) (tag : Byte) : (s.answerUnknown st tag).speed = s.speed := by
  simp only [State.answerUnknown] <;> (repeat' split) <;> simp
@[simp] theorem absence_speed (s : State) (st : Station) : (s.absence st).speed = s.speed := by
  simp only [State.absence] <;> (repeat' split) <;> simp
@[simp] theorem transmitted_speed (s : State) (st : Station) : (s.transmitted st).speed = s.speed := by
  simp only [State.transmitted] <;> (repeat' split) <;> simp
@[simp] theorem storeHeadChar_speed (s : State) (cs : List Byte) (b : Byte) : (s.storeHeadChar cs b).speed = s.speed := by
  simp only [State.setHeadRx, State.storeHeadChar] <;> (repeat' split) <;> simp
@[simp] theorem takeHeadChar_speed (s : State) (c : Character) : (s.takeHeadChar c).speed = s.speed := by
  simp only [State.setHeadRx, State.takeHeadChar] <;> (repeat' split) <;> simp
@[simp] theorem arrival_speed (s : State) : (s.arrival).speed = s.speed := by
  simp only [State.arrival] <;> (repeat' split) <;> simp

/-! ### What leaves the limit checker alone -/

@[simp] theorem onPort_limits (s : State) (st : Station) (f : Port → Port) : (s.onPort st f).limits = s.limits := by
  simp only [State.onPort] <;> (repeat' split) <;> simp
@[simp] theorem startBit_limits (s : State) (st : Station) : (s.startBit st).limits = s.limits := by
  simp only [State.startBit] <;> (repeat' split) <;> simp
@[simp] theorem onPorts_limits (s : State) (f : Port → Port) : (s.onPorts f).limits = s.limits := by
  simp only [State.onPorts] <;> (repeat' split) <;> simp
@[simp] theorem reply_limits (s : State) (st : Station) (k : RequestKind) (tag : Byte) (b : ReplyBody) : (s.reply st k tag b).limits = s.limits := by
  simp only [State.reply] <;> (repeat' split) <;> simp
@[simp] theorem offer_limits (s : State) (n : Notice) : (s.offer n).limits = s.limits := by
  simp only [State.offer] <;> (repeat' split) <;> simp
@[simp] theorem settle_limits (s : State) : (s.settle).limits = s.limits := by
  simp only [State.settle] <;> (repeat' split) <;> simp
@[simp] theorem serveScan_limits (s : State) (st : Station) (tag : Byte) (q : ScanQuery) (i : Nat) : (s.serveScan st tag q i).limits = s.limits := by
  simp only [State.serveScan] <;> (repeat' split) <;> simp
@[simp] theorem endPending_limits (s : State) (st : Station) (b : ReplyBody) : (s.endPending st b).limits = s.limits := by
  simp only [State.endPending] <;> (repeat' split) <;> simp
@[simp] theorem endPendingByBreak_limits (s : State) : (s.endPendingByBreak).limits = s.limits := by
  simp only [State.endPendingByBreak] <;> (repeat' split) <;> simp
@[simp] theorem servePending_limits (s : State) (i : Nat) (st : Station) : (s.servePending i st).limits = s.limits := by
  simp only [State.servePending] <;> (repeat' split) <;> simp
@[simp] theorem serveAllPending_limits (s : State) (i : Nat) : (s.serveAllPending i).limits = s.limits := by
  simp only [State.serveAllPending] <;> (repeat' split) <;> simp
@[simp] theorem endStretch_limits (s : State) : (s.endStretch).limits = s.limits := by
  simp only [State.endStretch] <;> (repeat' split) <;> simp
@[simp] theorem stopAssessment_limits (s : State) : (s.stopAssessment).limits = s.limits := by
  simp only [State.stopAssessment] <;> (repeat' split) <;> simp
@[simp] theorem absentTake_limits (s : State) (x : Sample) : (s.absentTake x).limits = s.limits := by
  simp only [State.absentTake] <;> (repeat' split) <;> simp
@[simp] theorem absentNextWindow_limits (s : State) : (s.absentNextWindow).limits = s.limits := by
  simp only [State.absentNextWindow] <;> (repeat' split) <;> simp
@[simp] theorem holeTake_limits (s : State) (x : Sample) : (s.holeTake x).limits = s.limits := by
  simp only [State.holeTake] <;> (repeat' split) <;> simp
@[simp] theorem holeTransfer_limits (s : State) (src : ReportSource) : (s.holeTransfer src).limits = s.limits := by
  simp only [State.holeTransfer] <;> (repeat' split) <;> simp
@[simp] theorem updateEdges_limits (s : State) (e : EdgeTracker) : (s.updateEdges e).limits = s.limits := by
  simp only [State.updateEdges] <;> (repeat' split) <;> simp
@[simp] theorem edgeTake_limits (s : State) (x : Sample) : (s.edgeTake x).limits = s.limits := by
  simp only [State.edgeTake] <;> (repeat' split) <;> simp
@[simp] theorem binTake_limits (s : State) (x : Sample) : (s.binTake x).limits = s.limits := by
  simp only [State.binTake] <;> (repeat' split) <;> simp
@[simp] theorem profileRestart_limits (s : State) : (s.profileRestart).limits = s.limits := by
  simp only [State.profileRestart] <;> (repeat' split) <;> simp
@[simp] theorem clearContinuity_limits (s : State) : (s.clearContinuity).limits = s.limits := by
  simp only [State.clearContinuity] <;> (repeat' split) <;> simp
@[simp] theorem deferredAtAbort_limits (s : State) : (s.deferredAtAbort).limits = s.limits := by
  simp only [State.deferredAtAbort] <;> (repeat' split) <;> simp
@[simp] theorem profileActivation_limits (s : State) (l : Layout) : (s.profileActivation l).limits = s.limits := by
  simp only [State.profileActivation] <;> (repeat' split) <;> simp
@[simp] theorem adopt_limits (s : State) : (s.adopt).limits = s.limits := by
  simp only [State.adopt] <;> (repeat' split) <;> simp
@[simp] theorem dropPendingSet_limits (s : State) : (s.dropPendingSet).limits = s.limits := by
  simp only [State.dropPendingSet] <;> (repeat' split) <;> simp
@[simp] theorem startRecord_limits (s : State) (dir : ScanDir) : (s.startRecord dir).limits = s.limits := by
  simp only [State.startRecord] <;> (repeat' split) <;> simp
@[simp] theorem voidRecord_limits (s : State) : (s.voidRecord).limits = s.limits := by
  simp only [State.voidRecord] <;> (repeat' split) <;> simp
@[simp] theorem markLinkGaps_limits (s : State) : (s.markLinkGaps).limits = s.limits := by
  simp only [State.markLinkGaps] <;> (repeat' split) <;> simp
@[simp] theorem markTachHeld_limits (s : State) : (s.markTachHeld).limits = s.limits := by
  simp only [State.markTachHeld] <;> (repeat' split) <;> simp
@[simp] theorem closeAt_limits (s : State) (i : Nat) : (s.closeAt i).limits = s.limits := by
  simp only [State.closeAt] <;> (repeat' split) <;> simp
@[simp] theorem startPeriod_limits (s : State) : (s.startPeriod).limits = s.limits := by
  simp only [State.startPeriod] <;> (repeat' split) <;> simp
@[simp] theorem dropPeriod_limits (s : State) : (s.dropPeriod).limits = s.limits := by
  simp only [State.dropPeriod] <;> (repeat' split) <;> simp
@[simp] theorem periodSlot_limits (s : State) : (s.periodSlot).limits = s.limits := by
  simp only [State.periodSlot] <;> (repeat' split) <;> simp
@[simp] theorem pointTake_limits (s : State) (x : Sample) : (s.pointTake x).limits = s.limits := by
  simp only [State.pointTake] <;> (repeat' split) <;> simp
@[simp] theorem recordPeriod_limits (s : State) (p : PointPeriod) : (s.recordPeriod p).limits = s.limits := by
  simp only [State.recordPeriod] <;> (repeat' split) <;> simp
@[simp] theorem raise_limits (s : State) (c : HeadCommand) : (s.raise c).limits = s.limits := by
  simp only [State.raise] <;> (repeat' split) <;> simp
@[simp] theorem consumeStd_limits (s : State) : (s.consumeStd).limits = s.limits := by
  simp only [State.consumeStd] <;> (repeat' split) <;> simp
@[simp] theorem stdNotice_limits (s : State) : (s.stdNotice).limits = s.limits := by
  simp only [State.stdNotice] <;> (repeat' split) <;> simp
@[simp] theorem stdCommit_limits (s : State) : (s.stdCommit).limits = s.limits := by
  simp only [State.stdCommit] <;> (repeat' split) <;> simp
@[simp] theorem stdFail_limits (s : State) : (s.stdFail).limits = s.limits := by
  simp only [State.stdFail] <;> (repeat' split) <;> simp
@[simp] theorem stdNoRecord_limits (s : State) : (s.stdNoRecord).limits = s.limits := by
  simp only [State.stdNoRecord] <;> (repeat' split) <;> simp
@[simp] theorem abortRefOut_limits (s : State) : (s.abortRefOut).limits = s.limits := by
  simp only [State.abortRefOut] <;> (repeat' split) <;> simp
@[simp] theorem stdAbort_limits (s : State) : (s.stdAbort).limits = s.limits := by
  simp only [State.stdAbort] <;> (repeat' split) <;> simp
@[simp] theorem enterReference_limits (s : State) : (s.enterReference).limits = s.limits := by
  simp only [State.enterReference] <;> (repeat' split) <;> simp
@[simp] theorem enterWithdraw_limits (s : State) : (s.enterWithdraw).limits = s.limits := by
  simp only [State.enterWithdraw] <;> (repeat' split) <;> simp
@[simp] theorem zeroEnd_limits (s : State) : (s.zeroEnd).limits = s.limits := by
  simp only [State.zeroEnd] <;> (repeat' split) <;> simp
@[simp] theorem referenceEnd_limits (s : State) : (s.referenceEnd).limits = s.limits := by
  simp only [State.referenceEnd] <;> (repeat' split) <;> simp
@[simp] theorem collectionSlot_limits (s : State) (raw : Option RawSample) : (s.collectionSlot raw).limits = s.limits := by
  simp only [State.collectionSlot] <;> (repeat' split) <;> simp
@[simp] theorem tileSeen_limits (s : State) : (s.tileSeen).limits = s.limits := by
  simp only [State.tileSeen] <;> (repeat' split) <;> simp
@[simp] theorem tileExpired_limits (s : State) : (s.tileExpired).limits = s.limits := by
  simp only [State.tileExpired] <;> (repeat' split) <;> simp
@[simp] theorem stuckTile_limits (s : State) : (s.stuckTile).limits = s.limits := by
  simp only [State.stuckTile] <;> (repeat' split) <;> simp
@[simp] theorem toHead_limits (s : State) (h : HeadState) : (s.toHead h).limits = s.limits := by
  simp only [State.toHead] <;> (repeat' split) <;> simp
@[simp] theorem headNotice_limits (s : State) : (s.headNotice).limits = s.limits := by
  simp only [State.headNotice] <;> (repeat' split) <;> simp
@[simp] theorem grantTo_limits (s : State) (g : Grant) : (s.grantTo g).limits = s.limits := by
  simp only [State.grantTo] <;> (repeat' split) <;> simp
@[simp] theorem driveOff_limits (s : State) : (s.driveOff).limits = s.limits := by
  simp only [State.driveOff] <;> (repeat' split) <;> simp
@[simp] theorem drive_limits (s : State) (d : Bool) (n : Nat) : (s.drive d n).limits = s.limits := by
  simp only [State.drive] <;> (repeat' split) <;> simp
@[simp] theorem startScan_limits (s : State) (dir : ScanDir) (a : Bool) : (s.startScan dir a).limits = s.limits := by
  simp only [State.startScan] <;> (repeat' split) <;> simp
@[simp] theorem enterHead_limits (s : State) (h : HeadState) (g : Grant) : (s.enterHead h g).limits = s.limits := by
  simp only [State.enterHead] <;> (repeat' split) <;> simp
@[simp] theorem arriveApproach_limits (s : State) : (s.arriveApproach).limits = s.limits := by
  simp only [State.arriveApproach] <;> (repeat' split) <;> simp
@[simp] theorem arrivePoint_limits (s : State) : (s.arrivePoint).limits = s.limits := by
  simp only [State.arrivePoint] <;> (repeat' split) <;> simp
@[simp] theorem faultStill_limits (s : State) (c : FaultCause) : (s.faultStill c).limits = s.limits := by
  simp only [State.faultEntryWith, State.scanAbortWith, State.faultStill] <;> (repeat' split) <;> simp
@[simp] theorem beginApproach_limits (s : State) (g : Grant) : (s.beginApproach g).limits = s.limits := by
  simp only [State.beginApproach] <;> (repeat' split) <;> simp
@[simp] theorem beginPositioning_limits (s : State) (st : Station) (p : Nat) : (s.beginPositioning st p).limits = s.limits := by
  simp only [State.beginPositioning] <;> (repeat' split) <;> simp
@[simp] theorem stayParked_limits (s : State) (g : Grant) : (s.stayParked g).limits = s.limits := by
  simp only [State.stayParked] <;> (repeat' split) <;> simp
@[simp] theorem decideParkedOther_limits (s : State) (g : Grant) : (s.decideParkedOther g).limits = s.limits := by
  simp only [State.decideParkedOther] <;> (repeat' split) <;> simp
@[simp] theorem startStd_limits (s : State) : (s.startStd).limits = s.limits := by
  simp only [State.startStd] <;> (repeat' split) <;> simp
@[simp] theorem decideParked_limits (s : State) : (s.decideParked).limits = s.limits := by
  simp only [State.decideParked] <;> (repeat' split) <;> simp
@[simp] theorem redecideIfParked_limits (s : State) : (s.redecideIfParked).limits = s.limits := by
  simp only [State.redecideIfParked] <;> (repeat' split) <;> simp
@[simp] theorem stdEnded_limits (s : State) : (s.stdEnded).limits = s.limits := by
  simp only [State.stdEnded] <;> (repeat' split) <;> simp
@[simp] theorem arriveParked_limits (s : State) : (s.arriveParked).limits = s.limits := by
  simp only [State.arriveParked] <;> (repeat' split) <;> simp
@[simp] theorem beginReturning_limits (s : State) (g : Grant) : (s.beginReturning g).limits = s.limits := by
  simp only [State.beginReturning] <;> (repeat' split) <;> simp
@[simp] theorem stdAtCompletion_limits (s : State) (dir : ScanDir) (a : Bool) : (s.stdAtCompletion dir a).limits = s.limits := by
  simp only [State.stdAtCompletion] <;> (repeat' split) <;> simp
@[simp] theorem scanAtCompletion_limits (s : State) (dir : ScanDir) (a : Bool) : (s.scanAtCompletion dir a).limits = s.limits := by
  simp only [State.scanAtCompletion] <;> (repeat' split) <;> simp
@[simp] theorem decideCompletion_limits (s : State) (dir : ScanDir) (a : Bool) : (s.decideCompletion dir a).limits = s.limits := by
  simp only [State.decideCompletion] <;> (repeat' split) <;> simp
@[simp] theorem decidePeriodEnd_limits (s : State) : (s.decidePeriodEnd).limits = s.limits := by
  simp only [State.decidePeriodEnd] <;> (repeat' split) <;> simp
@[simp] theorem beginSearch_limits (s : State) : (s.beginSearch).limits = s.limits := by
  simp only [State.beginSearch] <;> (repeat' split) <;> simp
@[simp] theorem homingBegun_limits (s : State) : (s.homingBegun).limits = s.limits := by
  simp only [State.homingBegun] <;> (repeat' split) <;> simp
@[simp] theorem enterHoming_limits (s : State) : (s.enterHoming).limits = s.limits := by
  simp only [State.enterHoming] <;> (repeat' split) <;> simp
@[simp] theorem indexFound_limits (s : State) : (s.indexFound).limits = s.limits := by
  simp only [State.indexFound] <;> (repeat' split) <;> simp
@[simp] theorem scanAbortWith_limits (act : State → State) (h : ∀ s, (act s).limits = s.limits) (s : State) : (s.scanAbortWith act).limits = s.limits := by
  simp only [State.scanAbortWith] <;> (repeat' split) <;> simp [h]
@[simp] theorem faultEntryWith_limits (act : State → State) (c : FaultCause) (h : ∀ s, (act s).limits = s.limits) (s : State) : (s.faultEntryWith act c).limits = s.limits := by
  simp only [State.faultEntryWith] <;> (repeat' split) <;> simp [h]
@[simp] theorem claimTakesEffectWith_limits (act : State → State) (h : ∀ s, (act s).limits = s.limits) (s : State) : (s.claimTakesEffectWith act).limits = s.limits := by
  simp only [State.claimTakesEffectWith] <;> (repeat' split) <;> simp [h]
@[simp] theorem breakNotice_limits (s : State) : (s.breakNotice).limits = s.limits := by
  simp only [State.breakNotice] <;> (repeat' split) <;> simp
@[simp] theorem recoveringEntry_limits (s : State) : (s.recoveringEntry).limits = s.limits := by
  simp only [State.recoveringEntry] <;> (repeat' split) <;> simp
@[simp] theorem threadingExpiry_limits (s : State) : (s.threadingExpiry).limits = s.limits := by
  simp only [State.threadingExpiry] <;> (repeat' split) <;> simp
@[simp] theorem threadingEntry_limits (s : State) : (s.threadingEntry).limits = s.limits := by
  simp only [State.threadingEntry] <;> (repeat' split) <;> simp
@[simp] theorem judgeThreading_limits (s : State) : (s.judgeThreading).limits = s.limits := by
  simp only [State.judgeThreading] <;> (repeat' split) <;> simp
@[simp] theorem breakEntryWith_limits (act : State → State) (x : Bool) (h : ∀ s, (act s).limits = s.limits) (s : State) : (s.breakEntryWith act x).limits = s.limits := by
  simp only [State.breakEntryWith] <;> (repeat' split) <;> simp [h]
@[simp] theorem addCauses_limits (s : State) (t : PerDetector Bool) : (s.addCauses t).limits = s.limits := by
  simp only [State.addCauses] <;> (repeat' split) <;> simp
@[simp] theorem judgeDetectorsWith_limits (entry : State → State) (t c : PerDetector Bool) (h : ∀ s, (entry s).limits = s.limits) (s : State) : (s.judgeDetectorsWith entry t c).limits = s.limits := by
  simp only [State.judgeDetectorsWith] <;> (repeat' split) <;> simp [h]
@[simp] theorem judgeActivationWith_limits (entry : State → State) (t c : PerDetector Bool) (h : ∀ s, (entry s).limits = s.limits) (s : State) : (s.judgeActivationWith entry t c).limits = s.limits := by
  simp only [State.judgeActivationWith] <;> (repeat' split) <;> simp [h]
@[simp] theorem judgeInEntry_limits (s : State) (t c : PerDetector Bool) : (s.judgeInEntry t c).limits = s.limits := by
  simp only [State.judgeInEntry] <;> (repeat' split) <;> simp
@[simp] theorem recipeNotice_limits (s : State) (c : RecipeCause) : (s.recipeNotice c).limits = s.limits := by
  simp only [State.recipeNotice] <;> (repeat' split) <;> simp
@[simp] theorem reaim_limits (s : State) : (s.reaim).limits = s.limits := by
  simp only [State.reaim] <;> (repeat' split) <;> simp
@[simp] theorem completeEdges_limits (s : State) (e : Option Edges) : (s.completeEdges e).limits = s.limits := by
  simp only [State.completeEdges] <;> (repeat' split) <;> simp
@[simp] theorem closeFilling_limits (s : State) : (s.closeFilling).limits = s.limits := by
  simp only [State.closeFilling] <;> (repeat' split) <;> simp
@[simp] theorem completeRecord_limits (s : State) (dir : ScanDir) : (s.completeRecord dir).limits = s.limits := by
  simp only [State.completeRecord] <;> (repeat' split) <;> simp
@[simp] theorem completeStd_limits (s : State) : (s.completeStd).limits = s.limits := by
  simp only [State.completeStd] <;> (repeat' split) <;> simp
@[simp] theorem completeRecovery_limits (s : State) : (s.completeRecovery).limits = s.limits := by
  simp only [State.completeRecovery] <;> (repeat' split) <;> simp
@[simp] theorem reportHoles_limits (s : State) (src : ReportSource) : (s.reportHoles src).limits = s.limits := by
  simp only [State.reportHoles] <;> (repeat' split) <;> simp
@[simp] theorem completeHoles_limits (s : State) : (s.completeHoles).limits = s.limits := by
  simp only [State.completeHoles] <;> (repeat' split) <;> simp
@[simp] theorem handOn_limits (s : State) (x : Sample) : (s.handOn x).limits = s.limits := by
  simp only [State.handOn] <;> (repeat' split) <;> simp
@[simp] theorem linkLost_limits (s : State) : (s.linkLost).limits = s.limits := by
  simp only [State.linkLost] <;> (repeat' split) <;> simp
@[simp] theorem linkWindowEnd_limits (s : State) : (s.linkWindowEnd).limits = s.limits := by
  simp only [State.linkWindowEnd] <;> (repeat' split) <;> simp
@[simp] theorem pointPeriodEnd_limits (s : State) : (s.pointPeriodEnd).limits = s.limits := by
  simp only [State.pointPeriodEnd] <;> (repeat' split) <;> simp
@[simp] theorem rejudgeAtSpeed_limits (s : State) : (s.rejudgeAtSpeed).limits = s.limits := by
  simp only [State.rejudgeAtSpeed] <;> (repeat' split) <;> simp
@[simp] theorem gateEnd_limits (s : State) : (s.gateEnd).limits = s.limits := by
  simp only [State.gateEnd] <;> (repeat' split) <;> simp
@[simp] theorem lossExpiry_limits (s : State) : (s.lossExpiry).limits = s.limits := by
  simp only [State.lossExpiry] <;> (repeat' split) <;> simp
@[simp] theorem levelChange_limits (s : State) (d : Detector) (h : Bool) : (s.levelChange d h).limits = s.limits := by
  simp only [State.levelChange] <;> (repeat' split) <;> simp
@[simp] theorem serveStatus_limits (s : State) (st : Station) (tag : Byte) : (s.serveStatus st tag).limits = s.limits := by
  simp only [State.serveStatus] <;> (repeat' split) <;> simp
@[simp] theorem answer_limits (s : State) (st : Station) (k : RequestKind) (tag : Byte) (c : Status) : (s.answer st k tag c).limits = s.limits := by
  simp only [State.answer] <;> (repeat' split) <;> simp
@[simp] theorem serveFound_limits (s : State) (st : Station) (tag : Byte) (q : ScanQuery) (i : Option Nat) : (s.serveFound st tag q i).limits = s.limits := by
  simp only [State.serveFound] <;> (repeat' split) <;> simp
@[simp] theorem makePending_limits (s : State) (st : Station) (tag : Byte) (q : ScanQuery) (m : BitVec 16) (wait : Nat) : (s.makePending st tag q m wait).limits = s.limits := by
  simp only [State.makePending] <;> (repeat' split) <;> simp
@[simp] theorem serveMinimum_limits (s : State) (st : Station) (tag : Byte) (q : ScanQuery) (m : BitVec 16) (wait : Nat) : (s.serveMinimum st tag q m wait).limits = s.limits := by
  simp only [State.serveMinimum] <;> (repeat' split) <;> simp
@[simp] theorem serveReadScan_limits (s : State) (st : Station) (tag : Byte) (p : List Byte) : (s.serveReadScan st tag p).limits = s.limits := by
  simp only [State.serveReadScan] <;> (repeat' split) <;> simp
@[simp] theorem serveReadTrend_limits (s : State) (st : Station) (tag : Byte) : (s.serveReadTrend st tag).limits = s.limits := by
  simp only [State.serveReadTrend] <;> (repeat' split) <;> simp
@[simp] theorem serveReadPoints_limits (s : State) (st : Station) (tag : Byte) (p : List Byte) : (s.serveReadPoints st tag p).limits = s.limits := by
  simp only [State.serveReadPoints] <;> (repeat' split) <;> simp
@[simp] theorem serveReadStandardization_limits (s : State) (st : Station) (tag : Byte) : (s.serveReadStandardization st tag).limits = s.limits := by
  simp only [State.serveReadStandardization] <;> (repeat' split) <;> simp
@[simp] theorem serveCancel_limits (s : State) (st : Station) (tag : Byte) : (s.serveCancel st tag).limits = s.limits := by
  simp only [State.serveCancel] <;> (repeat' split) <;> simp
@[simp] theorem setSlot_limits (s : State) (st : Station) (m : ModeSlot) : (s.setSlot st m).limits = s.limits := by
  simp only [State.setSlot] <;> (repeat' split) <;> simp
@[simp] theorem modeReply_limits (s : State) (st : Station) (tag : Byte) (c : Status) : (s.modeReply st tag c).limits = s.limits := by
  simp only [State.modeReply] <;> (repeat' split) <;> simp
@[simp] theorem modeRelease_limits (s : State) (st : Station) (tag : Byte) : (s.modeRelease st tag).limits = s.limits := by
  simp only [State.modeRelease] <;> (repeat' split) <;> simp
@[simp] theorem modeStandardize_limits (s : State) (st : Station) (tag : Byte) : (s.modeStandardize st tag).limits = s.limits := by
  simp only [State.modeStandardize] <;> (repeat' split) <;> simp
@[simp] theorem modePoint_limits (s : State) (st : Station) (tag : Byte) (pos : Nat) : (s.modePoint st tag pos).limits = s.limits := by
  simp only [State.modePoint] <;> (repeat' split) <;> simp
@[simp] theorem serveClearFault_limits (s : State) (st : Station) (tag : Byte) : (s.serveClearFault st tag).limits = s.limits := by
  simp only [State.serveClearFault] <;> (repeat' split) <;> simp
@[simp] theorem serveResume_limits (s : State) (st : Station) (tag : Byte) : (s.serveResume st tag).limits = s.limits := by
  simp only [State.serveResume] <;> (repeat' split) <;> simp
@[simp] theorem takeCountReply_limits (s : State) (st : Station) (tag : Byte) (m : HoleMode) : (s.takeCountReply st tag m).limits = s.limits := by
  simp only [State.takeCountReply] <;> (repeat' split) <;> simp
@[simp] theorem serveTakeCount_limits (s : State) (st : Station) (tag : Byte) : (s.serveTakeCount st tag).limits = s.limits := by
  simp only [State.serveTakeCount] <;> (repeat' split) <;> simp
@[simp] theorem serveRestart_limits (s : State) (st : Station) (tag : Byte) : (s.serveRestart st tag).limits = s.limits := by
  simp only [State.serveRestart] <;> (repeat' split) <;> simp
@[simp] theorem writeRecipe_limits (s : State) (st : Station) (tag : Byte) (p : List Byte) (i : SlotNo) (g : Group) : (s.writeRecipe st tag p i g).limits = s.limits := by
  simp only [State.writeRecipe] <;> (repeat' split) <;> simp
@[simp] theorem serveRecipeWrite_limits (s : State) (st : Station) (tag : Byte) (p : List Byte) : (s.serveRecipeWrite st tag p).limits = s.limits := by
  simp only [State.serveRecipeWrite] <;> (repeat' split) <;> simp
@[simp] theorem serveRecipeRead_limits (s : State) (st : Station) (tag : Byte) (p : List Byte) : (s.serveRecipeRead st tag p).limits = s.limits := by
  simp only [State.serveRecipeRead] <;> (repeat' split) <;> simp
@[simp] theorem validateSlot_limits (s : State) (st : Station) (tag : Byte) (i : SlotNo) : (s.validateSlot st tag i).limits = s.limits := by
  simp only [State.validateSlot] <;> (repeat' split) <;> simp
@[simp] theorem serveValidate_limits (s : State) (st : Station) (tag : Byte) (p : List Byte) : (s.serveValidate st tag p).limits = s.limits := by
  simp only [State.serveValidate] <;> (repeat' split) <;> simp
@[simp] theorem selectReply_limits (s : State) (st : Station) (tag : Byte) (t : Timing) : (s.selectReply st tag t).limits = s.limits := by
  simp only [State.selectReply] <;> (repeat' split) <;> simp
@[simp] theorem handMachine_limits (s : State) (old : MachineRecord) : (s.handMachine old).limits = s.limits := by
  simp only [State.handMachine] <;> (repeat' split) <;> simp
@[simp] theorem machineReply_limits (s : State) (st : Station) (k : RequestKind) (tag : Byte) (c : Status) : (s.machineReply st k tag c).limits = s.limits := by
  simp only [State.machineReply] <;> (repeat' split) <;> simp
@[simp] theorem acceptMachine_limits (s : State) (st : Station) (tag : Byte) (c : Status) (m : MachineRecord) : (s.acceptMachine st tag c m).limits = s.limits := by
  simp only [State.acceptMachine] <;> (repeat' split) <;> simp
@[simp] theorem judgeMachine_limits (s : State) (st : Station) (tag : Byte) (m : MachineRecord) : (s.judgeMachine st tag m).limits = s.limits := by
  simp only [State.judgeMachine] <;> (repeat' split) <;> simp
@[simp] theorem serveMachineWrite_limits (s : State) (st : Station) (tag : Byte) (p : List Byte) : (s.serveMachineWrite st tag p).limits = s.limits := by
  simp only [State.serveMachineWrite] <;> (repeat' split) <;> simp
@[simp] theorem serveMachineRead_limits (s : State) (st : Station) (tag : Byte) : (s.serveMachineRead st tag).limits = s.limits := by
  simp only [State.serveMachineRead] <;> (repeat' split) <;> simp
@[simp] theorem serveSubscribe_limits (s : State) (st : Station) (tag : Byte) (p : List Byte) : (s.serveSubscribe st tag p).limits = s.limits := by
  simp only [State.serveSubscribe] <;> (repeat' split) <;> simp
@[simp] theorem answerUnknown_limits (s : State) (st : Station) (tag : Byte) : (s.answerUnknown st tag).limits = s.limits := by
  simp only [State.answerUnknown] <;> (repeat' split) <;> simp
@[simp] theorem absence_limits (s : State) (st : Station) : (s.absence st).limits = s.limits := by
  simp only [State.absence] <;> (repeat' split) <;> simp
@[simp] theorem transmitted_limits (s : State) (st : Station) : (s.transmitted st).limits = s.limits := by
  simp only [State.transmitted] <;> (repeat' split) <;> simp

/-! ### What leaves the trend list alone -/

@[simp] theorem onPort_trend (s : State) (st : Station) (f : Port → Port) : (s.onPort st f).trend = s.trend := by
  simp only [State.onPort] <;> (repeat' split) <;> simp
@[simp] theorem startBit_trend (s : State) (st : Station) : (s.startBit st).trend = s.trend := by
  simp only [State.startBit] <;> (repeat' split) <;> simp
@[simp] theorem onPorts_trend (s : State) (f : Port → Port) : (s.onPorts f).trend = s.trend := by
  simp only [State.onPorts] <;> (repeat' split) <;> simp
@[simp] theorem reply_trend (s : State) (st : Station) (k : RequestKind) (tag : Byte) (b : ReplyBody) : (s.reply st k tag b).trend = s.trend := by
  simp only [State.reply] <;> (repeat' split) <;> simp
@[simp] theorem offer_trend (s : State) (n : Notice) : (s.offer n).trend = s.trend := by
  simp only [State.offer] <;> (repeat' split) <;> simp
@[simp] theorem settle_trend (s : State) : (s.settle).trend = s.trend := by
  simp only [State.settle] <;> (repeat' split) <;> simp
@[simp] theorem serveScan_trend (s : State) (st : Station) (tag : Byte) (q : ScanQuery) (i : Nat) : (s.serveScan st tag q i).trend = s.trend := by
  simp only [State.serveScan] <;> (repeat' split) <;> simp
@[simp] theorem endPending_trend (s : State) (st : Station) (b : ReplyBody) : (s.endPending st b).trend = s.trend := by
  simp only [State.endPending] <;> (repeat' split) <;> simp
@[simp] theorem endPendingByBreak_trend (s : State) : (s.endPendingByBreak).trend = s.trend := by
  simp only [State.endPendingByBreak] <;> (repeat' split) <;> simp
@[simp] theorem servePending_trend (s : State) (i : Nat) (st : Station) : (s.servePending i st).trend = s.trend := by
  simp only [State.servePending] <;> (repeat' split) <;> simp
@[simp] theorem serveAllPending_trend (s : State) (i : Nat) : (s.serveAllPending i).trend = s.trend := by
  simp only [State.serveAllPending] <;> (repeat' split) <;> simp
@[simp] theorem endStretch_trend (s : State) : (s.endStretch).trend = s.trend := by
  simp only [State.endStretch] <;> (repeat' split) <;> simp
@[simp] theorem stopAssessment_trend (s : State) : (s.stopAssessment).trend = s.trend := by
  simp only [State.stopAssessment] <;> (repeat' split) <;> simp
@[simp] theorem absentTake_trend (s : State) (x : Sample) : (s.absentTake x).trend = s.trend := by
  simp only [State.absentTake] <;> (repeat' split) <;> simp
@[simp] theorem absentNextWindow_trend (s : State) : (s.absentNextWindow).trend = s.trend := by
  simp only [State.absentNextWindow] <;> (repeat' split) <;> simp
@[simp] theorem holeTake_trend (s : State) (x : Sample) : (s.holeTake x).trend = s.trend := by
  simp only [State.holeTake] <;> (repeat' split) <;> simp
@[simp] theorem holeTransfer_trend (s : State) (src : ReportSource) : (s.holeTransfer src).trend = s.trend := by
  simp only [State.holeTransfer] <;> (repeat' split) <;> simp
@[simp] theorem updateEdges_trend (s : State) (e : EdgeTracker) : (s.updateEdges e).trend = s.trend := by
  simp only [State.updateEdges] <;> (repeat' split) <;> simp
@[simp] theorem edgeTake_trend (s : State) (x : Sample) : (s.edgeTake x).trend = s.trend := by
  simp only [State.edgeTake] <;> (repeat' split) <;> simp
@[simp] theorem binTake_trend (s : State) (x : Sample) : (s.binTake x).trend = s.trend := by
  simp only [State.binTake] <;> (repeat' split) <;> simp
@[simp] theorem profileRestart_trend (s : State) : (s.profileRestart).trend = s.trend := by
  simp only [State.profileRestart] <;> (repeat' split) <;> simp
@[simp] theorem clearContinuity_trend (s : State) : (s.clearContinuity).trend = s.trend := by
  simp only [State.clearContinuity] <;> (repeat' split) <;> simp
@[simp] theorem deferredAtAbort_trend (s : State) : (s.deferredAtAbort).trend = s.trend := by
  simp only [State.deferredAtAbort] <;> (repeat' split) <;> simp
@[simp] theorem profileActivation_trend (s : State) (l : Layout) : (s.profileActivation l).trend = s.trend := by
  simp only [State.profileActivation] <;> (repeat' split) <;> simp
@[simp] theorem adopt_trend (s : State) : (s.adopt).trend = s.trend := by
  simp only [State.adopt] <;> (repeat' split) <;> simp
@[simp] theorem dropPendingSet_trend (s : State) : (s.dropPendingSet).trend = s.trend := by
  simp only [State.dropPendingSet] <;> (repeat' split) <;> simp
@[simp] theorem startRecord_trend (s : State) (dir : ScanDir) : (s.startRecord dir).trend = s.trend := by
  simp only [State.startRecord] <;> (repeat' split) <;> simp
@[simp] theorem voidRecord_trend (s : State) : (s.voidRecord).trend = s.trend := by
  simp only [State.voidRecord] <;> (repeat' split) <;> simp
@[simp] theorem markLinkGaps_trend (s : State) : (s.markLinkGaps).trend = s.trend := by
  simp only [State.markLinkGaps] <;> (repeat' split) <;> simp
@[simp] theorem markTachHeld_trend (s : State) : (s.markTachHeld).trend = s.trend := by
  simp only [State.markTachHeld] <;> (repeat' split) <;> simp
@[simp] theorem startPeriod_trend (s : State) : (s.startPeriod).trend = s.trend := by
  simp only [State.startPeriod] <;> (repeat' split) <;> simp
@[simp] theorem dropPeriod_trend (s : State) : (s.dropPeriod).trend = s.trend := by
  simp only [State.dropPeriod] <;> (repeat' split) <;> simp
@[simp] theorem periodSlot_trend (s : State) : (s.periodSlot).trend = s.trend := by
  simp only [State.periodSlot] <;> (repeat' split) <;> simp
@[simp] theorem pointTake_trend (s : State) (x : Sample) : (s.pointTake x).trend = s.trend := by
  simp only [State.pointTake] <;> (repeat' split) <;> simp
@[simp] theorem recordPeriod_trend (s : State) (p : PointPeriod) : (s.recordPeriod p).trend = s.trend := by
  simp only [State.recordPeriod] <;> (repeat' split) <;> simp
@[simp] theorem raise_trend (s : State) (c : HeadCommand) : (s.raise c).trend = s.trend := by
  simp only [State.raise] <;> (repeat' split) <;> simp
@[simp] theorem consumeStd_trend (s : State) : (s.consumeStd).trend = s.trend := by
  simp only [State.consumeStd] <;> (repeat' split) <;> simp
@[simp] theorem stdNotice_trend (s : State) : (s.stdNotice).trend = s.trend := by
  simp only [State.stdNotice] <;> (repeat' split) <;> simp
@[simp] theorem stdCommit_trend (s : State) : (s.stdCommit).trend = s.trend := by
  simp only [State.stdCommit] <;> (repeat' split) <;> simp
@[simp] theorem stdFail_trend (s : State) : (s.stdFail).trend = s.trend := by
  simp only [State.stdFail] <;> (repeat' split) <;> simp
@[simp] theorem stdNoRecord_trend (s : State) : (s.stdNoRecord).trend = s.trend := by
  simp only [State.stdNoRecord] <;> (repeat' split) <;> simp
@[simp] theorem abortRefOut_trend (s : State) : (s.abortRefOut).trend = s.trend := by
  simp only [State.abortRefOut] <;> (repeat' split) <;> simp
@[simp] theorem stdAbort_trend (s : State) : (s.stdAbort).trend = s.trend := by
  simp only [State.stdAbort] <;> (repeat' split) <;> simp
@[simp] theorem enterReference_trend (s : State) : (s.enterReference).trend = s.trend := by
  simp only [State.enterReference] <;> (repeat' split) <;> simp
@[simp] theorem enterWithdraw_trend (s : State) : (s.enterWithdraw).trend = s.trend := by
  simp only [State.enterWithdraw] <;> (repeat' split) <;> simp
@[simp] theorem zeroEnd_trend (s : State) : (s.zeroEnd).trend = s.trend := by
  simp only [State.zeroEnd] <;> (repeat' split) <;> simp
@[simp] theorem referenceEnd_trend (s : State) : (s.referenceEnd).trend = s.trend := by
  simp only [State.referenceEnd] <;> (repeat' split) <;> simp
@[simp] theorem collectionSlot_trend (s : State) (raw : Option RawSample) : (s.collectionSlot raw).trend = s.trend := by
  simp only [State.collectionSlot] <;> (repeat' split) <;> simp
@[simp] theorem tileSeen_trend (s : State) : (s.tileSeen).trend = s.trend := by
  simp only [State.tileSeen] <;> (repeat' split) <;> simp
@[simp] theorem tileExpired_trend (s : State) : (s.tileExpired).trend = s.trend := by
  simp only [State.tileExpired] <;> (repeat' split) <;> simp
@[simp] theorem stuckTile_trend (s : State) : (s.stuckTile).trend = s.trend := by
  simp only [State.stuckTile] <;> (repeat' split) <;> simp
@[simp] theorem toHead_trend (s : State) (h : HeadState) : (s.toHead h).trend = s.trend := by
  simp only [State.toHead] <;> (repeat' split) <;> simp
@[simp] theorem headNotice_trend (s : State) : (s.headNotice).trend = s.trend := by
  simp only [State.headNotice] <;> (repeat' split) <;> simp
@[simp] theorem grantTo_trend (s : State) (g : Grant) : (s.grantTo g).trend = s.trend := by
  simp only [State.grantTo] <;> (repeat' split) <;> simp
@[simp] theorem driveOff_trend (s : State) : (s.driveOff).trend = s.trend := by
  simp only [State.driveOff] <;> (repeat' split) <;> simp
@[simp] theorem drive_trend (s : State) (d : Bool) (n : Nat) : (s.drive d n).trend = s.trend := by
  simp only [State.drive] <;> (repeat' split) <;> simp
@[simp] theorem startScan_trend (s : State) (dir : ScanDir) (a : Bool) : (s.startScan dir a).trend = s.trend := by
  simp only [State.startScan] <;> (repeat' split) <;> simp
@[simp] theorem enterHead_trend (s : State) (h : HeadState) (g : Grant) : (s.enterHead h g).trend = s.trend := by
  simp only [State.enterHead] <;> (repeat' split) <;> simp
@[simp] theorem arriveApproach_trend (s : State) : (s.arriveApproach).trend = s.trend := by
  simp only [State.arriveApproach] <;> (repeat' split) <;> simp
@[simp] theorem arrivePoint_trend (s : State) : (s.arrivePoint).trend = s.trend := by
  simp only [State.arrivePoint] <;> (repeat' split) <;> simp
@[simp] theorem faultStill_trend (s : State) (c : FaultCause) : (s.faultStill c).trend = s.trend := by
  simp only [State.faultEntryWith, State.scanAbortWith, State.faultStill] <;> (repeat' split) <;> simp
@[simp] theorem beginApproach_trend (s : State) (g : Grant) : (s.beginApproach g).trend = s.trend := by
  simp only [State.beginApproach] <;> (repeat' split) <;> simp
@[simp] theorem beginPositioning_trend (s : State) (st : Station) (p : Nat) : (s.beginPositioning st p).trend = s.trend := by
  simp only [State.beginPositioning] <;> (repeat' split) <;> simp
@[simp] theorem stayParked_trend (s : State) (g : Grant) : (s.stayParked g).trend = s.trend := by
  simp only [State.stayParked] <;> (repeat' split) <;> simp
@[simp] theorem decideParkedOther_trend (s : State) (g : Grant) : (s.decideParkedOther g).trend = s.trend := by
  simp only [State.decideParkedOther] <;> (repeat' split) <;> simp
@[simp] theorem startStd_trend (s : State) : (s.startStd).trend = s.trend := by
  simp only [State.startStd] <;> (repeat' split) <;> simp
@[simp] theorem decideParked_trend (s : State) : (s.decideParked).trend = s.trend := by
  simp only [State.decideParked] <;> (repeat' split) <;> simp
@[simp] theorem redecideIfParked_trend (s : State) : (s.redecideIfParked).trend = s.trend := by
  simp only [State.redecideIfParked] <;> (repeat' split) <;> simp
@[simp] theorem stdEnded_trend (s : State) : (s.stdEnded).trend = s.trend := by
  simp only [State.stdEnded] <;> (repeat' split) <;> simp
@[simp] theorem arriveParked_trend (s : State) : (s.arriveParked).trend = s.trend := by
  simp only [State.arriveParked] <;> (repeat' split) <;> simp
@[simp] theorem beginReturning_trend (s : State) (g : Grant) : (s.beginReturning g).trend = s.trend := by
  simp only [State.beginReturning] <;> (repeat' split) <;> simp
@[simp] theorem stdAtCompletion_trend (s : State) (dir : ScanDir) (a : Bool) : (s.stdAtCompletion dir a).trend = s.trend := by
  simp only [State.stdAtCompletion] <;> (repeat' split) <;> simp
@[simp] theorem scanAtCompletion_trend (s : State) (dir : ScanDir) (a : Bool) : (s.scanAtCompletion dir a).trend = s.trend := by
  simp only [State.scanAtCompletion] <;> (repeat' split) <;> simp
@[simp] theorem decideCompletion_trend (s : State) (dir : ScanDir) (a : Bool) : (s.decideCompletion dir a).trend = s.trend := by
  simp only [State.decideCompletion] <;> (repeat' split) <;> simp
@[simp] theorem decidePeriodEnd_trend (s : State) : (s.decidePeriodEnd).trend = s.trend := by
  simp only [State.decidePeriodEnd] <;> (repeat' split) <;> simp
@[simp] theorem beginSearch_trend (s : State) : (s.beginSearch).trend = s.trend := by
  simp only [State.beginSearch] <;> (repeat' split) <;> simp
@[simp] theorem homingBegun_trend (s : State) : (s.homingBegun).trend = s.trend := by
  simp only [State.homingBegun] <;> (repeat' split) <;> simp
@[simp] theorem enterHoming_trend (s : State) : (s.enterHoming).trend = s.trend := by
  simp only [State.enterHoming] <;> (repeat' split) <;> simp
@[simp] theorem indexFound_trend (s : State) : (s.indexFound).trend = s.trend := by
  simp only [State.indexFound] <;> (repeat' split) <;> simp
@[simp] theorem scanAbortWith_trend (act : State → State) (h : ∀ s, (act s).trend = s.trend) (s : State) : (s.scanAbortWith act).trend = s.trend := by
  simp only [State.scanAbortWith] <;> (repeat' split) <;> simp [h]
@[simp] theorem faultEntryWith_trend (act : State → State) (c : FaultCause) (h : ∀ s, (act s).trend = s.trend) (s : State) : (s.faultEntryWith act c).trend = s.trend := by
  simp only [State.faultEntryWith] <;> (repeat' split) <;> simp [h]
@[simp] theorem claimTakesEffectWith_trend (act : State → State) (h : ∀ s, (act s).trend = s.trend) (s : State) : (s.claimTakesEffectWith act).trend = s.trend := by
  simp only [State.claimTakesEffectWith] <;> (repeat' split) <;> simp [h]
@[simp] theorem breakNotice_trend (s : State) : (s.breakNotice).trend = s.trend := by
  simp only [State.breakNotice] <;> (repeat' split) <;> simp
@[simp] theorem recoveringEntry_trend (s : State) : (s.recoveringEntry).trend = s.trend := by
  simp only [State.recoveringEntry] <;> (repeat' split) <;> simp
@[simp] theorem threadingExpiry_trend (s : State) : (s.threadingExpiry).trend = s.trend := by
  simp only [State.threadingExpiry] <;> (repeat' split) <;> simp
@[simp] theorem threadingEntry_trend (s : State) : (s.threadingEntry).trend = s.trend := by
  simp only [State.threadingEntry] <;> (repeat' split) <;> simp
@[simp] theorem judgeThreading_trend (s : State) : (s.judgeThreading).trend = s.trend := by
  simp only [State.judgeThreading] <;> (repeat' split) <;> simp
@[simp] theorem breakEntryWith_trend (act : State → State) (x : Bool) (h : ∀ s, (act s).trend = s.trend) (s : State) : (s.breakEntryWith act x).trend = s.trend := by
  simp only [State.breakEntryWith] <;> (repeat' split) <;> simp [h]
@[simp] theorem addCauses_trend (s : State) (t : PerDetector Bool) : (s.addCauses t).trend = s.trend := by
  simp only [State.addCauses] <;> (repeat' split) <;> simp
@[simp] theorem judgeDetectorsWith_trend (entry : State → State) (t c : PerDetector Bool) (h : ∀ s, (entry s).trend = s.trend) (s : State) : (s.judgeDetectorsWith entry t c).trend = s.trend := by
  simp only [State.judgeDetectorsWith] <;> (repeat' split) <;> simp [h]
@[simp] theorem judgeActivationWith_trend (entry : State → State) (t c : PerDetector Bool) (h : ∀ s, (entry s).trend = s.trend) (s : State) : (s.judgeActivationWith entry t c).trend = s.trend := by
  simp only [State.judgeActivationWith] <;> (repeat' split) <;> simp [h]
@[simp] theorem judgeInEntry_trend (s : State) (t c : PerDetector Bool) : (s.judgeInEntry t c).trend = s.trend := by
  simp only [State.judgeInEntry] <;> (repeat' split) <;> simp
@[simp] theorem clearLimits_trend (s : State) : (s.clearLimits).trend = s.trend := by
  simp only [State.clearLimits] <;> (repeat' split) <;> simp
@[simp] theorem recipeNotice_trend (s : State) (c : RecipeCause) : (s.recipeNotice c).trend = s.trend := by
  simp only [State.recipeNotice] <;> (repeat' split) <;> simp
@[simp] theorem reaim_trend (s : State) : (s.reaim).trend = s.trend := by
  simp only [State.reaim] <;> (repeat' split) <;> simp
@[simp] theorem activateWith_trend (judge : PerDetector Bool → PerDetector Bool → State → State) (i : SlotNo) (h : ∀ a b s, (judge a b s).trend = s.trend) (s : State) : (s.activateWith judge i).trend = s.trend := by
  simp only [State.activateWith] <;> (repeat' split) <;> simp [h]
@[simp] theorem activate_trend (s : State) (i : SlotNo) : (s.activate i).trend = s.trend :=
  activateWith_trend _ i (fun t c s => judgeActivationWith_trend _ t c (breakEntryWith_trend id false (fun _ => rfl)) s) s
@[simp] theorem activatePending_trend (s : State) : (s.activatePending).trend = s.trend := by
  simp only [State.activatePending] <;> (repeat' split) <;> simp
@[simp] theorem activateInEntry_trend (s : State) : (s.activateInEntry).trend = s.trend := by
  simp only [State.activateInEntry] <;> (repeat' split) <;> simp
@[simp] theorem breakEntry_trend (s : State) (x : Bool) : (s.breakEntry x).trend = s.trend := by
  simp only [State.breakEntry] <;> (repeat' split) <;> simp
@[simp] theorem faultEntry_trend (s : State) (c : FaultCause) : (s.faultEntry c).trend = s.trend := by
  simp only [State.faultEntry] <;> (repeat' split) <;> simp
@[simp] theorem parkTakesEffect_trend (s : State) : (s.parkTakesEffect).trend = s.trend := by
  simp only [State.parkTakesEffect] <;> (repeat' split) <;> simp
@[simp] theorem judgeDetectors_trend (s : State) (t c : PerDetector Bool) : (s.judgeDetectors t c).trend = s.trend := by
  simp only [State.judgeDetectors] <;> (repeat' split) <;> simp
@[simp] theorem faultUnlessFaulted_trend (s : State) (c : FaultCause) : (s.faultUnlessFaulted c).trend = s.trend := by
  simp only [State.faultUnlessFaulted] <;> (repeat' split) <;> simp
@[simp] theorem completeEdges_trend (s : State) (e : Option Edges) : (s.completeEdges e).trend = s.trend := by
  simp only [State.completeEdges] <;> (repeat' split) <;> simp
@[simp] theorem completeStd_trend (s : State) : (s.completeStd).trend = s.trend := by
  simp only [State.completeStd] <;> (repeat' split) <;> simp
@[simp] theorem completeRecovery_trend (s : State) : (s.completeRecovery).trend = s.trend := by
  simp only [State.completeRecovery] <;> (repeat' split) <;> simp
@[simp] theorem evaluateLimits_trend (s : State) (r : ScanRecord) : (s.evaluateLimits r).trend = s.trend := by
  simp only [State.evaluateLimits] <;> (repeat' split) <;> simp
@[simp] theorem reportHoles_trend (s : State) (src : ReportSource) : (s.reportHoles src).trend = s.trend := by
  simp only [State.reportHoles] <;> (repeat' split) <;> simp
@[simp] theorem completeHoles_trend (s : State) : (s.completeHoles).trend = s.trend := by
  simp only [State.completeHoles] <;> (repeat' split) <;> simp
@[simp] theorem completeLimits_trend (s : State) : (s.completeLimits).trend = s.trend := by
  simp only [State.completeLimits] <;> (repeat' split) <;> simp
@[simp] theorem handOn_trend (s : State) (x : Sample) : (s.handOn x).trend = s.trend := by
  simp only [State.handOn] <;> (repeat' split) <;> simp
@[simp] theorem absentWindowEnd_trend (s : State) : (s.absentWindowEnd).trend = s.trend := by
  simp only [State.absentWindowEnd] <;> (repeat' split) <;> simp
@[simp] theorem withdrawEnd_trend (s : State) : (s.withdrawEnd).trend = s.trend := by
  simp only [State.withdrawEnd] <;> (repeat' split) <;> simp
@[simp] theorem stdSlot_trend (s : State) (raw : Option RawSample) : (s.stdSlot raw).trend = s.trend := by
  simp only [State.stdSlot] <;> (repeat' split) <;> simp
@[simp] theorem linkLost_trend (s : State) : (s.linkLost).trend = s.trend := by
  simp only [State.linkLost] <;> (repeat' split) <;> simp
@[simp] theorem linkWindowEnd_trend (s : State) : (s.linkWindowEnd).trend = s.trend := by
  simp only [State.linkWindowEnd] <;> (repeat' split) <;> simp
@[simp] theorem pointPeriodEnd_trend (s : State) : (s.pointPeriodEnd).trend = s.trend := by
  simp only [State.pointPeriodEnd] <;> (repeat' split) <;> simp
@[simp] theorem takeSample_trend (s : State) (t : Option SampleTelegram) : (s.takeSample t).trend = s.trend := by
  simp only [State.takeSample] <;> (repeat' split) <;> simp
@[simp] theorem declareSlot_trend (s : State) (d : SlotDecl) : (s.declareSlot d).trend = s.trend := by
  simp only [State.declareSlot] <;> (repeat' split) <;> simp
@[simp] theorem rejudgeAtSpeed_trend (s : State) : (s.rejudgeAtSpeed).trend = s.trend := by
  simp only [State.rejudgeAtSpeed] <;> (repeat' split) <;> simp
@[simp] theorem gateEnd_trend (s : State) : (s.gateEnd).trend = s.trend := by
  simp only [State.gateEnd] <;> (repeat' split) <;> simp
@[simp] theorem lossExpiry_trend (s : State) : (s.lossExpiry).trend = s.trend := by
  simp only [State.lossExpiry] <;> (repeat' split) <;> simp
@[simp] theorem debounceExpiry_trend (s : State) (d : Detector) : (s.debounceExpiry d).trend = s.trend := by
  simp only [State.debounceExpiry] <;> (repeat' split) <;> simp
@[simp] theorem levelChange_trend (s : State) (d : Detector) (h : Bool) : (s.levelChange d h).trend = s.trend := by
  simp only [State.levelChange] <;> (repeat' split) <;> simp
@[simp] theorem serveStatus_trend (s : State) (st : Station) (tag : Byte) : (s.serveStatus st tag).trend = s.trend := by
  simp only [State.serveStatus] <;> (repeat' split) <;> simp
@[simp] theorem answer_trend (s : State) (st : Station) (k : RequestKind) (tag : Byte) (c : Status) : (s.answer st k tag c).trend = s.trend := by
  simp only [State.answer] <;> (repeat' split) <;> simp
@[simp] theorem serveFound_trend (s : State) (st : Station) (tag : Byte) (q : ScanQuery) (i : Option Nat) : (s.serveFound st tag q i).trend = s.trend := by
  simp only [State.serveFound] <;> (repeat' split) <;> simp
@[simp] theorem makePending_trend (s : State) (st : Station) (tag : Byte) (q : ScanQuery) (m : BitVec 16) (wait : Nat) : (s.makePending st tag q m wait).trend = s.trend := by
  simp only [State.makePending] <;> (repeat' split) <;> simp
@[simp] theorem serveMinimum_trend (s : State) (st : Station) (tag : Byte) (q : ScanQuery) (m : BitVec 16) (wait : Nat) : (s.serveMinimum st tag q m wait).trend = s.trend := by
  simp only [State.serveMinimum] <;> (repeat' split) <;> simp
@[simp] theorem serveReadScan_trend (s : State) (st : Station) (tag : Byte) (p : List Byte) : (s.serveReadScan st tag p).trend = s.trend := by
  simp only [State.serveReadScan] <;> (repeat' split) <;> simp
@[simp] theorem serveReadTrend_trend (s : State) (st : Station) (tag : Byte) : (s.serveReadTrend st tag).trend = s.trend := by
  simp only [State.serveReadTrend] <;> (repeat' split) <;> simp
@[simp] theorem serveReadPoints_trend (s : State) (st : Station) (tag : Byte) (p : List Byte) : (s.serveReadPoints st tag p).trend = s.trend := by
  simp only [State.serveReadPoints] <;> (repeat' split) <;> simp
@[simp] theorem serveReadStandardization_trend (s : State) (st : Station) (tag : Byte) : (s.serveReadStandardization st tag).trend = s.trend := by
  simp only [State.serveReadStandardization] <;> (repeat' split) <;> simp
@[simp] theorem serveCancel_trend (s : State) (st : Station) (tag : Byte) : (s.serveCancel st tag).trend = s.trend := by
  simp only [State.serveCancel] <;> (repeat' split) <;> simp
@[simp] theorem setSlot_trend (s : State) (st : Station) (m : ModeSlot) : (s.setSlot st m).trend = s.trend := by
  simp only [State.setSlot] <;> (repeat' split) <;> simp
@[simp] theorem modeReply_trend (s : State) (st : Station) (tag : Byte) (c : Status) : (s.modeReply st tag c).trend = s.trend := by
  simp only [State.modeReply] <;> (repeat' split) <;> simp
@[simp] theorem modeRelease_trend (s : State) (st : Station) (tag : Byte) : (s.modeRelease st tag).trend = s.trend := by
  simp only [State.modeRelease] <;> (repeat' split) <;> simp
@[simp] theorem modePark_trend (s : State) (st : Station) (tag : Byte) : (s.modePark st tag).trend = s.trend := by
  simp only [State.modePark] <;> (repeat' split) <;> simp
@[simp] theorem modeStandardize_trend (s : State) (st : Station) (tag : Byte) : (s.modeStandardize st tag).trend = s.trend := by
  simp only [State.modeStandardize] <;> (repeat' split) <;> simp
@[simp] theorem modePoint_trend (s : State) (st : Station) (tag : Byte) (pos : Nat) : (s.modePoint st tag pos).trend = s.trend := by
  simp only [State.modePoint] <;> (repeat' split) <;> simp
@[simp] theorem serveMode_trend (s : State) (st : Station) (tag : Byte) (p : List Byte) : (s.serveMode st tag p).trend = s.trend := by
  simp only [State.serveMode] <;> (repeat' split) <;> simp
@[simp] theorem serveClearFault_trend (s : State) (st : Station) (tag : Byte) : (s.serveClearFault st tag).trend = s.trend := by
  simp only [State.serveClearFault] <;> (repeat' split) <;> simp
@[simp] theorem serveResume_trend (s : State) (st : Station) (tag : Byte) : (s.serveResume st tag).trend = s.trend := by
  simp only [State.serveResume] <;> (repeat' split) <;> simp
@[simp] theorem takeCountReply_trend (s : State) (st : Station) (tag : Byte) (m : HoleMode) : (s.takeCountReply st tag m).trend = s.trend := by
  simp only [State.takeCountReply] <;> (repeat' split) <;> simp
@[simp] theorem serveTakeCount_trend (s : State) (st : Station) (tag : Byte) : (s.serveTakeCount st tag).trend = s.trend := by
  simp only [State.serveTakeCount] <;> (repeat' split) <;> simp
@[simp] theorem serveRestart_trend (s : State) (st : Station) (tag : Byte) : (s.serveRestart st tag).trend = s.trend := by
  simp only [State.serveRestart] <;> (repeat' split) <;> simp
@[simp] theorem writeRecipe_trend (s : State) (st : Station) (tag : Byte) (p : List Byte) (i : SlotNo) (g : Group) : (s.writeRecipe st tag p i g).trend = s.trend := by
  simp only [State.writeRecipe] <;> (repeat' split) <;> simp
@[simp] theorem serveRecipeWrite_trend (s : State) (st : Station) (tag : Byte) (p : List Byte) : (s.serveRecipeWrite st tag p).trend = s.trend := by
  simp only [State.serveRecipeWrite] <;> (repeat' split) <;> simp
@[simp] theorem serveRecipeRead_trend (s : State) (st : Station) (tag : Byte) (p : List Byte) : (s.serveRecipeRead st tag p).trend = s.trend := by
  simp only [State.serveRecipeRead] <;> (repeat' split) <;> simp
@[simp] theorem validateSlot_trend (s : State) (st : Station) (tag : Byte) (i : SlotNo) : (s.validateSlot st tag i).trend = s.trend := by
  simp only [State.validateSlot] <;> (repeat' split) <;> simp
@[simp] theorem serveValidate_trend (s : State) (st : Station) (tag : Byte) (p : List Byte) : (s.serveValidate st tag p).trend = s.trend := by
  simp only [State.serveValidate] <;> (repeat' split) <;> simp
@[simp] theorem selectReply_trend (s : State) (st : Station) (tag : Byte) (t : Timing) : (s.selectReply st tag t).trend = s.trend := by
  simp only [State.selectReply] <;> (repeat' split) <;> simp
@[simp] theorem selectSlot_trend (s : State) (st : Station) (tag : Byte) (i : SlotNo) : (s.selectSlot st tag i).trend = s.trend := by
  simp only [State.selectSlot] <;> (repeat' split) <;> simp
@[simp] theorem serveSelect_trend (s : State) (st : Station) (tag : Byte) (p : List Byte) : (s.serveSelect st tag p).trend = s.trend := by
  simp only [State.serveSelect] <;> (repeat' split) <;> simp
@[simp] theorem handMachine_trend (s : State) (old : MachineRecord) : (s.handMachine old).trend = s.trend := by
  simp only [State.handMachine] <;> (repeat' split) <;> simp
@[simp] theorem machineReply_trend (s : State) (st : Station) (k : RequestKind) (tag : Byte) (c : Status) : (s.machineReply st k tag c).trend = s.trend := by
  simp only [State.machineReply] <;> (repeat' split) <;> simp
@[simp] theorem acceptMachine_trend (s : State) (st : Station) (tag : Byte) (c : Status) (m : MachineRecord) : (s.acceptMachine st tag c m).trend = s.trend := by
  simp only [State.acceptMachine] <;> (repeat' split) <;> simp
@[simp] theorem judgeMachine_trend (s : State) (st : Station) (tag : Byte) (m : MachineRecord) : (s.judgeMachine st tag m).trend = s.trend := by
  simp only [State.judgeMachine] <;> (repeat' split) <;> simp
@[simp] theorem serveMachineWrite_trend (s : State) (st : Station) (tag : Byte) (p : List Byte) : (s.serveMachineWrite st tag p).trend = s.trend := by
  simp only [State.serveMachineWrite] <;> (repeat' split) <;> simp
@[simp] theorem serveMachineRead_trend (s : State) (st : Station) (tag : Byte) : (s.serveMachineRead st tag).trend = s.trend := by
  simp only [State.serveMachineRead] <;> (repeat' split) <;> simp
@[simp] theorem serveSubscribe_trend (s : State) (st : Station) (tag : Byte) (p : List Byte) : (s.serveSubscribe st tag p).trend = s.trend := by
  simp only [State.serveSubscribe] <;> (repeat' split) <;> simp
@[simp] theorem serve_trend (s : State) (k : RequestKind) (st : Station) (tag : Byte) (p : List Byte) : (s.serve k st tag p).trend = s.trend := by
  simp only [State.serve] <;> (repeat' split) <;> simp
@[simp] theorem judgeKnown_trend (s : State) (k : RequestKind) (st : Station) (tag : Byte) (p : List Byte) : (s.judgeKnown k st tag p).trend = s.trend := by
  simp only [State.judgeKnown] <;> (repeat' split) <;> simp
@[simp] theorem answerUnknown_trend (s : State) (st : Station) (tag : Byte) : (s.answerUnknown st tag).trend = s.trend := by
  simp only [State.answerUnknown] <;> (repeat' split) <;> simp
@[simp] theorem judgeKind_trend (s : State) (st : Station) (kind tag : Byte) (p : List Byte) : (s.judgeKind st kind tag p).trend = s.trend := by
  simp only [State.judgeKind] <;> (repeat' split) <;> simp
@[simp] theorem telegram_trend (s : State) (st : Station) (kind tag : Byte) (p : List Byte) : (s.telegram st kind tag p).trend = s.trend := by
  simp only [State.telegram] <;> (repeat' split) <;> simp
@[simp] theorem telegramArrival_trend (s : State) (st : Station) (k t : Byte) (p : List Byte) : (s.telegramArrival st k t p).trend = s.trend := by
  simp only [State.telegramArrival] <;> (repeat' split) <;> simp
@[simp] theorem storeChar_trend (s : State) (st : Station) (cs : List Byte) (b : Byte) : (s.storeChar st cs b).trend = s.trend := by
  simp only [State.storeChar] <;> (repeat' split) <;> simp
@[simp] theorem takeChar_trend (s : State) (st : Station) (c : Character) : (s.takeChar st c).trend = s.trend := by
  simp only [State.dropTelegram, State.takeChar] <;> (repeat' split) <;> simp
@[simp] theorem takeLine_trend (s : State) (st : Station) (e : LineEvent) : (s.takeLine st e).trend = s.trend := by
  cases e <;> simp [State.takeLine]
@[simp] theorem absence_trend (s : State) (st : Station) : (s.absence st).trend = s.trend := by
  simp only [State.absence] <;> (repeat' split) <;> simp
@[simp] theorem transmitted_trend (s : State) (st : Station) : (s.transmitted st).trend = s.trend := by
  simp only [State.transmitted] <;> (repeat' split) <;> simp
@[simp] theorem storeHeadChar_trend (s : State) (cs : List Byte) (b : Byte) : (s.storeHeadChar cs b).trend = s.trend := by
  simp only [State.setHeadRx, State.storeHeadChar] <;> (repeat' split) <;> simp
@[simp] theorem takeHeadChar_trend (s : State) (c : Character) : (s.takeHeadChar c).trend = s.trend := by
  simp only [State.setHeadRx, State.takeHeadChar] <;> (repeat' split) <;> simp

/-! ### What leaves the break supervisor alone -/

@[simp] theorem onPort_brk (s : State) (st : Station) (f : Port → Port) : (s.onPort st f).brk = s.brk := by
  simp only [State.onPort] <;> (repeat' split) <;> simp
@[simp] theorem startBit_brk (s : State) (st : Station) : (s.startBit st).brk = s.brk := by
  simp only [State.startBit] <;> (repeat' split) <;> simp
@[simp] theorem onPorts_brk (s : State) (f : Port → Port) : (s.onPorts f).brk = s.brk := by
  simp only [State.onPorts] <;> (repeat' split) <;> simp
@[simp] theorem reply_brk (s : State) (st : Station) (k : RequestKind) (tag : Byte) (b : ReplyBody) : (s.reply st k tag b).brk = s.brk := by
  simp only [State.reply] <;> (repeat' split) <;> simp
@[simp] theorem offer_brk (s : State) (n : Notice) : (s.offer n).brk = s.brk := by
  simp only [State.offer] <;> (repeat' split) <;> simp
@[simp] theorem settle_brk (s : State) : (s.settle).brk = s.brk := by
  simp only [State.settle] <;> (repeat' split) <;> simp
@[simp] theorem serveScan_brk (s : State) (st : Station) (tag : Byte) (q : ScanQuery) (i : Nat) : (s.serveScan st tag q i).brk = s.brk := by
  simp only [State.serveScan] <;> (repeat' split) <;> simp
@[simp] theorem endPending_brk (s : State) (st : Station) (b : ReplyBody) : (s.endPending st b).brk = s.brk := by
  simp only [State.endPending] <;> (repeat' split) <;> simp
@[simp] theorem endPendingByBreak_brk (s : State) : (s.endPendingByBreak).brk = s.brk := by
  simp only [State.endPendingByBreak] <;> (repeat' split) <;> simp
@[simp] theorem servePending_brk (s : State) (i : Nat) (st : Station) : (s.servePending i st).brk = s.brk := by
  simp only [State.servePending] <;> (repeat' split) <;> simp
@[simp] theorem serveAllPending_brk (s : State) (i : Nat) : (s.serveAllPending i).brk = s.brk := by
  simp only [State.serveAllPending] <;> (repeat' split) <;> simp
@[simp] theorem endStretch_brk (s : State) : (s.endStretch).brk = s.brk := by
  simp only [State.endStretch] <;> (repeat' split) <;> simp
@[simp] theorem stopAssessment_brk (s : State) : (s.stopAssessment).brk = s.brk := by
  simp only [State.stopAssessment] <;> (repeat' split) <;> simp
@[simp] theorem absentTake_brk (s : State) (x : Sample) : (s.absentTake x).brk = s.brk := by
  simp only [State.absentTake] <;> (repeat' split) <;> simp
@[simp] theorem absentNextWindow_brk (s : State) : (s.absentNextWindow).brk = s.brk := by
  simp only [State.absentNextWindow] <;> (repeat' split) <;> simp
@[simp] theorem holeTake_brk (s : State) (x : Sample) : (s.holeTake x).brk = s.brk := by
  simp only [State.holeTake] <;> (repeat' split) <;> simp
@[simp] theorem holeTransfer_brk (s : State) (src : ReportSource) : (s.holeTransfer src).brk = s.brk := by
  simp only [State.holeTransfer] <;> (repeat' split) <;> simp
@[simp] theorem updateEdges_brk (s : State) (e : EdgeTracker) : (s.updateEdges e).brk = s.brk := by
  simp only [State.updateEdges] <;> (repeat' split) <;> simp
@[simp] theorem edgeTake_brk (s : State) (x : Sample) : (s.edgeTake x).brk = s.brk := by
  simp only [State.edgeTake] <;> (repeat' split) <;> simp
@[simp] theorem binTake_brk (s : State) (x : Sample) : (s.binTake x).brk = s.brk := by
  simp only [State.binTake] <;> (repeat' split) <;> simp
@[simp] theorem profileRestart_brk (s : State) : (s.profileRestart).brk = s.brk := by
  simp only [State.profileRestart] <;> (repeat' split) <;> simp
@[simp] theorem clearContinuity_brk (s : State) : (s.clearContinuity).brk = s.brk := by
  simp only [State.clearContinuity] <;> (repeat' split) <;> simp
@[simp] theorem deferredAtAbort_brk (s : State) : (s.deferredAtAbort).brk = s.brk := by
  simp only [State.deferredAtAbort] <;> (repeat' split) <;> simp
@[simp] theorem profileActivation_brk (s : State) (l : Layout) : (s.profileActivation l).brk = s.brk := by
  simp only [State.profileActivation] <;> (repeat' split) <;> simp
@[simp] theorem adopt_brk (s : State) : (s.adopt).brk = s.brk := by
  simp only [State.adopt] <;> (repeat' split) <;> simp
@[simp] theorem dropPendingSet_brk (s : State) : (s.dropPendingSet).brk = s.brk := by
  simp only [State.dropPendingSet] <;> (repeat' split) <;> simp
@[simp] theorem startRecord_brk (s : State) (dir : ScanDir) : (s.startRecord dir).brk = s.brk := by
  simp only [State.startRecord] <;> (repeat' split) <;> simp
@[simp] theorem voidRecord_brk (s : State) : (s.voidRecord).brk = s.brk := by
  simp only [State.voidRecord] <;> (repeat' split) <;> simp
@[simp] theorem markLinkGaps_brk (s : State) : (s.markLinkGaps).brk = s.brk := by
  simp only [State.markLinkGaps] <;> (repeat' split) <;> simp
@[simp] theorem markTachHeld_brk (s : State) : (s.markTachHeld).brk = s.brk := by
  simp only [State.markTachHeld] <;> (repeat' split) <;> simp
@[simp] theorem closeAt_brk (s : State) (i : Nat) : (s.closeAt i).brk = s.brk := by
  simp only [State.closeAt] <;> (repeat' split) <;> simp
@[simp] theorem startPeriod_brk (s : State) : (s.startPeriod).brk = s.brk := by
  simp only [State.startPeriod] <;> (repeat' split) <;> simp
@[simp] theorem dropPeriod_brk (s : State) : (s.dropPeriod).brk = s.brk := by
  simp only [State.dropPeriod] <;> (repeat' split) <;> simp
@[simp] theorem periodSlot_brk (s : State) : (s.periodSlot).brk = s.brk := by
  simp only [State.periodSlot] <;> (repeat' split) <;> simp
@[simp] theorem pointTake_brk (s : State) (x : Sample) : (s.pointTake x).brk = s.brk := by
  simp only [State.pointTake] <;> (repeat' split) <;> simp
@[simp] theorem recordPeriod_brk (s : State) (p : PointPeriod) : (s.recordPeriod p).brk = s.brk := by
  simp only [State.recordPeriod] <;> (repeat' split) <;> simp
@[simp] theorem raise_brk (s : State) (c : HeadCommand) : (s.raise c).brk = s.brk := by
  simp only [State.raise] <;> (repeat' split) <;> simp
@[simp] theorem consumeStd_brk (s : State) : (s.consumeStd).brk = s.brk := by
  simp only [State.consumeStd] <;> (repeat' split) <;> simp
@[simp] theorem stdNotice_brk (s : State) : (s.stdNotice).brk = s.brk := by
  simp only [State.stdNotice] <;> (repeat' split) <;> simp
@[simp] theorem stdCommit_brk (s : State) : (s.stdCommit).brk = s.brk := by
  simp only [State.stdCommit] <;> (repeat' split) <;> simp
@[simp] theorem stdFail_brk (s : State) : (s.stdFail).brk = s.brk := by
  simp only [State.stdFail] <;> (repeat' split) <;> simp
@[simp] theorem stdNoRecord_brk (s : State) : (s.stdNoRecord).brk = s.brk := by
  simp only [State.stdNoRecord] <;> (repeat' split) <;> simp
@[simp] theorem abortRefOut_brk (s : State) : (s.abortRefOut).brk = s.brk := by
  simp only [State.abortRefOut] <;> (repeat' split) <;> simp
@[simp] theorem stdAbort_brk (s : State) : (s.stdAbort).brk = s.brk := by
  simp only [State.stdAbort] <;> (repeat' split) <;> simp
@[simp] theorem enterReference_brk (s : State) : (s.enterReference).brk = s.brk := by
  simp only [State.enterReference] <;> (repeat' split) <;> simp
@[simp] theorem enterWithdraw_brk (s : State) : (s.enterWithdraw).brk = s.brk := by
  simp only [State.enterWithdraw] <;> (repeat' split) <;> simp
@[simp] theorem zeroEnd_brk (s : State) : (s.zeroEnd).brk = s.brk := by
  simp only [State.zeroEnd] <;> (repeat' split) <;> simp
@[simp] theorem referenceEnd_brk (s : State) : (s.referenceEnd).brk = s.brk := by
  simp only [State.referenceEnd] <;> (repeat' split) <;> simp
@[simp] theorem collectionSlot_brk (s : State) (raw : Option RawSample) : (s.collectionSlot raw).brk = s.brk := by
  simp only [State.collectionSlot] <;> (repeat' split) <;> simp
@[simp] theorem tileSeen_brk (s : State) : (s.tileSeen).brk = s.brk := by
  simp only [State.tileSeen] <;> (repeat' split) <;> simp
@[simp] theorem tileExpired_brk (s : State) : (s.tileExpired).brk = s.brk := by
  simp only [State.tileExpired] <;> (repeat' split) <;> simp
@[simp] theorem stuckTile_brk (s : State) : (s.stuckTile).brk = s.brk := by
  simp only [State.stuckTile] <;> (repeat' split) <;> simp
@[simp] theorem toHead_brk (s : State) (h : HeadState) : (s.toHead h).brk = s.brk := by
  simp only [State.toHead] <;> (repeat' split) <;> simp
@[simp] theorem headNotice_brk (s : State) : (s.headNotice).brk = s.brk := by
  simp only [State.headNotice] <;> (repeat' split) <;> simp
@[simp] theorem grantTo_brk (s : State) (g : Grant) : (s.grantTo g).brk = s.brk := by
  simp only [State.grantTo] <;> (repeat' split) <;> simp
@[simp] theorem driveOff_brk (s : State) : (s.driveOff).brk = s.brk := by
  simp only [State.driveOff] <;> (repeat' split) <;> simp
@[simp] theorem drive_brk (s : State) (d : Bool) (n : Nat) : (s.drive d n).brk = s.brk := by
  simp only [State.drive] <;> (repeat' split) <;> simp
@[simp] theorem startScan_brk (s : State) (dir : ScanDir) (a : Bool) : (s.startScan dir a).brk = s.brk := by
  simp only [State.startScan] <;> (repeat' split) <;> simp
@[simp] theorem enterHead_brk (s : State) (h : HeadState) (g : Grant) : (s.enterHead h g).brk = s.brk := by
  simp only [State.enterHead] <;> (repeat' split) <;> simp
@[simp] theorem arriveApproach_brk (s : State) : (s.arriveApproach).brk = s.brk := by
  simp only [State.arriveApproach] <;> (repeat' split) <;> simp
@[simp] theorem arrivePoint_brk (s : State) : (s.arrivePoint).brk = s.brk := by
  simp only [State.arrivePoint] <;> (repeat' split) <;> simp
@[simp] theorem faultStill_brk (s : State) (c : FaultCause) : (s.faultStill c).brk = s.brk := by
  simp only [State.faultEntryWith, State.scanAbortWith, State.faultStill] <;> (repeat' split) <;> simp
@[simp] theorem beginApproach_brk (s : State) (g : Grant) : (s.beginApproach g).brk = s.brk := by
  simp only [State.beginApproach] <;> (repeat' split) <;> simp
@[simp] theorem beginPositioning_brk (s : State) (st : Station) (p : Nat) : (s.beginPositioning st p).brk = s.brk := by
  simp only [State.beginPositioning] <;> (repeat' split) <;> simp
@[simp] theorem stayParked_brk (s : State) (g : Grant) : (s.stayParked g).brk = s.brk := by
  simp only [State.stayParked] <;> (repeat' split) <;> simp
@[simp] theorem decideParkedOther_brk (s : State) (g : Grant) : (s.decideParkedOther g).brk = s.brk := by
  simp only [State.decideParkedOther] <;> (repeat' split) <;> simp
@[simp] theorem startStd_brk (s : State) : (s.startStd).brk = s.brk := by
  simp only [State.startStd] <;> (repeat' split) <;> simp
@[simp] theorem decideParked_brk (s : State) : (s.decideParked).brk = s.brk := by
  simp only [State.decideParked] <;> (repeat' split) <;> simp
@[simp] theorem redecideIfParked_brk (s : State) : (s.redecideIfParked).brk = s.brk := by
  simp only [State.redecideIfParked] <;> (repeat' split) <;> simp
@[simp] theorem stdEnded_brk (s : State) : (s.stdEnded).brk = s.brk := by
  simp only [State.stdEnded] <;> (repeat' split) <;> simp
@[simp] theorem arriveParked_brk (s : State) : (s.arriveParked).brk = s.brk := by
  simp only [State.arriveParked] <;> (repeat' split) <;> simp
@[simp] theorem beginReturning_brk (s : State) (g : Grant) : (s.beginReturning g).brk = s.brk := by
  simp only [State.beginReturning] <;> (repeat' split) <;> simp
@[simp] theorem stdAtCompletion_brk (s : State) (dir : ScanDir) (a : Bool) : (s.stdAtCompletion dir a).brk = s.brk := by
  simp only [State.stdAtCompletion] <;> (repeat' split) <;> simp
@[simp] theorem scanAtCompletion_brk (s : State) (dir : ScanDir) (a : Bool) : (s.scanAtCompletion dir a).brk = s.brk := by
  simp only [State.scanAtCompletion] <;> (repeat' split) <;> simp
@[simp] theorem decideCompletion_brk (s : State) (dir : ScanDir) (a : Bool) : (s.decideCompletion dir a).brk = s.brk := by
  simp only [State.decideCompletion] <;> (repeat' split) <;> simp
@[simp] theorem decidePeriodEnd_brk (s : State) : (s.decidePeriodEnd).brk = s.brk := by
  simp only [State.decidePeriodEnd] <;> (repeat' split) <;> simp
@[simp] theorem beginSearch_brk (s : State) : (s.beginSearch).brk = s.brk := by
  simp only [State.beginSearch] <;> (repeat' split) <;> simp
@[simp] theorem homingBegun_brk (s : State) : (s.homingBegun).brk = s.brk := by
  simp only [State.homingBegun] <;> (repeat' split) <;> simp
@[simp] theorem enterHoming_brk (s : State) : (s.enterHoming).brk = s.brk := by
  simp only [State.enterHoming] <;> (repeat' split) <;> simp
@[simp] theorem indexFound_brk (s : State) : (s.indexFound).brk = s.brk := by
  simp only [State.indexFound] <;> (repeat' split) <;> simp
@[simp] theorem scanAbortWith_brk (act : State → State) (h : ∀ s, (act s).brk = s.brk) (s : State) : (s.scanAbortWith act).brk = s.brk := by
  simp only [State.scanAbortWith] <;> (repeat' split) <;> simp [h]
@[simp] theorem faultEntryWith_brk (act : State → State) (c : FaultCause) (h : ∀ s, (act s).brk = s.brk) (s : State) : (s.faultEntryWith act c).brk = s.brk := by
  simp only [State.faultEntryWith] <;> (repeat' split) <;> simp [h]
@[simp] theorem claimTakesEffectWith_brk (act : State → State) (h : ∀ s, (act s).brk = s.brk) (s : State) : (s.claimTakesEffectWith act).brk = s.brk := by
  simp only [State.claimTakesEffectWith] <;> (repeat' split) <;> simp [h]
@[simp] theorem breakNotice_brk (s : State) : (s.breakNotice).brk = s.brk := by
  simp only [State.breakNotice] <;> (repeat' split) <;> simp
@[simp] theorem clearLimits_brk (s : State) : (s.clearLimits).brk = s.brk := by
  simp only [State.clearLimits] <;> (repeat' split) <;> simp
@[simp] theorem recipeNotice_brk (s : State) (c : RecipeCause) : (s.recipeNotice c).brk = s.brk := by
  simp only [State.recipeNotice] <;> (repeat' split) <;> simp
@[simp] theorem reaim_brk (s : State) : (s.reaim).brk = s.brk := by
  simp only [State.reaim] <;> (repeat' split) <;> simp
@[simp] theorem completeEdges_brk (s : State) (e : Option Edges) : (s.completeEdges e).brk = s.brk := by
  simp only [State.completeEdges] <;> (repeat' split) <;> simp
@[simp] theorem closeFilling_brk (s : State) : (s.closeFilling).brk = s.brk := by
  simp only [State.closeFilling] <;> (repeat' split) <;> simp
@[simp] theorem completeRecord_brk (s : State) (dir : ScanDir) : (s.completeRecord dir).brk = s.brk := by
  simp only [State.completeRecord] <;> (repeat' split) <;> simp
@[simp] theorem completeStd_brk (s : State) : (s.completeStd).brk = s.brk := by
  simp only [State.completeStd] <;> (repeat' split) <;> simp
@[simp] theorem evaluateLimits_brk (s : State) (r : ScanRecord) : (s.evaluateLimits r).brk = s.brk := by
  simp only [State.evaluateLimits] <;> (repeat' split) <;> simp
@[simp] theorem reportHoles_brk (s : State) (src : ReportSource) : (s.reportHoles src).brk = s.brk := by
  simp only [State.reportHoles] <;> (repeat' split) <;> simp
@[simp] theorem completeHoles_brk (s : State) : (s.completeHoles).brk = s.brk := by
  simp only [State.completeHoles] <;> (repeat' split) <;> simp
@[simp] theorem completeLimits_brk (s : State) : (s.completeLimits).brk = s.brk := by
  simp only [State.completeLimits] <;> (repeat' split) <;> simp
@[simp] theorem handOn_brk (s : State) (x : Sample) : (s.handOn x).brk = s.brk := by
  simp only [State.handOn] <;> (repeat' split) <;> simp
@[simp] theorem linkLost_brk (s : State) : (s.linkLost).brk = s.brk := by
  simp only [State.linkLost] <;> (repeat' split) <;> simp
@[simp] theorem linkWindowEnd_brk (s : State) : (s.linkWindowEnd).brk = s.brk := by
  simp only [State.linkWindowEnd] <;> (repeat' split) <;> simp
@[simp] theorem pointPeriodEnd_brk (s : State) : (s.pointPeriodEnd).brk = s.brk := by
  simp only [State.pointPeriodEnd] <;> (repeat' split) <;> simp
@[simp] theorem rejudgeAtSpeed_brk (s : State) : (s.rejudgeAtSpeed).brk = s.brk := by
  simp only [State.rejudgeAtSpeed] <;> (repeat' split) <;> simp
@[simp] theorem gateEnd_brk (s : State) : (s.gateEnd).brk = s.brk := by
  simp only [State.gateEnd] <;> (repeat' split) <;> simp
@[simp] theorem lossExpiry_brk (s : State) : (s.lossExpiry).brk = s.brk := by
  simp only [State.lossExpiry] <;> (repeat' split) <;> simp
@[simp] theorem serveStatus_brk (s : State) (st : Station) (tag : Byte) : (s.serveStatus st tag).brk = s.brk := by
  simp only [State.serveStatus] <;> (repeat' split) <;> simp
@[simp] theorem answer_brk (s : State) (st : Station) (k : RequestKind) (tag : Byte) (c : Status) : (s.answer st k tag c).brk = s.brk := by
  simp only [State.answer] <;> (repeat' split) <;> simp
@[simp] theorem serveFound_brk (s : State) (st : Station) (tag : Byte) (q : ScanQuery) (i : Option Nat) : (s.serveFound st tag q i).brk = s.brk := by
  simp only [State.serveFound] <;> (repeat' split) <;> simp
@[simp] theorem makePending_brk (s : State) (st : Station) (tag : Byte) (q : ScanQuery) (m : BitVec 16) (wait : Nat) : (s.makePending st tag q m wait).brk = s.brk := by
  simp only [State.makePending] <;> (repeat' split) <;> simp
@[simp] theorem serveMinimum_brk (s : State) (st : Station) (tag : Byte) (q : ScanQuery) (m : BitVec 16) (wait : Nat) : (s.serveMinimum st tag q m wait).brk = s.brk := by
  simp only [State.serveMinimum] <;> (repeat' split) <;> simp
@[simp] theorem serveReadScan_brk (s : State) (st : Station) (tag : Byte) (p : List Byte) : (s.serveReadScan st tag p).brk = s.brk := by
  simp only [State.serveReadScan] <;> (repeat' split) <;> simp
@[simp] theorem serveReadTrend_brk (s : State) (st : Station) (tag : Byte) : (s.serveReadTrend st tag).brk = s.brk := by
  simp only [State.serveReadTrend] <;> (repeat' split) <;> simp
@[simp] theorem serveReadPoints_brk (s : State) (st : Station) (tag : Byte) (p : List Byte) : (s.serveReadPoints st tag p).brk = s.brk := by
  simp only [State.serveReadPoints] <;> (repeat' split) <;> simp
@[simp] theorem serveReadStandardization_brk (s : State) (st : Station) (tag : Byte) : (s.serveReadStandardization st tag).brk = s.brk := by
  simp only [State.serveReadStandardization] <;> (repeat' split) <;> simp
@[simp] theorem serveCancel_brk (s : State) (st : Station) (tag : Byte) : (s.serveCancel st tag).brk = s.brk := by
  simp only [State.serveCancel] <;> (repeat' split) <;> simp
@[simp] theorem setSlot_brk (s : State) (st : Station) (m : ModeSlot) : (s.setSlot st m).brk = s.brk := by
  simp only [State.setSlot] <;> (repeat' split) <;> simp
@[simp] theorem modeReply_brk (s : State) (st : Station) (tag : Byte) (c : Status) : (s.modeReply st tag c).brk = s.brk := by
  simp only [State.modeReply] <;> (repeat' split) <;> simp
@[simp] theorem modeRelease_brk (s : State) (st : Station) (tag : Byte) : (s.modeRelease st tag).brk = s.brk := by
  simp only [State.modeRelease] <;> (repeat' split) <;> simp
@[simp] theorem modeStandardize_brk (s : State) (st : Station) (tag : Byte) : (s.modeStandardize st tag).brk = s.brk := by
  simp only [State.modeStandardize] <;> (repeat' split) <;> simp
@[simp] theorem modePoint_brk (s : State) (st : Station) (tag : Byte) (pos : Nat) : (s.modePoint st tag pos).brk = s.brk := by
  simp only [State.modePoint] <;> (repeat' split) <;> simp
@[simp] theorem serveClearFault_brk (s : State) (st : Station) (tag : Byte) : (s.serveClearFault st tag).brk = s.brk := by
  simp only [State.serveClearFault] <;> (repeat' split) <;> simp
@[simp] theorem takeCountReply_brk (s : State) (st : Station) (tag : Byte) (m : HoleMode) : (s.takeCountReply st tag m).brk = s.brk := by
  simp only [State.takeCountReply] <;> (repeat' split) <;> simp
@[simp] theorem serveTakeCount_brk (s : State) (st : Station) (tag : Byte) : (s.serveTakeCount st tag).brk = s.brk := by
  simp only [State.serveTakeCount] <;> (repeat' split) <;> simp
@[simp] theorem serveRestart_brk (s : State) (st : Station) (tag : Byte) : (s.serveRestart st tag).brk = s.brk := by
  simp only [State.serveRestart] <;> (repeat' split) <;> simp
@[simp] theorem writeRecipe_brk (s : State) (st : Station) (tag : Byte) (p : List Byte) (i : SlotNo) (g : Group) : (s.writeRecipe st tag p i g).brk = s.brk := by
  simp only [State.writeRecipe] <;> (repeat' split) <;> simp
@[simp] theorem serveRecipeWrite_brk (s : State) (st : Station) (tag : Byte) (p : List Byte) : (s.serveRecipeWrite st tag p).brk = s.brk := by
  simp only [State.serveRecipeWrite] <;> (repeat' split) <;> simp
@[simp] theorem serveRecipeRead_brk (s : State) (st : Station) (tag : Byte) (p : List Byte) : (s.serveRecipeRead st tag p).brk = s.brk := by
  simp only [State.serveRecipeRead] <;> (repeat' split) <;> simp
@[simp] theorem validateSlot_brk (s : State) (st : Station) (tag : Byte) (i : SlotNo) : (s.validateSlot st tag i).brk = s.brk := by
  simp only [State.validateSlot] <;> (repeat' split) <;> simp
@[simp] theorem serveValidate_brk (s : State) (st : Station) (tag : Byte) (p : List Byte) : (s.serveValidate st tag p).brk = s.brk := by
  simp only [State.serveValidate] <;> (repeat' split) <;> simp
@[simp] theorem selectReply_brk (s : State) (st : Station) (tag : Byte) (t : Timing) : (s.selectReply st tag t).brk = s.brk := by
  simp only [State.selectReply] <;> (repeat' split) <;> simp
@[simp] theorem machineReply_brk (s : State) (st : Station) (k : RequestKind) (tag : Byte) (c : Status) : (s.machineReply st k tag c).brk = s.brk := by
  simp only [State.machineReply] <;> (repeat' split) <;> simp
@[simp] theorem serveMachineRead_brk (s : State) (st : Station) (tag : Byte) : (s.serveMachineRead st tag).brk = s.brk := by
  simp only [State.serveMachineRead] <;> (repeat' split) <;> simp
@[simp] theorem serveSubscribe_brk (s : State) (st : Station) (tag : Byte) (p : List Byte) : (s.serveSubscribe st tag p).brk = s.brk := by
  simp only [State.serveSubscribe] <;> (repeat' split) <;> simp
@[simp] theorem answerUnknown_brk (s : State) (st : Station) (tag : Byte) : (s.answerUnknown st tag).brk = s.brk := by
  simp only [State.answerUnknown] <;> (repeat' split) <;> simp
@[simp] theorem absence_brk (s : State) (st : Station) : (s.absence st).brk = s.brk := by
  simp only [State.absence] <;> (repeat' split) <;> simp
@[simp] theorem transmitted_brk (s : State) (st : Station) : (s.transmitted st).brk = s.brk := by
  simp only [State.transmitted] <;> (repeat' split) <;> simp

/-! ### What leaves the traverse controller alone -/

@[simp] theorem onPort_head (s : State) (st : Station) (f : Port → Port) : (s.onPort st f).head = s.head := by
  simp only [State.onPort] <;> (repeat' split) <;> simp
@[simp] theorem startBit_head (s : State) (st : Station) : (s.startBit st).head = s.head := by
  simp only [State.startBit] <;> (repeat' split) <;> simp
@[simp] theorem onPorts_head (s : State) (f : Port → Port) : (s.onPorts f).head = s.head := by
  simp only [State.onPorts] <;> (repeat' split) <;> simp
@[simp] theorem reply_head (s : State) (st : Station) (k : RequestKind) (tag : Byte) (b : ReplyBody) : (s.reply st k tag b).head = s.head := by
  simp only [State.reply] <;> (repeat' split) <;> simp
@[simp] theorem offer_head (s : State) (n : Notice) : (s.offer n).head = s.head := by
  simp only [State.offer] <;> (repeat' split) <;> simp
@[simp] theorem settle_head (s : State) : (s.settle).head = s.head := by
  simp only [State.settle] <;> (repeat' split) <;> simp
@[simp] theorem serveScan_head (s : State) (st : Station) (tag : Byte) (q : ScanQuery) (i : Nat) : (s.serveScan st tag q i).head = s.head := by
  simp only [State.serveScan] <;> (repeat' split) <;> simp
@[simp] theorem endPending_head (s : State) (st : Station) (b : ReplyBody) : (s.endPending st b).head = s.head := by
  simp only [State.endPending] <;> (repeat' split) <;> simp
@[simp] theorem endPendingByBreak_head (s : State) : (s.endPendingByBreak).head = s.head := by
  simp only [State.endPendingByBreak] <;> (repeat' split) <;> simp
@[simp] theorem servePending_head (s : State) (i : Nat) (st : Station) : (s.servePending i st).head = s.head := by
  simp only [State.servePending] <;> (repeat' split) <;> simp
@[simp] theorem serveAllPending_head (s : State) (i : Nat) : (s.serveAllPending i).head = s.head := by
  simp only [State.serveAllPending] <;> (repeat' split) <;> simp
@[simp] theorem endStretch_head (s : State) : (s.endStretch).head = s.head := by
  simp only [State.endStretch] <;> (repeat' split) <;> simp
@[simp] theorem stopAssessment_head (s : State) : (s.stopAssessment).head = s.head := by
  simp only [State.stopAssessment] <;> (repeat' split) <;> simp
@[simp] theorem absentTake_head (s : State) (x : Sample) : (s.absentTake x).head = s.head := by
  simp only [State.absentTake] <;> (repeat' split) <;> simp
@[simp] theorem absentNextWindow_head (s : State) : (s.absentNextWindow).head = s.head := by
  simp only [State.absentNextWindow] <;> (repeat' split) <;> simp
@[simp] theorem holeTake_head (s : State) (x : Sample) : (s.holeTake x).head = s.head := by
  simp only [State.holeTake] <;> (repeat' split) <;> simp
@[simp] theorem holeTransfer_head (s : State) (src : ReportSource) : (s.holeTransfer src).head = s.head := by
  simp only [State.holeTransfer] <;> (repeat' split) <;> simp
@[simp] theorem updateEdges_head (s : State) (e : EdgeTracker) : (s.updateEdges e).head = s.head := by
  simp only [State.updateEdges] <;> (repeat' split) <;> simp
@[simp] theorem edgeTake_head (s : State) (x : Sample) : (s.edgeTake x).head = s.head := by
  simp only [State.edgeTake] <;> (repeat' split) <;> simp
@[simp] theorem binTake_head (s : State) (x : Sample) : (s.binTake x).head = s.head := by
  simp only [State.binTake] <;> (repeat' split) <;> simp
@[simp] theorem profileRestart_head (s : State) : (s.profileRestart).head = s.head := by
  simp only [State.profileRestart] <;> (repeat' split) <;> simp
@[simp] theorem clearContinuity_head (s : State) : (s.clearContinuity).head = s.head := by
  simp only [State.clearContinuity] <;> (repeat' split) <;> simp
@[simp] theorem deferredAtAbort_head (s : State) : (s.deferredAtAbort).head = s.head := by
  simp only [State.deferredAtAbort] <;> (repeat' split) <;> simp
@[simp] theorem profileActivation_head (s : State) (l : Layout) : (s.profileActivation l).head = s.head := by
  simp only [State.profileActivation] <;> (repeat' split) <;> simp
@[simp] theorem adopt_head (s : State) : (s.adopt).head = s.head := by
  simp only [State.adopt] <;> (repeat' split) <;> simp
@[simp] theorem dropPendingSet_head (s : State) : (s.dropPendingSet).head = s.head := by
  simp only [State.dropPendingSet] <;> (repeat' split) <;> simp
@[simp] theorem startRecord_head (s : State) (dir : ScanDir) : (s.startRecord dir).head = s.head := by
  simp only [State.startRecord] <;> (repeat' split) <;> simp
@[simp] theorem voidRecord_head (s : State) : (s.voidRecord).head = s.head := by
  simp only [State.voidRecord] <;> (repeat' split) <;> simp
@[simp] theorem markLinkGaps_head (s : State) : (s.markLinkGaps).head = s.head := by
  simp only [State.markLinkGaps] <;> (repeat' split) <;> simp
@[simp] theorem markTachHeld_head (s : State) : (s.markTachHeld).head = s.head := by
  simp only [State.markTachHeld] <;> (repeat' split) <;> simp
@[simp] theorem closeAt_head (s : State) (i : Nat) : (s.closeAt i).head = s.head := by
  simp only [State.closeAt] <;> (repeat' split) <;> simp
@[simp] theorem startPeriod_head (s : State) : (s.startPeriod).head = s.head := by
  simp only [State.startPeriod] <;> (repeat' split) <;> simp
@[simp] theorem dropPeriod_head (s : State) : (s.dropPeriod).head = s.head := by
  simp only [State.dropPeriod] <;> (repeat' split) <;> simp
@[simp] theorem periodSlot_head (s : State) : (s.periodSlot).head = s.head := by
  simp only [State.periodSlot] <;> (repeat' split) <;> simp
@[simp] theorem pointTake_head (s : State) (x : Sample) : (s.pointTake x).head = s.head := by
  simp only [State.pointTake] <;> (repeat' split) <;> simp
@[simp] theorem recordPeriod_head (s : State) (p : PointPeriod) : (s.recordPeriod p).head = s.head := by
  simp only [State.recordPeriod] <;> (repeat' split) <;> simp
@[simp] theorem raise_head (s : State) (c : HeadCommand) : (s.raise c).head = s.head := by
  simp only [State.raise] <;> (repeat' split) <;> simp
@[simp] theorem stdNotice_head (s : State) : (s.stdNotice).head = s.head := by
  simp only [State.stdNotice] <;> (repeat' split) <;> simp
@[simp] theorem abortRefOut_head (s : State) : (s.abortRefOut).head = s.head := by
  simp only [State.abortRefOut] <;> (repeat' split) <;> simp
@[simp] theorem stdAbort_head (s : State) : (s.stdAbort).head = s.head := by
  simp only [State.stdAbort] <;> (repeat' split) <;> simp
@[simp] theorem enterReference_head (s : State) : (s.enterReference).head = s.head := by
  simp only [State.enterReference] <;> (repeat' split) <;> simp
@[simp] theorem enterWithdraw_head (s : State) : (s.enterWithdraw).head = s.head := by
  simp only [State.enterWithdraw] <;> (repeat' split) <;> simp
@[simp] theorem zeroEnd_head (s : State) : (s.zeroEnd).head = s.head := by
  simp only [State.zeroEnd] <;> (repeat' split) <;> simp
@[simp] theorem referenceEnd_head (s : State) : (s.referenceEnd).head = s.head := by
  simp only [State.referenceEnd] <;> (repeat' split) <;> simp
@[simp] theorem collectionSlot_head (s : State) (raw : Option RawSample) : (s.collectionSlot raw).head = s.head := by
  simp only [State.collectionSlot] <;> (repeat' split) <;> simp
@[simp] theorem tileSeen_head (s : State) : (s.tileSeen).head = s.head := by
  simp only [State.tileSeen] <;> (repeat' split) <;> simp
@[simp] theorem tileExpired_head (s : State) : (s.tileExpired).head = s.head := by
  simp only [State.tileExpired] <;> (repeat' split) <;> simp
@[simp] theorem headNotice_head (s : State) : (s.headNotice).head = s.head := by
  simp only [State.headNotice] <;> (repeat' split) <;> simp
@[simp] theorem breakNotice_head (s : State) : (s.breakNotice).head = s.head := by
  simp only [State.breakNotice] <;> (repeat' split) <;> simp
@[simp] theorem addCauses_head (s : State) (t : PerDetector Bool) : (s.addCauses t).head = s.head := by
  simp only [State.addCauses] <;> (repeat' split) <;> simp
@[simp] theorem judgeInEntry_head (s : State) (t c : PerDetector Bool) : (s.judgeInEntry t c).head = s.head := by
  simp only [State.judgeInEntry] <;> (repeat' split) <;> simp
@[simp] theorem clearLimits_head (s : State) : (s.clearLimits).head = s.head := by
  simp only [State.clearLimits] <;> (repeat' split) <;> simp
@[simp] theorem recipeNotice_head (s : State) (c : RecipeCause) : (s.recipeNotice c).head = s.head := by
  simp only [State.recipeNotice] <;> (repeat' split) <;> simp
@[simp] theorem completeEdges_head (s : State) (e : Option Edges) : (s.completeEdges e).head = s.head := by
  simp only [State.completeEdges] <;> (repeat' split) <;> simp
@[simp] theorem closeFilling_head (s : State) : (s.closeFilling).head = s.head := by
  simp only [State.closeFilling] <;> (repeat' split) <;> simp
@[simp] theorem completeStd_head (s : State) : (s.completeStd).head = s.head := by
  simp only [State.completeStd] <;> (repeat' split) <;> simp
@[simp] theorem completeRecovery_head (s : State) : (s.completeRecovery).head = s.head := by
  simp only [State.completeRecovery] <;> (repeat' split) <;> simp
@[simp] theorem evaluateLimits_head (s : State) (r : ScanRecord) : (s.evaluateLimits r).head = s.head := by
  simp only [State.evaluateLimits] <;> (repeat' split) <;> simp
@[simp] theorem reportHoles_head (s : State) (src : ReportSource) : (s.reportHoles src).head = s.head := by
  simp only [State.reportHoles] <;> (repeat' split) <;> simp
@[simp] theorem completeHoles_head (s : State) : (s.completeHoles).head = s.head := by
  simp only [State.completeHoles] <;> (repeat' split) <;> simp
@[simp] theorem completeLimits_head (s : State) : (s.completeLimits).head = s.head := by
  simp only [State.completeLimits] <;> (repeat' split) <;> simp
@[simp] theorem handOn_head (s : State) (x : Sample) : (s.handOn x).head = s.head := by
  simp only [State.handOn] <;> (repeat' split) <;> simp
@[simp] theorem rejudgeAtSpeed_head (s : State) : (s.rejudgeAtSpeed).head = s.head := by
  simp only [State.rejudgeAtSpeed] <;> (repeat' split) <;> simp
@[simp] theorem gateEnd_head (s : State) : (s.gateEnd).head = s.head := by
  simp only [State.gateEnd] <;> (repeat' split) <;> simp
@[simp] theorem lossExpiry_head (s : State) : (s.lossExpiry).head = s.head := by
  simp only [State.lossExpiry] <;> (repeat' split) <;> simp
@[simp] theorem levelChange_head (s : State) (d : Detector) (h : Bool) : (s.levelChange d h).head = s.head := by
  simp only [State.levelChange] <;> (repeat' split) <;> simp
@[simp] theorem serveStatus_head (s : State) (st : Station) (tag : Byte) : (s.serveStatus st tag).head = s.head := by
  simp only [State.serveStatus] <;> (repeat' split) <;> simp
@[simp] theorem answer_head (s : State) (st : Station) (k : RequestKind) (tag : Byte) (c : Status) : (s.answer st k tag c).head = s.head := by
  simp only [State.answer] <;> (repeat' split) <;> simp
@[simp] theorem serveFound_head (s : State) (st : Station) (tag : Byte) (q : ScanQuery) (i : Option Nat) : (s.serveFound st tag q i).head = s.head := by
  simp only [State.serveFound] <;> (repeat' split) <;> simp
@[simp] theorem makePending_head (s : State) (st : Station) (tag : Byte) (q : ScanQuery) (m : BitVec 16) (wait : Nat) : (s.makePending st tag q m wait).head = s.head := by
  simp only [State.makePending] <;> (repeat' split) <;> simp
@[simp] theorem serveMinimum_head (s : State) (st : Station) (tag : Byte) (q : ScanQuery) (m : BitVec 16) (wait : Nat) : (s.serveMinimum st tag q m wait).head = s.head := by
  simp only [State.serveMinimum] <;> (repeat' split) <;> simp
@[simp] theorem serveReadScan_head (s : State) (st : Station) (tag : Byte) (p : List Byte) : (s.serveReadScan st tag p).head = s.head := by
  simp only [State.serveReadScan] <;> (repeat' split) <;> simp
@[simp] theorem serveReadTrend_head (s : State) (st : Station) (tag : Byte) : (s.serveReadTrend st tag).head = s.head := by
  simp only [State.serveReadTrend] <;> (repeat' split) <;> simp
@[simp] theorem serveReadPoints_head (s : State) (st : Station) (tag : Byte) (p : List Byte) : (s.serveReadPoints st tag p).head = s.head := by
  simp only [State.serveReadPoints] <;> (repeat' split) <;> simp
@[simp] theorem serveReadStandardization_head (s : State) (st : Station) (tag : Byte) : (s.serveReadStandardization st tag).head = s.head := by
  simp only [State.serveReadStandardization] <;> (repeat' split) <;> simp
@[simp] theorem serveCancel_head (s : State) (st : Station) (tag : Byte) : (s.serveCancel st tag).head = s.head := by
  simp only [State.serveCancel] <;> (repeat' split) <;> simp
@[simp] theorem modeReply_head (s : State) (st : Station) (tag : Byte) (c : Status) : (s.modeReply st tag c).head = s.head := by
  simp only [State.modeReply] <;> (repeat' split) <;> simp
@[simp] theorem takeCountReply_head (s : State) (st : Station) (tag : Byte) (m : HoleMode) : (s.takeCountReply st tag m).head = s.head := by
  simp only [State.takeCountReply] <;> (repeat' split) <;> simp
@[simp] theorem serveTakeCount_head (s : State) (st : Station) (tag : Byte) : (s.serveTakeCount st tag).head = s.head := by
  simp only [State.serveTakeCount] <;> (repeat' split) <;> simp
@[simp] theorem serveRestart_head (s : State) (st : Station) (tag : Byte) : (s.serveRestart st tag).head = s.head := by
  simp only [State.serveRestart] <;> (repeat' split) <;> simp
@[simp] theorem writeRecipe_head (s : State) (st : Station) (tag : Byte) (p : List Byte) (i : SlotNo) (g : Group) : (s.writeRecipe st tag p i g).head = s.head := by
  simp only [State.writeRecipe] <;> (repeat' split) <;> simp
@[simp] theorem serveRecipeWrite_head (s : State) (st : Station) (tag : Byte) (p : List Byte) : (s.serveRecipeWrite st tag p).head = s.head := by
  simp only [State.serveRecipeWrite] <;> (repeat' split) <;> simp
@[simp] theorem serveRecipeRead_head (s : State) (st : Station) (tag : Byte) (p : List Byte) : (s.serveRecipeRead st tag p).head = s.head := by
  simp only [State.serveRecipeRead] <;> (repeat' split) <;> simp
@[simp] theorem validateSlot_head (s : State) (st : Station) (tag : Byte) (i : SlotNo) : (s.validateSlot st tag i).head = s.head := by
  simp only [State.validateSlot] <;> (repeat' split) <;> simp
@[simp] theorem serveValidate_head (s : State) (st : Station) (tag : Byte) (p : List Byte) : (s.serveValidate st tag p).head = s.head := by
  simp only [State.serveValidate] <;> (repeat' split) <;> simp
@[simp] theorem selectReply_head (s : State) (st : Station) (tag : Byte) (t : Timing) : (s.selectReply st tag t).head = s.head := by
  simp only [State.selectReply] <;> (repeat' split) <;> simp
@[simp] theorem handMachine_head (s : State) (old : MachineRecord) : (s.handMachine old).head = s.head := by
  simp only [State.handMachine] <;> (repeat' split) <;> simp
@[simp] theorem machineReply_head (s : State) (st : Station) (k : RequestKind) (tag : Byte) (c : Status) : (s.machineReply st k tag c).head = s.head := by
  simp only [State.machineReply] <;> (repeat' split) <;> simp
@[simp] theorem acceptMachine_head (s : State) (st : Station) (tag : Byte) (c : Status) (m : MachineRecord) : (s.acceptMachine st tag c m).head = s.head := by
  simp only [State.acceptMachine] <;> (repeat' split) <;> simp
@[simp] theorem judgeMachine_head (s : State) (st : Station) (tag : Byte) (m : MachineRecord) : (s.judgeMachine st tag m).head = s.head := by
  simp only [State.judgeMachine] <;> (repeat' split) <;> simp
@[simp] theorem serveMachineWrite_head (s : State) (st : Station) (tag : Byte) (p : List Byte) : (s.serveMachineWrite st tag p).head = s.head := by
  simp only [State.serveMachineWrite] <;> (repeat' split) <;> simp
@[simp] theorem serveMachineRead_head (s : State) (st : Station) (tag : Byte) : (s.serveMachineRead st tag).head = s.head := by
  simp only [State.serveMachineRead] <;> (repeat' split) <;> simp
@[simp] theorem serveSubscribe_head (s : State) (st : Station) (tag : Byte) (p : List Byte) : (s.serveSubscribe st tag p).head = s.head := by
  simp only [State.serveSubscribe] <;> (repeat' split) <;> simp
@[simp] theorem answerUnknown_head (s : State) (st : Station) (tag : Byte) : (s.answerUnknown st tag).head = s.head := by
  simp only [State.answerUnknown] <;> (repeat' split) <;> simp
@[simp] theorem transmitted_head (s : State) (st : Station) : (s.transmitted st).head = s.head := by
  simp only [State.transmitted] <;> (repeat' split) <;> simp

/-! ### What leaves the standardization unit alone -/

@[simp] theorem onPort_std (s : State) (st : Station) (f : Port → Port) : (s.onPort st f).std = s.std := by
  simp only [State.onPort] <;> (repeat' split) <;> simp
@[simp] theorem startBit_std (s : State) (st : Station) : (s.startBit st).std = s.std := by
  simp only [State.startBit] <;> (repeat' split) <;> simp
@[simp] theorem onPorts_std (s : State) (f : Port → Port) : (s.onPorts f).std = s.std := by
  simp only [State.onPorts] <;> (repeat' split) <;> simp
@[simp] theorem reply_std (s : State) (st : Station) (k : RequestKind) (tag : Byte) (b : ReplyBody) : (s.reply st k tag b).std = s.std := by
  simp only [State.reply] <;> (repeat' split) <;> simp
@[simp] theorem offer_std (s : State) (n : Notice) : (s.offer n).std = s.std := by
  simp only [State.offer] <;> (repeat' split) <;> simp
@[simp] theorem settle_std (s : State) : (s.settle).std = s.std := by
  simp only [State.settle] <;> (repeat' split) <;> simp
@[simp] theorem serveScan_std (s : State) (st : Station) (tag : Byte) (q : ScanQuery) (i : Nat) : (s.serveScan st tag q i).std = s.std := by
  simp only [State.serveScan] <;> (repeat' split) <;> simp
@[simp] theorem endPending_std (s : State) (st : Station) (b : ReplyBody) : (s.endPending st b).std = s.std := by
  simp only [State.endPending] <;> (repeat' split) <;> simp
@[simp] theorem endPendingByBreak_std (s : State) : (s.endPendingByBreak).std = s.std := by
  simp only [State.endPendingByBreak] <;> (repeat' split) <;> simp
@[simp] theorem servePending_std (s : State) (i : Nat) (st : Station) : (s.servePending i st).std = s.std := by
  simp only [State.servePending] <;> (repeat' split) <;> simp
@[simp] theorem serveAllPending_std (s : State) (i : Nat) : (s.serveAllPending i).std = s.std := by
  simp only [State.serveAllPending] <;> (repeat' split) <;> simp
@[simp] theorem endStretch_std (s : State) : (s.endStretch).std = s.std := by
  simp only [State.endStretch] <;> (repeat' split) <;> simp
@[simp] theorem stopAssessment_std (s : State) : (s.stopAssessment).std = s.std := by
  simp only [State.stopAssessment] <;> (repeat' split) <;> simp
@[simp] theorem absentTake_std (s : State) (x : Sample) : (s.absentTake x).std = s.std := by
  simp only [State.absentTake] <;> (repeat' split) <;> simp
@[simp] theorem absentNextWindow_std (s : State) : (s.absentNextWindow).std = s.std := by
  simp only [State.absentNextWindow] <;> (repeat' split) <;> simp
@[simp] theorem holeTake_std (s : State) (x : Sample) : (s.holeTake x).std = s.std := by
  simp only [State.holeTake] <;> (repeat' split) <;> simp
@[simp] theorem holeTransfer_std (s : State) (src : ReportSource) : (s.holeTransfer src).std = s.std := by
  simp only [State.holeTransfer] <;> (repeat' split) <;> simp
@[simp] theorem updateEdges_std (s : State) (e : EdgeTracker) : (s.updateEdges e).std = s.std := by
  simp only [State.updateEdges] <;> (repeat' split) <;> simp
@[simp] theorem edgeTake_std (s : State) (x : Sample) : (s.edgeTake x).std = s.std := by
  simp only [State.edgeTake] <;> (repeat' split) <;> simp
@[simp] theorem binTake_std (s : State) (x : Sample) : (s.binTake x).std = s.std := by
  simp only [State.binTake] <;> (repeat' split) <;> simp
@[simp] theorem profileRestart_std (s : State) : (s.profileRestart).std = s.std := by
  simp only [State.profileRestart] <;> (repeat' split) <;> simp
@[simp] theorem clearContinuity_std (s : State) : (s.clearContinuity).std = s.std := by
  simp only [State.clearContinuity] <;> (repeat' split) <;> simp
@[simp] theorem deferredAtAbort_std (s : State) : (s.deferredAtAbort).std = s.std := by
  simp only [State.deferredAtAbort] <;> (repeat' split) <;> simp
@[simp] theorem profileActivation_std (s : State) (l : Layout) : (s.profileActivation l).std = s.std := by
  simp only [State.profileActivation] <;> (repeat' split) <;> simp
@[simp] theorem adopt_std (s : State) : (s.adopt).std = s.std := by
  simp only [State.adopt] <;> (repeat' split) <;> simp
@[simp] theorem dropPendingSet_std (s : State) : (s.dropPendingSet).std = s.std := by
  simp only [State.dropPendingSet] <;> (repeat' split) <;> simp
@[simp] theorem startRecord_std (s : State) (dir : ScanDir) : (s.startRecord dir).std = s.std := by
  simp only [State.startRecord] <;> (repeat' split) <;> simp
@[simp] theorem voidRecord_std (s : State) : (s.voidRecord).std = s.std := by
  simp only [State.voidRecord] <;> (repeat' split) <;> simp
@[simp] theorem markLinkGaps_std (s : State) : (s.markLinkGaps).std = s.std := by
  simp only [State.markLinkGaps] <;> (repeat' split) <;> simp
@[simp] theorem markTachHeld_std (s : State) : (s.markTachHeld).std = s.std := by
  simp only [State.markTachHeld] <;> (repeat' split) <;> simp
@[simp] theorem closeAt_std (s : State) (i : Nat) : (s.closeAt i).std = s.std := by
  simp only [State.closeAt] <;> (repeat' split) <;> simp
@[simp] theorem startPeriod_std (s : State) : (s.startPeriod).std = s.std := by
  simp only [State.startPeriod] <;> (repeat' split) <;> simp
@[simp] theorem dropPeriod_std (s : State) : (s.dropPeriod).std = s.std := by
  simp only [State.dropPeriod] <;> (repeat' split) <;> simp
@[simp] theorem periodSlot_std (s : State) : (s.periodSlot).std = s.std := by
  simp only [State.periodSlot] <;> (repeat' split) <;> simp
@[simp] theorem pointTake_std (s : State) (x : Sample) : (s.pointTake x).std = s.std := by
  simp only [State.pointTake] <;> (repeat' split) <;> simp
@[simp] theorem recordPeriod_std (s : State) (p : PointPeriod) : (s.recordPeriod p).std = s.std := by
  simp only [State.recordPeriod] <;> (repeat' split) <;> simp
@[simp] theorem raise_std (s : State) (c : HeadCommand) : (s.raise c).std = s.std := by
  simp only [State.raise] <;> (repeat' split) <;> simp
@[simp] theorem consumeStd_std (s : State) : (s.consumeStd).std = s.std := by
  simp only [State.consumeStd] <;> (repeat' split) <;> simp
@[simp] theorem stdNotice_std (s : State) : (s.stdNotice).std = s.std := by
  simp only [State.stdNotice] <;> (repeat' split) <;> simp
@[simp] theorem abortRefOut_std (s : State) : (s.abortRefOut).std = s.std := by
  simp only [State.abortRefOut] <;> (repeat' split) <;> simp
@[simp] theorem toHead_std (s : State) (h : HeadState) : (s.toHead h).std = s.std := by
  simp only [State.toHead] <;> (repeat' split) <;> simp
@[simp] theorem headNotice_std (s : State) : (s.headNotice).std = s.std := by
  simp only [State.headNotice] <;> (repeat' split) <;> simp
@[simp] theorem grantTo_std (s : State) (g : Grant) : (s.grantTo g).std = s.std := by
  simp only [State.grantTo] <;> (repeat' split) <;> simp
@[simp] theorem driveOff_std (s : State) : (s.driveOff).std = s.std := by
  simp only [State.driveOff] <;> (repeat' split) <;> simp
@[simp] theorem drive_std (s : State) (d : Bool) (n : Nat) : (s.drive d n).std = s.std := by
  simp only [State.drive] <;> (repeat' split) <;> simp
@[simp] theorem startScan_std (s : State) (dir : ScanDir) (a : Bool) : (s.startScan dir a).std = s.std := by
  simp only [State.startScan] <;> (repeat' split) <;> simp
@[simp] theorem enterHead_std (s : State) (h : HeadState) (g : Grant) : (s.enterHead h g).std = s.std := by
  simp only [State.enterHead] <;> (repeat' split) <;> simp
@[simp] theorem arriveApproach_std (s : State) : (s.arriveApproach).std = s.std := by
  simp only [State.arriveApproach] <;> (repeat' split) <;> simp
@[simp] theorem arrivePoint_std (s : State) : (s.arrivePoint).std = s.std := by
  simp only [State.arrivePoint] <;> (repeat' split) <;> simp
@[simp] theorem stayParked_std (s : State) (g : Grant) : (s.stayParked g).std = s.std := by
  simp only [State.stayParked] <;> (repeat' split) <;> simp
@[simp] theorem beginSearch_std (s : State) : (s.beginSearch).std = s.std := by
  simp only [State.beginSearch] <;> (repeat' split) <;> simp
@[simp] theorem scanAbortWith_std (act : State → State) (h : ∀ s, (act s).std = s.std) (s : State) : (s.scanAbortWith act).std = s.std := by
  simp only [State.scanAbortWith] <;> (repeat' split) <;> simp [h]
@[simp] theorem breakNotice_std (s : State) : (s.breakNotice).std = s.std := by
  simp only [State.breakNotice] <;> (repeat' split) <;> simp
@[simp] theorem addCauses_std (s : State) (t : PerDetector Bool) : (s.addCauses t).std = s.std := by
  simp only [State.addCauses] <;> (repeat' split) <;> simp
@[simp] theorem judgeInEntry_std (s : State) (t c : PerDetector Bool) : (s.judgeInEntry t c).std = s.std := by
  simp only [State.judgeInEntry] <;> (repeat' split) <;> simp
@[simp] theorem clearLimits_std (s : State) : (s.clearLimits).std = s.std := by
  simp only [State.clearLimits] <;> (repeat' split) <;> simp
@[simp] theorem recipeNotice_std (s : State) (c : RecipeCause) : (s.recipeNotice c).std = s.std := by
  simp only [State.recipeNotice] <;> (repeat' split) <;> simp
@[simp] theorem reaim_std (s : State) : (s.reaim).std = s.std := by
  simp only [State.reaim] <;> (repeat' split) <;> simp
@[simp] theorem completeEdges_std (s : State) (e : Option Edges) : (s.completeEdges e).std = s.std := by
  simp only [State.completeEdges] <;> (repeat' split) <;> simp
@[simp] theorem closeFilling_std (s : State) : (s.closeFilling).std = s.std := by
  simp only [State.closeFilling] <;> (repeat' split) <;> simp
@[simp] theorem completeRecord_std (s : State) (dir : ScanDir) : (s.completeRecord dir).std = s.std := by
  simp only [State.completeRecord] <;> (repeat' split) <;> simp
@[simp] theorem completeRecovery_std (s : State) : (s.completeRecovery).std = s.std := by
  simp only [State.completeRecovery] <;> (repeat' split) <;> simp
@[simp] theorem evaluateLimits_std (s : State) (r : ScanRecord) : (s.evaluateLimits r).std = s.std := by
  simp only [State.evaluateLimits] <;> (repeat' split) <;> simp
@[simp] theorem reportHoles_std (s : State) (src : ReportSource) : (s.reportHoles src).std = s.std := by
  simp only [State.reportHoles] <;> (repeat' split) <;> simp
@[simp] theorem completeHoles_std (s : State) : (s.completeHoles).std = s.std := by
  simp only [State.completeHoles] <;> (repeat' split) <;> simp
@[simp] theorem completeLimits_std (s : State) : (s.completeLimits).std = s.std := by
  simp only [State.completeLimits] <;> (repeat' split) <;> simp
@[simp] theorem handOn_std (s : State) (x : Sample) : (s.handOn x).std = s.std := by
  simp only [State.handOn] <;> (repeat' split) <;> simp
@[simp] theorem rejudgeAtSpeed_std (s : State) : (s.rejudgeAtSpeed).std = s.std := by
  simp only [State.rejudgeAtSpeed] <;> (repeat' split) <;> simp
@[simp] theorem gateEnd_std (s : State) : (s.gateEnd).std = s.std := by
  simp only [State.gateEnd] <;> (repeat' split) <;> simp
@[simp] theorem lossExpiry_std (s : State) : (s.lossExpiry).std = s.std := by
  simp only [State.lossExpiry] <;> (repeat' split) <;> simp
@[simp] theorem levelChange_std (s : State) (d : Detector) (h : Bool) : (s.levelChange d h).std = s.std := by
  simp only [State.levelChange] <;> (repeat' split) <;> simp
@[simp] theorem serveStatus_std (s : State) (st : Station) (tag : Byte) : (s.serveStatus st tag).std = s.std := by
  simp only [State.serveStatus] <;> (repeat' split) <;> simp
@[simp] theorem answer_std (s : State) (st : Station) (k : RequestKind) (tag : Byte) (c : Status) : (s.answer st k tag c).std = s.std := by
  simp only [State.answer] <;> (repeat' split) <;> simp
@[simp] theorem serveFound_std (s : State) (st : Station) (tag : Byte) (q : ScanQuery) (i : Option Nat) : (s.serveFound st tag q i).std = s.std := by
  simp only [State.serveFound] <;> (repeat' split) <;> simp
@[simp] theorem makePending_std (s : State) (st : Station) (tag : Byte) (q : ScanQuery) (m : BitVec 16) (wait : Nat) : (s.makePending st tag q m wait).std = s.std := by
  simp only [State.makePending] <;> (repeat' split) <;> simp
@[simp] theorem serveMinimum_std (s : State) (st : Station) (tag : Byte) (q : ScanQuery) (m : BitVec 16) (wait : Nat) : (s.serveMinimum st tag q m wait).std = s.std := by
  simp only [State.serveMinimum] <;> (repeat' split) <;> simp
@[simp] theorem serveReadScan_std (s : State) (st : Station) (tag : Byte) (p : List Byte) : (s.serveReadScan st tag p).std = s.std := by
  simp only [State.serveReadScan] <;> (repeat' split) <;> simp
@[simp] theorem serveReadTrend_std (s : State) (st : Station) (tag : Byte) : (s.serveReadTrend st tag).std = s.std := by
  simp only [State.serveReadTrend] <;> (repeat' split) <;> simp
@[simp] theorem serveReadPoints_std (s : State) (st : Station) (tag : Byte) (p : List Byte) : (s.serveReadPoints st tag p).std = s.std := by
  simp only [State.serveReadPoints] <;> (repeat' split) <;> simp
@[simp] theorem serveReadStandardization_std (s : State) (st : Station) (tag : Byte) : (s.serveReadStandardization st tag).std = s.std := by
  simp only [State.serveReadStandardization] <;> (repeat' split) <;> simp
@[simp] theorem serveCancel_std (s : State) (st : Station) (tag : Byte) : (s.serveCancel st tag).std = s.std := by
  simp only [State.serveCancel] <;> (repeat' split) <;> simp
@[simp] theorem setSlot_std (s : State) (st : Station) (m : ModeSlot) : (s.setSlot st m).std = s.std := by
  simp only [State.setSlot] <;> (repeat' split) <;> simp
@[simp] theorem modeReply_std (s : State) (st : Station) (tag : Byte) (c : Status) : (s.modeReply st tag c).std = s.std := by
  simp only [State.modeReply] <;> (repeat' split) <;> simp
@[simp] theorem takeCountReply_std (s : State) (st : Station) (tag : Byte) (m : HoleMode) : (s.takeCountReply st tag m).std = s.std := by
  simp only [State.takeCountReply] <;> (repeat' split) <;> simp
@[simp] theorem serveTakeCount_std (s : State) (st : Station) (tag : Byte) : (s.serveTakeCount st tag).std = s.std := by
  simp only [State.serveTakeCount] <;> (repeat' split) <;> simp
@[simp] theorem serveRestart_std (s : State) (st : Station) (tag : Byte) : (s.serveRestart st tag).std = s.std := by
  simp only [State.serveRestart] <;> (repeat' split) <;> simp
@[simp] theorem writeRecipe_std (s : State) (st : Station) (tag : Byte) (p : List Byte) (i : SlotNo) (g : Group) : (s.writeRecipe st tag p i g).std = s.std := by
  simp only [State.writeRecipe] <;> (repeat' split) <;> simp
@[simp] theorem serveRecipeWrite_std (s : State) (st : Station) (tag : Byte) (p : List Byte) : (s.serveRecipeWrite st tag p).std = s.std := by
  simp only [State.serveRecipeWrite] <;> (repeat' split) <;> simp
@[simp] theorem serveRecipeRead_std (s : State) (st : Station) (tag : Byte) (p : List Byte) : (s.serveRecipeRead st tag p).std = s.std := by
  simp only [State.serveRecipeRead] <;> (repeat' split) <;> simp
@[simp] theorem validateSlot_std (s : State) (st : Station) (tag : Byte) (i : SlotNo) : (s.validateSlot st tag i).std = s.std := by
  simp only [State.validateSlot] <;> (repeat' split) <;> simp
@[simp] theorem serveValidate_std (s : State) (st : Station) (tag : Byte) (p : List Byte) : (s.serveValidate st tag p).std = s.std := by
  simp only [State.serveValidate] <;> (repeat' split) <;> simp
@[simp] theorem selectReply_std (s : State) (st : Station) (tag : Byte) (t : Timing) : (s.selectReply st tag t).std = s.std := by
  simp only [State.selectReply] <;> (repeat' split) <;> simp
@[simp] theorem handMachine_std (s : State) (old : MachineRecord) : (s.handMachine old).std = s.std := by
  simp only [State.handMachine] <;> (repeat' split) <;> simp
@[simp] theorem machineReply_std (s : State) (st : Station) (k : RequestKind) (tag : Byte) (c : Status) : (s.machineReply st k tag c).std = s.std := by
  simp only [State.machineReply] <;> (repeat' split) <;> simp
@[simp] theorem acceptMachine_std (s : State) (st : Station) (tag : Byte) (c : Status) (m : MachineRecord) : (s.acceptMachine st tag c m).std = s.std := by
  simp only [State.acceptMachine] <;> (repeat' split) <;> simp
@[simp] theorem judgeMachine_std (s : State) (st : Station) (tag : Byte) (m : MachineRecord) : (s.judgeMachine st tag m).std = s.std := by
  simp only [State.judgeMachine] <;> (repeat' split) <;> simp
@[simp] theorem serveMachineWrite_std (s : State) (st : Station) (tag : Byte) (p : List Byte) : (s.serveMachineWrite st tag p).std = s.std := by
  simp only [State.serveMachineWrite] <;> (repeat' split) <;> simp
@[simp] theorem serveMachineRead_std (s : State) (st : Station) (tag : Byte) : (s.serveMachineRead st tag).std = s.std := by
  simp only [State.serveMachineRead] <;> (repeat' split) <;> simp
@[simp] theorem serveSubscribe_std (s : State) (st : Station) (tag : Byte) (p : List Byte) : (s.serveSubscribe st tag p).std = s.std := by
  simp only [State.serveSubscribe] <;> (repeat' split) <;> simp
@[simp] theorem answerUnknown_std (s : State) (st : Station) (tag : Byte) : (s.answerUnknown st tag).std = s.std := by
  simp only [State.answerUnknown] <;> (repeat' split) <;> simp
@[simp] theorem transmitted_std (s : State) (st : Station) : (s.transmitted st).std = s.std := by
  simp only [State.transmitted] <;> (repeat' split) <;> simp

/-! ### What leaves the profile ring alone -/

@[simp] theorem onPort_ring (s : State) (st : Station) (f : Port → Port) : (s.onPort st f).ring = s.ring := by
  simp only [State.onPort] <;> (repeat' split) <;> simp
@[simp] theorem startBit_ring (s : State) (st : Station) : (s.startBit st).ring = s.ring := by
  simp only [State.startBit] <;> (repeat' split) <;> simp
@[simp] theorem onPorts_ring (s : State) (f : Port → Port) : (s.onPorts f).ring = s.ring := by
  simp only [State.onPorts] <;> (repeat' split) <;> simp
@[simp] theorem reply_ring (s : State) (st : Station) (k : RequestKind) (tag : Byte) (b : ReplyBody) : (s.reply st k tag b).ring = s.ring := by
  simp only [State.reply] <;> (repeat' split) <;> simp
@[simp] theorem offer_ring (s : State) (n : Notice) : (s.offer n).ring = s.ring := by
  simp only [State.offer] <;> (repeat' split) <;> simp
@[simp] theorem settle_ring (s : State) : (s.settle).ring = s.ring := by
  simp only [State.settle] <;> (repeat' split) <;> simp
@[simp] theorem endPending_ring (s : State) (st : Station) (b : ReplyBody) : (s.endPending st b).ring = s.ring := by
  simp only [State.endPending] <;> (repeat' split) <;> simp
@[simp] theorem endPendingByBreak_ring (s : State) : (s.endPendingByBreak).ring = s.ring := by
  simp only [State.endPendingByBreak] <;> (repeat' split) <;> simp
@[simp] theorem endStretch_ring (s : State) : (s.endStretch).ring = s.ring := by
  simp only [State.endStretch] <;> (repeat' split) <;> simp
@[simp] theorem stopAssessment_ring (s : State) : (s.stopAssessment).ring = s.ring := by
  simp only [State.stopAssessment] <;> (repeat' split) <;> simp
@[simp] theorem absentTake_ring (s : State) (x : Sample) : (s.absentTake x).ring = s.ring := by
  simp only [State.absentTake] <;> (repeat' split) <;> simp
@[simp] theorem absentNextWindow_ring (s : State) : (s.absentNextWindow).ring = s.ring := by
  simp only [State.absentNextWindow] <;> (repeat' split) <;> simp
@[simp] theorem holeTake_ring (s : State) (x : Sample) : (s.holeTake x).ring = s.ring := by
  simp only [State.holeTake] <;> (repeat' split) <;> simp
@[simp] theorem holeTransfer_ring (s : State) (src : ReportSource) : (s.holeTransfer src).ring = s.ring := by
  simp only [State.holeTransfer] <;> (repeat' split) <;> simp
@[simp] theorem updateEdges_ring (s : State) (e : EdgeTracker) : (s.updateEdges e).ring = s.ring := by
  simp only [State.updateEdges] <;> (repeat' split) <;> simp
@[simp] theorem edgeTake_ring (s : State) (x : Sample) : (s.edgeTake x).ring = s.ring := by
  simp only [State.edgeTake] <;> (repeat' split) <;> simp
@[simp] theorem binTake_ring (s : State) (x : Sample) : (s.binTake x).ring = s.ring := by
  simp only [State.binTake] <;> (repeat' split) <;> simp
@[simp] theorem profileRestart_ring (s : State) : (s.profileRestart).ring = s.ring := by
  simp only [State.profileRestart] <;> (repeat' split) <;> simp
@[simp] theorem clearContinuity_ring (s : State) : (s.clearContinuity).ring = s.ring := by
  simp only [State.clearContinuity] <;> (repeat' split) <;> simp
@[simp] theorem deferredAtAbort_ring (s : State) : (s.deferredAtAbort).ring = s.ring := by
  simp only [State.deferredAtAbort] <;> (repeat' split) <;> simp
@[simp] theorem profileActivation_ring (s : State) (l : Layout) : (s.profileActivation l).ring = s.ring := by
  simp only [State.profileActivation] <;> (repeat' split) <;> simp
@[simp] theorem adopt_ring (s : State) : (s.adopt).ring = s.ring := by
  simp only [State.adopt] <;> (repeat' split) <;> simp
@[simp] theorem dropPendingSet_ring (s : State) : (s.dropPendingSet).ring = s.ring := by
  simp only [State.dropPendingSet] <;> (repeat' split) <;> simp
@[simp] theorem startPeriod_ring (s : State) : (s.startPeriod).ring = s.ring := by
  simp only [State.startPeriod] <;> (repeat' split) <;> simp
@[simp] theorem dropPeriod_ring (s : State) : (s.dropPeriod).ring = s.ring := by
  simp only [State.dropPeriod] <;> (repeat' split) <;> simp
@[simp] theorem periodSlot_ring (s : State) : (s.periodSlot).ring = s.ring := by
  simp only [State.periodSlot] <;> (repeat' split) <;> simp
@[simp] theorem pointTake_ring (s : State) (x : Sample) : (s.pointTake x).ring = s.ring := by
  simp only [State.pointTake] <;> (repeat' split) <;> simp
@[simp] theorem recordPeriod_ring (s : State) (p : PointPeriod) : (s.recordPeriod p).ring = s.ring := by
  simp only [State.recordPeriod] <;> (repeat' split) <;> simp
@[simp] theorem raise_ring (s : State) (c : HeadCommand) : (s.raise c).ring = s.ring := by
  simp only [State.raise] <;> (repeat' split) <;> simp
@[simp] theorem consumeStd_ring (s : State) : (s.consumeStd).ring = s.ring := by
  simp only [State.consumeStd] <;> (repeat' split) <;> simp
@[simp] theorem stdNotice_ring (s : State) : (s.stdNotice).ring = s.ring := by
  simp only [State.stdNotice] <;> (repeat' split) <;> simp
@[simp] theorem stdCommit_ring (s : State) : (s.stdCommit).ring = s.ring := by
  simp only [State.stdCommit] <;> (repeat' split) <;> simp
@[simp] theorem stdFail_ring (s : State) : (s.stdFail).ring = s.ring := by
  simp only [State.stdFail] <;> (repeat' split) <;> simp
@[simp] theorem stdNoRecord_ring (s : State) : (s.stdNoRecord).ring = s.ring := by
  simp only [State.stdNoRecord] <;> (repeat' split) <;> simp
@[simp] theorem abortRefOut_ring (s : State) : (s.abortRefOut).ring = s.ring := by
  simp only [State.abortRefOut] <;> (repeat' split) <;> simp
@[simp] theorem stdAbort_ring (s : State) : (s.stdAbort).ring = s.ring := by
  simp only [State.stdAbort] <;> (repeat' split) <;> simp
@[simp] theorem enterReference_ring (s : State) : (s.enterReference).ring = s.ring := by
  simp only [State.enterReference] <;> (repeat' split) <;> simp
@[simp] theorem enterWithdraw_ring (s : State) : (s.enterWithdraw).ring = s.ring := by
  simp only [State.enterWithdraw] <;> (repeat' split) <;> simp
@[simp] theorem zeroEnd_ring (s : State) : (s.zeroEnd).ring = s.ring := by
  simp only [State.zeroEnd] <;> (repeat' split) <;> simp
@[simp] theorem referenceEnd_ring (s : State) : (s.referenceEnd).ring = s.ring := by
  simp only [State.referenceEnd] <;> (repeat' split) <;> simp
@[simp] theorem collectionSlot_ring (s : State) (raw : Option RawSample) : (s.collectionSlot raw).ring = s.ring := by
  simp only [State.collectionSlot] <;> (repeat' split) <;> simp
@[simp] theorem tileSeen_ring (s : State) : (s.tileSeen).ring = s.ring := by
  simp only [State.tileSeen] <;> (repeat' split) <;> simp
@[simp] theorem tileExpired_ring (s : State) : (s.tileExpired).ring = s.ring := by
  simp only [State.tileExpired] <;> (repeat' split) <;> simp
@[simp] theorem stuckTile_ring (s : State) : (s.stuckTile).ring = s.ring := by
  simp only [State.stuckTile] <;> (repeat' split) <;> simp
@[simp] theorem toHead_ring (s : State) (h : HeadState) : (s.toHead h).ring = s.ring := by
  simp only [State.toHead] <;> (repeat' split) <;> simp
@[simp] theorem headNotice_ring (s : State) : (s.headNotice).ring = s.ring := by
  simp only [State.headNotice] <;> (repeat' split) <;> simp
@[simp] theorem grantTo_ring (s : State) (g : Grant) : (s.grantTo g).ring = s.ring := by
  simp only [State.grantTo] <;> (repeat' split) <;> simp
@[simp] theorem driveOff_ring (s : State) : (s.driveOff).ring = s.ring := by
  simp only [State.driveOff] <;> (repeat' split) <;> simp
@[simp] theorem drive_ring (s : State) (d : Bool) (n : Nat) : (s.drive d n).ring = s.ring := by
  simp only [State.drive] <;> (repeat' split) <;> simp
@[simp] theorem enterHead_ring (s : State) (h : HeadState) (g : Grant) : (s.enterHead h g).ring = s.ring := by
  simp only [State.enterHead] <;> (repeat' split) <;> simp
@[simp] theorem arrivePoint_ring (s : State) : (s.arrivePoint).ring = s.ring := by
  simp only [State.arrivePoint] <;> (repeat' split) <;> simp
@[simp] theorem stayParked_ring (s : State) (g : Grant) : (s.stayParked g).ring = s.ring := by
  simp only [State.stayParked] <;> (repeat' split) <;> simp
@[simp] theorem beginSearch_ring (s : State) : (s.beginSearch).ring = s.ring := by
  simp only [State.beginSearch] <;> (repeat' split) <;> simp
@[simp] theorem breakNotice_ring (s : State) : (s.breakNotice).ring = s.ring := by
  simp only [State.breakNotice] <;> (repeat' split) <;> simp
@[simp] theorem addCauses_ring (s : State) (t : PerDetector Bool) : (s.addCauses t).ring = s.ring := by
  simp only [State.addCauses] <;> (repeat' split) <;> simp
@[simp] theorem judgeInEntry_ring (s : State) (t c : PerDetector Bool) : (s.judgeInEntry t c).ring = s.ring := by
  simp only [State.judgeInEntry] <;> (repeat' split) <;> simp
@[simp] theorem clearLimits_ring (s : State) : (s.clearLimits).ring = s.ring := by
  simp only [State.clearLimits] <;> (repeat' split) <;> simp
@[simp] theorem recipeNotice_ring (s : State) (c : RecipeCause) : (s.recipeNotice c).ring = s.ring := by
  simp only [State.recipeNotice] <;> (repeat' split) <;> simp
@[simp] theorem completeEdges_ring (s : State) (e : Option Edges) : (s.completeEdges e).ring = s.ring := by
  simp only [State.completeEdges] <;> (repeat' split) <;> simp
@[simp] theorem completeStd_ring (s : State) : (s.completeStd).ring = s.ring := by
  simp only [State.completeStd] <;> (repeat' split) <;> simp
@[simp] theorem completeRecovery_ring (s : State) : (s.completeRecovery).ring = s.ring := by
  simp only [State.completeRecovery] <;> (repeat' split) <;> simp
@[simp] theorem evaluateLimits_ring (s : State) (r : ScanRecord) : (s.evaluateLimits r).ring = s.ring := by
  simp only [State.evaluateLimits] <;> (repeat' split) <;> simp
@[simp] theorem reportHoles_ring (s : State) (src : ReportSource) : (s.reportHoles src).ring = s.ring := by
  simp only [State.reportHoles] <;> (repeat' split) <;> simp
@[simp] theorem completeHoles_ring (s : State) : (s.completeHoles).ring = s.ring := by
  simp only [State.completeHoles] <;> (repeat' split) <;> simp
@[simp] theorem completeLimits_ring (s : State) : (s.completeLimits).ring = s.ring := by
  simp only [State.completeLimits] <;> (repeat' split) <;> simp
@[simp] theorem handOn_ring (s : State) (x : Sample) : (s.handOn x).ring = s.ring := by
  simp only [State.handOn] <;> (repeat' split) <;> simp
@[simp] theorem rejudgeAtSpeed_ring (s : State) : (s.rejudgeAtSpeed).ring = s.ring := by
  simp only [State.rejudgeAtSpeed] <;> (repeat' split) <;> simp
@[simp] theorem gateEnd_ring (s : State) : (s.gateEnd).ring = s.ring := by
  simp only [State.gateEnd] <;> (repeat' split) <;> simp
@[simp] theorem levelChange_ring (s : State) (d : Detector) (h : Bool) : (s.levelChange d h).ring = s.ring := by
  simp only [State.levelChange] <;> (repeat' split) <;> simp
@[simp] theorem serveStatus_ring (s : State) (st : Station) (tag : Byte) : (s.serveStatus st tag).ring = s.ring := by
  simp only [State.serveStatus] <;> (repeat' split) <;> simp
@[simp] theorem answer_ring (s : State) (st : Station) (k : RequestKind) (tag : Byte) (c : Status) : (s.answer st k tag c).ring = s.ring := by
  simp only [State.answer] <;> (repeat' split) <;> simp
@[simp] theorem makePending_ring (s : State) (st : Station) (tag : Byte) (q : ScanQuery) (m : BitVec 16) (wait : Nat) : (s.makePending st tag q m wait).ring = s.ring := by
  simp only [State.makePending] <;> (repeat' split) <;> simp
@[simp] theorem serveReadTrend_ring (s : State) (st : Station) (tag : Byte) : (s.serveReadTrend st tag).ring = s.ring := by
  simp only [State.serveReadTrend] <;> (repeat' split) <;> simp
@[simp] theorem serveReadPoints_ring (s : State) (st : Station) (tag : Byte) (p : List Byte) : (s.serveReadPoints st tag p).ring = s.ring := by
  simp only [State.serveReadPoints] <;> (repeat' split) <;> simp
@[simp] theorem serveReadStandardization_ring (s : State) (st : Station) (tag : Byte) : (s.serveReadStandardization st tag).ring = s.ring := by
  simp only [State.serveReadStandardization] <;> (repeat' split) <;> simp
@[simp] theorem serveCancel_ring (s : State) (st : Station) (tag : Byte) : (s.serveCancel st tag).ring = s.ring := by
  simp only [State.serveCancel] <;> (repeat' split) <;> simp
@[simp] theorem setSlot_ring (s : State) (st : Station) (m : ModeSlot) : (s.setSlot st m).ring = s.ring := by
  simp only [State.setSlot] <;> (repeat' split) <;> simp
@[simp] theorem modeReply_ring (s : State) (st : Station) (tag : Byte) (c : Status) : (s.modeReply st tag c).ring = s.ring := by
  simp only [State.modeReply] <;> (repeat' split) <;> simp
@[simp] theorem takeCountReply_ring (s : State) (st : Station) (tag : Byte) (m : HoleMode) : (s.takeCountReply st tag m).ring = s.ring := by
  simp only [State.takeCountReply] <;> (repeat' split) <;> simp
@[simp] theorem serveTakeCount_ring (s : State) (st : Station) (tag : Byte) : (s.serveTakeCount st tag).ring = s.ring := by
  simp only [State.serveTakeCount] <;> (repeat' split) <;> simp
@[simp] theorem serveRestart_ring (s : State) (st : Station) (tag : Byte) : (s.serveRestart st tag).ring = s.ring := by
  simp only [State.serveRestart] <;> (repeat' split) <;> simp
@[simp] theorem writeRecipe_ring (s : State) (st : Station) (tag : Byte) (p : List Byte) (i : SlotNo) (g : Group) : (s.writeRecipe st tag p i g).ring = s.ring := by
  simp only [State.writeRecipe] <;> (repeat' split) <;> simp
@[simp] theorem serveRecipeWrite_ring (s : State) (st : Station) (tag : Byte) (p : List Byte) : (s.serveRecipeWrite st tag p).ring = s.ring := by
  simp only [State.serveRecipeWrite] <;> (repeat' split) <;> simp
@[simp] theorem serveRecipeRead_ring (s : State) (st : Station) (tag : Byte) (p : List Byte) : (s.serveRecipeRead st tag p).ring = s.ring := by
  simp only [State.serveRecipeRead] <;> (repeat' split) <;> simp
@[simp] theorem validateSlot_ring (s : State) (st : Station) (tag : Byte) (i : SlotNo) : (s.validateSlot st tag i).ring = s.ring := by
  simp only [State.validateSlot] <;> (repeat' split) <;> simp
@[simp] theorem serveValidate_ring (s : State) (st : Station) (tag : Byte) (p : List Byte) : (s.serveValidate st tag p).ring = s.ring := by
  simp only [State.serveValidate] <;> (repeat' split) <;> simp
@[simp] theorem selectReply_ring (s : State) (st : Station) (tag : Byte) (t : Timing) : (s.selectReply st tag t).ring = s.ring := by
  simp only [State.selectReply] <;> (repeat' split) <;> simp
@[simp] theorem handMachine_ring (s : State) (old : MachineRecord) : (s.handMachine old).ring = s.ring := by
  simp only [State.handMachine] <;> (repeat' split) <;> simp
@[simp] theorem machineReply_ring (s : State) (st : Station) (k : RequestKind) (tag : Byte) (c : Status) : (s.machineReply st k tag c).ring = s.ring := by
  simp only [State.machineReply] <;> (repeat' split) <;> simp
@[simp] theorem acceptMachine_ring (s : State) (st : Station) (tag : Byte) (c : Status) (m : MachineRecord) : (s.acceptMachine st tag c m).ring = s.ring := by
  simp only [State.acceptMachine] <;> (repeat' split) <;> simp
@[simp] theorem judgeMachine_ring (s : State) (st : Station) (tag : Byte) (m : MachineRecord) : (s.judgeMachine st tag m).ring = s.ring := by
  simp only [State.judgeMachine] <;> (repeat' split) <;> simp
@[simp] theorem serveMachineWrite_ring (s : State) (st : Station) (tag : Byte) (p : List Byte) : (s.serveMachineWrite st tag p).ring = s.ring := by
  simp only [State.serveMachineWrite] <;> (repeat' split) <;> simp
@[simp] theorem serveMachineRead_ring (s : State) (st : Station) (tag : Byte) : (s.serveMachineRead st tag).ring = s.ring := by
  simp only [State.serveMachineRead] <;> (repeat' split) <;> simp
@[simp] theorem serveSubscribe_ring (s : State) (st : Station) (tag : Byte) (p : List Byte) : (s.serveSubscribe st tag p).ring = s.ring := by
  simp only [State.serveSubscribe] <;> (repeat' split) <;> simp
@[simp] theorem answerUnknown_ring (s : State) (st : Station) (tag : Byte) : (s.answerUnknown st tag).ring = s.ring := by
  simp only [State.answerUnknown] <;> (repeat' split) <;> simp

/-! ### What leaves the point accumulator and ring alone -/

@[simp] theorem onPort_points (s : State) (st : Station) (f : Port → Port) : (s.onPort st f).points = s.points := by
  simp only [State.onPort] <;> (repeat' split) <;> simp
@[simp] theorem startBit_points (s : State) (st : Station) : (s.startBit st).points = s.points := by
  simp only [State.startBit] <;> (repeat' split) <;> simp
@[simp] theorem onPorts_points (s : State) (f : Port → Port) : (s.onPorts f).points = s.points := by
  simp only [State.onPorts] <;> (repeat' split) <;> simp
@[simp] theorem reply_points (s : State) (st : Station) (k : RequestKind) (tag : Byte) (b : ReplyBody) : (s.reply st k tag b).points = s.points := by
  simp only [State.reply] <;> (repeat' split) <;> simp
@[simp] theorem offer_points (s : State) (n : Notice) : (s.offer n).points = s.points := by
  simp only [State.offer] <;> (repeat' split) <;> simp
@[simp] theorem settle_points (s : State) : (s.settle).points = s.points := by
  simp only [State.settle] <;> (repeat' split) <;> simp
@[simp] theorem serveScan_points (s : State) (st : Station) (tag : Byte) (q : ScanQuery) (i : Nat) : (s.serveScan st tag q i).points = s.points := by
  simp only [State.serveScan] <;> (repeat' split) <;> simp
@[simp] theorem endPending_points (s : State) (st : Station) (b : ReplyBody) : (s.endPending st b).points = s.points := by
  simp only [State.endPending] <;> (repeat' split) <;> simp
@[simp] theorem endPendingByBreak_points (s : State) : (s.endPendingByBreak).points = s.points := by
  simp only [State.endPendingByBreak] <;> (repeat' split) <;> simp
@[simp] theorem servePending_points (s : State) (i : Nat) (st : Station) : (s.servePending i st).points = s.points := by
  simp only [State.servePending] <;> (repeat' split) <;> simp
@[simp] theorem serveAllPending_points (s : State) (i : Nat) : (s.serveAllPending i).points = s.points := by
  simp only [State.serveAllPending] <;> (repeat' split) <;> simp
@[simp] theorem endStretch_points (s : State) : (s.endStretch).points = s.points := by
  simp only [State.endStretch] <;> (repeat' split) <;> simp
@[simp] theorem stopAssessment_points (s : State) : (s.stopAssessment).points = s.points := by
  simp only [State.stopAssessment] <;> (repeat' split) <;> simp
@[simp] theorem absentTake_points (s : State) (x : Sample) : (s.absentTake x).points = s.points := by
  simp only [State.absentTake] <;> (repeat' split) <;> simp
@[simp] theorem absentNextWindow_points (s : State) : (s.absentNextWindow).points = s.points := by
  simp only [State.absentNextWindow] <;> (repeat' split) <;> simp
@[simp] theorem holeTake_points (s : State) (x : Sample) : (s.holeTake x).points = s.points := by
  simp only [State.holeTake] <;> (repeat' split) <;> simp
@[simp] theorem holeTransfer_points (s : State) (src : ReportSource) : (s.holeTransfer src).points = s.points := by
  simp only [State.holeTransfer] <;> (repeat' split) <;> simp
@[simp] theorem updateEdges_points (s : State) (e : EdgeTracker) : (s.updateEdges e).points = s.points := by
  simp only [State.updateEdges] <;> (repeat' split) <;> simp
@[simp] theorem edgeTake_points (s : State) (x : Sample) : (s.edgeTake x).points = s.points := by
  simp only [State.edgeTake] <;> (repeat' split) <;> simp
@[simp] theorem binTake_points (s : State) (x : Sample) : (s.binTake x).points = s.points := by
  simp only [State.binTake] <;> (repeat' split) <;> simp
@[simp] theorem profileRestart_points (s : State) : (s.profileRestart).points = s.points := by
  simp only [State.profileRestart] <;> (repeat' split) <;> simp
@[simp] theorem clearContinuity_points (s : State) : (s.clearContinuity).points = s.points := by
  simp only [State.clearContinuity] <;> (repeat' split) <;> simp
@[simp] theorem deferredAtAbort_points (s : State) : (s.deferredAtAbort).points = s.points := by
  simp only [State.deferredAtAbort] <;> (repeat' split) <;> simp
@[simp] theorem profileActivation_points (s : State) (l : Layout) : (s.profileActivation l).points = s.points := by
  simp only [State.profileActivation] <;> (repeat' split) <;> simp
@[simp] theorem adopt_points (s : State) : (s.adopt).points = s.points := by
  simp only [State.adopt] <;> (repeat' split) <;> simp
@[simp] theorem dropPendingSet_points (s : State) : (s.dropPendingSet).points = s.points := by
  simp only [State.dropPendingSet] <;> (repeat' split) <;> simp
@[simp] theorem startRecord_points (s : State) (dir : ScanDir) : (s.startRecord dir).points = s.points := by
  simp only [State.startRecord] <;> (repeat' split) <;> simp
@[simp] theorem voidRecord_points (s : State) : (s.voidRecord).points = s.points := by
  simp only [State.voidRecord] <;> (repeat' split) <;> simp
@[simp] theorem closeAt_points (s : State) (i : Nat) : (s.closeAt i).points = s.points := by
  simp only [State.closeAt] <;> (repeat' split) <;> simp
@[simp] theorem raise_points (s : State) (c : HeadCommand) : (s.raise c).points = s.points := by
  simp only [State.raise] <;> (repeat' split) <;> simp
@[simp] theorem consumeStd_points (s : State) : (s.consumeStd).points = s.points := by
  simp only [State.consumeStd] <;> (repeat' split) <;> simp
@[simp] theorem stdNotice_points (s : State) : (s.stdNotice).points = s.points := by
  simp only [State.stdNotice] <;> (repeat' split) <;> simp
@[simp] theorem stdCommit_points (s : State) : (s.stdCommit).points = s.points := by
  simp only [State.stdCommit] <;> (repeat' split) <;> simp
@[simp] theorem stdFail_points (s : State) : (s.stdFail).points = s.points := by
  simp only [State.stdFail] <;> (repeat' split) <;> simp
@[simp] theorem stdNoRecord_points (s : State) : (s.stdNoRecord).points = s.points := by
  simp only [State.stdNoRecord] <;> (repeat' split) <;> simp
@[simp] theorem abortRefOut_points (s : State) : (s.abortRefOut).points = s.points := by
  simp only [State.abortRefOut] <;> (repeat' split) <;> simp
@[simp] theorem stdAbort_points (s : State) : (s.stdAbort).points = s.points := by
  simp only [State.stdAbort] <;> (repeat' split) <;> simp
@[simp] theorem enterReference_points (s : State) : (s.enterReference).points = s.points := by
  simp only [State.enterReference] <;> (repeat' split) <;> simp
@[simp] theorem enterWithdraw_points (s : State) : (s.enterWithdraw).points = s.points := by
  simp only [State.enterWithdraw] <;> (repeat' split) <;> simp
@[simp] theorem zeroEnd_points (s : State) : (s.zeroEnd).points = s.points := by
  simp only [State.zeroEnd] <;> (repeat' split) <;> simp
@[simp] theorem referenceEnd_points (s : State) : (s.referenceEnd).points = s.points := by
  simp only [State.referenceEnd] <;> (repeat' split) <;> simp
@[simp] theorem collectionSlot_points (s : State) (raw : Option RawSample) : (s.collectionSlot raw).points = s.points := by
  simp only [State.collectionSlot] <;> (repeat' split) <;> simp
@[simp] theorem tileSeen_points (s : State) : (s.tileSeen).points = s.points := by
  simp only [State.tileSeen] <;> (repeat' split) <;> simp
@[simp] theorem tileExpired_points (s : State) : (s.tileExpired).points = s.points := by
  simp only [State.tileExpired] <;> (repeat' split) <;> simp
@[simp] theorem stuckTile_points (s : State) : (s.stuckTile).points = s.points := by
  simp only [State.stuckTile] <;> (repeat' split) <;> simp
@[simp] theorem toHead_points (s : State) (h : HeadState) : (s.toHead h).points = s.points := by
  simp only [State.toHead] <;> (repeat' split) <;> simp
@[simp] theorem headNotice_points (s : State) : (s.headNotice).points = s.points := by
  simp only [State.headNotice] <;> (repeat' split) <;> simp
@[simp] theorem grantTo_points (s : State) (g : Grant) : (s.grantTo g).points = s.points := by
  simp only [State.grantTo] <;> (repeat' split) <;> simp
@[simp] theorem driveOff_points (s : State) : (s.driveOff).points = s.points := by
  simp only [State.driveOff] <;> (repeat' split) <;> simp
@[simp] theorem drive_points (s : State) (d : Bool) (n : Nat) : (s.drive d n).points = s.points := by
  simp only [State.drive] <;> (repeat' split) <;> simp
@[simp] theorem startScan_points (s : State) (dir : ScanDir) (a : Bool) : (s.startScan dir a).points = s.points := by
  simp only [State.startScan] <;> (repeat' split) <;> simp
@[simp] theorem enterHead_points (s : State) (h : HeadState) (g : Grant) : (s.enterHead h g).points = s.points := by
  simp only [State.enterHead] <;> (repeat' split) <;> simp
@[simp] theorem arriveApproach_points (s : State) : (s.arriveApproach).points = s.points := by
  simp only [State.arriveApproach] <;> (repeat' split) <;> simp
@[simp] theorem stayParked_points (s : State) (g : Grant) : (s.stayParked g).points = s.points := by
  simp only [State.stayParked] <;> (repeat' split) <;> simp
@[simp] theorem beginSearch_points (s : State) : (s.beginSearch).points = s.points := by
  simp only [State.beginSearch] <;> (repeat' split) <;> simp
@[simp] theorem scanAbortWith_points (act : State → State) (h : ∀ s, (act s).points = s.points) (s : State) : (s.scanAbortWith act).points = s.points := by
  simp only [State.scanAbortWith] <;> (repeat' split) <;> simp [h]
@[simp] theorem breakNotice_points (s : State) : (s.breakNotice).points = s.points := by
  simp only [State.breakNotice] <;> (repeat' split) <;> simp
@[simp] theorem addCauses_points (s : State) (t : PerDetector Bool) : (s.addCauses t).points = s.points := by
  simp only [State.addCauses] <;> (repeat' split) <;> simp
@[simp] theorem judgeInEntry_points (s : State) (t c : PerDetector Bool) : (s.judgeInEntry t c).points = s.points := by
  simp only [State.judgeInEntry] <;> (repeat' split) <;> simp
@[simp] theorem clearLimits_points (s : State) : (s.clearLimits).points = s.points := by
  simp only [State.clearLimits] <;> (repeat' split) <;> simp
@[simp] theorem recipeNotice_points (s : State) (c : RecipeCause) : (s.recipeNotice c).points = s.points := by
  simp only [State.recipeNotice] <;> (repeat' split) <;> simp
@[simp] theorem reaim_points (s : State) : (s.reaim).points = s.points := by
  simp only [State.reaim] <;> (repeat' split) <;> simp
@[simp] theorem completeEdges_points (s : State) (e : Option Edges) : (s.completeEdges e).points = s.points := by
  simp only [State.completeEdges] <;> (repeat' split) <;> simp
@[simp] theorem closeFilling_points (s : State) : (s.closeFilling).points = s.points := by
  simp only [State.closeFilling] <;> (repeat' split) <;> simp
@[simp] theorem completeRecord_points (s : State) (dir : ScanDir) : (s.completeRecord dir).points = s.points := by
  simp only [State.completeRecord] <;> (repeat' split) <;> simp
@[simp] theorem completeStd_points (s : State) : (s.completeStd).points = s.points := by
  simp only [State.completeStd] <;> (repeat' split) <;> simp
@[simp] theorem completeRecovery_points (s : State) : (s.completeRecovery).points = s.points := by
  simp only [State.completeRecovery] <;> (repeat' split) <;> simp
@[simp] theorem evaluateLimits_points (s : State) (r : ScanRecord) : (s.evaluateLimits r).points = s.points := by
  simp only [State.evaluateLimits] <;> (repeat' split) <;> simp
@[simp] theorem reportHoles_points (s : State) (src : ReportSource) : (s.reportHoles src).points = s.points := by
  simp only [State.reportHoles] <;> (repeat' split) <;> simp
@[simp] theorem completeHoles_points (s : State) : (s.completeHoles).points = s.points := by
  simp only [State.completeHoles] <;> (repeat' split) <;> simp
@[simp] theorem completeLimits_points (s : State) : (s.completeLimits).points = s.points := by
  simp only [State.completeLimits] <;> (repeat' split) <;> simp
@[simp] theorem rejudgeAtSpeed_points (s : State) : (s.rejudgeAtSpeed).points = s.points := by
  simp only [State.rejudgeAtSpeed] <;> (repeat' split) <;> simp
@[simp] theorem gateEnd_points (s : State) : (s.gateEnd).points = s.points := by
  simp only [State.gateEnd] <;> (repeat' split) <;> simp
@[simp] theorem levelChange_points (s : State) (d : Detector) (h : Bool) : (s.levelChange d h).points = s.points := by
  simp only [State.levelChange] <;> (repeat' split) <;> simp
@[simp] theorem serveStatus_points (s : State) (st : Station) (tag : Byte) : (s.serveStatus st tag).points = s.points := by
  simp only [State.serveStatus] <;> (repeat' split) <;> simp
@[simp] theorem answer_points (s : State) (st : Station) (k : RequestKind) (tag : Byte) (c : Status) : (s.answer st k tag c).points = s.points := by
  simp only [State.answer] <;> (repeat' split) <;> simp
@[simp] theorem serveFound_points (s : State) (st : Station) (tag : Byte) (q : ScanQuery) (i : Option Nat) : (s.serveFound st tag q i).points = s.points := by
  simp only [State.serveFound] <;> (repeat' split) <;> simp
@[simp] theorem makePending_points (s : State) (st : Station) (tag : Byte) (q : ScanQuery) (m : BitVec 16) (wait : Nat) : (s.makePending st tag q m wait).points = s.points := by
  simp only [State.makePending] <;> (repeat' split) <;> simp
@[simp] theorem serveMinimum_points (s : State) (st : Station) (tag : Byte) (q : ScanQuery) (m : BitVec 16) (wait : Nat) : (s.serveMinimum st tag q m wait).points = s.points := by
  simp only [State.serveMinimum] <;> (repeat' split) <;> simp
@[simp] theorem serveReadScan_points (s : State) (st : Station) (tag : Byte) (p : List Byte) : (s.serveReadScan st tag p).points = s.points := by
  simp only [State.serveReadScan] <;> (repeat' split) <;> simp
@[simp] theorem serveReadTrend_points (s : State) (st : Station) (tag : Byte) : (s.serveReadTrend st tag).points = s.points := by
  simp only [State.serveReadTrend] <;> (repeat' split) <;> simp
@[simp] theorem serveReadPoints_points (s : State) (st : Station) (tag : Byte) (p : List Byte) : (s.serveReadPoints st tag p).points = s.points := by
  simp only [State.serveReadPoints] <;> (repeat' split) <;> simp
@[simp] theorem serveReadStandardization_points (s : State) (st : Station) (tag : Byte) : (s.serveReadStandardization st tag).points = s.points := by
  simp only [State.serveReadStandardization] <;> (repeat' split) <;> simp
@[simp] theorem serveCancel_points (s : State) (st : Station) (tag : Byte) : (s.serveCancel st tag).points = s.points := by
  simp only [State.serveCancel] <;> (repeat' split) <;> simp
@[simp] theorem setSlot_points (s : State) (st : Station) (m : ModeSlot) : (s.setSlot st m).points = s.points := by
  simp only [State.setSlot] <;> (repeat' split) <;> simp
@[simp] theorem modeReply_points (s : State) (st : Station) (tag : Byte) (c : Status) : (s.modeReply st tag c).points = s.points := by
  simp only [State.modeReply] <;> (repeat' split) <;> simp
@[simp] theorem takeCountReply_points (s : State) (st : Station) (tag : Byte) (m : HoleMode) : (s.takeCountReply st tag m).points = s.points := by
  simp only [State.takeCountReply] <;> (repeat' split) <;> simp
@[simp] theorem serveTakeCount_points (s : State) (st : Station) (tag : Byte) : (s.serveTakeCount st tag).points = s.points := by
  simp only [State.serveTakeCount] <;> (repeat' split) <;> simp
@[simp] theorem serveRestart_points (s : State) (st : Station) (tag : Byte) : (s.serveRestart st tag).points = s.points := by
  simp only [State.serveRestart] <;> (repeat' split) <;> simp
@[simp] theorem writeRecipe_points (s : State) (st : Station) (tag : Byte) (p : List Byte) (i : SlotNo) (g : Group) : (s.writeRecipe st tag p i g).points = s.points := by
  simp only [State.writeRecipe] <;> (repeat' split) <;> simp
@[simp] theorem serveRecipeWrite_points (s : State) (st : Station) (tag : Byte) (p : List Byte) : (s.serveRecipeWrite st tag p).points = s.points := by
  simp only [State.serveRecipeWrite] <;> (repeat' split) <;> simp
@[simp] theorem serveRecipeRead_points (s : State) (st : Station) (tag : Byte) (p : List Byte) : (s.serveRecipeRead st tag p).points = s.points := by
  simp only [State.serveRecipeRead] <;> (repeat' split) <;> simp
@[simp] theorem validateSlot_points (s : State) (st : Station) (tag : Byte) (i : SlotNo) : (s.validateSlot st tag i).points = s.points := by
  simp only [State.validateSlot] <;> (repeat' split) <;> simp
@[simp] theorem serveValidate_points (s : State) (st : Station) (tag : Byte) (p : List Byte) : (s.serveValidate st tag p).points = s.points := by
  simp only [State.serveValidate] <;> (repeat' split) <;> simp
@[simp] theorem selectReply_points (s : State) (st : Station) (tag : Byte) (t : Timing) : (s.selectReply st tag t).points = s.points := by
  simp only [State.selectReply] <;> (repeat' split) <;> simp
@[simp] theorem handMachine_points (s : State) (old : MachineRecord) : (s.handMachine old).points = s.points := by
  simp only [State.handMachine] <;> (repeat' split) <;> simp
@[simp] theorem machineReply_points (s : State) (st : Station) (k : RequestKind) (tag : Byte) (c : Status) : (s.machineReply st k tag c).points = s.points := by
  simp only [State.machineReply] <;> (repeat' split) <;> simp
@[simp] theorem acceptMachine_points (s : State) (st : Station) (tag : Byte) (c : Status) (m : MachineRecord) : (s.acceptMachine st tag c m).points = s.points := by
  simp only [State.acceptMachine] <;> (repeat' split) <;> simp
@[simp] theorem judgeMachine_points (s : State) (st : Station) (tag : Byte) (m : MachineRecord) : (s.judgeMachine st tag m).points = s.points := by
  simp only [State.judgeMachine] <;> (repeat' split) <;> simp
@[simp] theorem serveMachineWrite_points (s : State) (st : Station) (tag : Byte) (p : List Byte) : (s.serveMachineWrite st tag p).points = s.points := by
  simp only [State.serveMachineWrite] <;> (repeat' split) <;> simp
@[simp] theorem serveMachineRead_points (s : State) (st : Station) (tag : Byte) : (s.serveMachineRead st tag).points = s.points := by
  simp only [State.serveMachineRead] <;> (repeat' split) <;> simp
@[simp] theorem serveSubscribe_points (s : State) (st : Station) (tag : Byte) (p : List Byte) : (s.serveSubscribe st tag p).points = s.points := by
  simp only [State.serveSubscribe] <;> (repeat' split) <;> simp
@[simp] theorem answerUnknown_points (s : State) (st : Station) (tag : Byte) : (s.answerUnknown st tag).points = s.points := by
  simp only [State.answerUnknown] <;> (repeat' split) <;> simp
@[simp] theorem transmitted_points (s : State) (st : Station) : (s.transmitted st).points = s.points := by
  simp only [State.transmitted] <;> (repeat' split) <;> simp

/-! ### What leaves the conversion unit alone -/

@[simp] theorem onPort_conv (s : State) (st : Station) (f : Port → Port) : (s.onPort st f).conv = s.conv := by
  simp only [State.onPort] <;> (repeat' split) <;> simp
@[simp] theorem startBit_conv (s : State) (st : Station) : (s.startBit st).conv = s.conv := by
  simp only [State.startBit] <;> (repeat' split) <;> simp
@[simp] theorem onPorts_conv (s : State) (f : Port → Port) : (s.onPorts f).conv = s.conv := by
  simp only [State.onPorts] <;> (repeat' split) <;> simp
@[simp] theorem reply_conv (s : State) (st : Station) (k : RequestKind) (tag : Byte) (b : ReplyBody) : (s.reply st k tag b).conv = s.conv := by
  simp only [State.reply] <;> (repeat' split) <;> simp
@[simp] theorem offer_conv (s : State) (n : Notice) : (s.offer n).conv = s.conv := by
  simp only [State.offer] <;> (repeat' split) <;> simp
@[simp] theorem settle_conv (s : State) : (s.settle).conv = s.conv := by
  simp only [State.settle] <;> (repeat' split) <;> simp
@[simp] theorem serveScan_conv (s : State) (st : Station) (tag : Byte) (q : ScanQuery) (i : Nat) : (s.serveScan st tag q i).conv = s.conv := by
  simp only [State.serveScan] <;> (repeat' split) <;> simp
@[simp] theorem endPending_conv (s : State) (st : Station) (b : ReplyBody) : (s.endPending st b).conv = s.conv := by
  simp only [State.endPending] <;> (repeat' split) <;> simp
@[simp] theorem endPendingByBreak_conv (s : State) : (s.endPendingByBreak).conv = s.conv := by
  simp only [State.endPendingByBreak] <;> (repeat' split) <;> simp
@[simp] theorem servePending_conv (s : State) (i : Nat) (st : Station) : (s.servePending i st).conv = s.conv := by
  simp only [State.servePending] <;> (repeat' split) <;> simp
@[simp] theorem serveAllPending_conv (s : State) (i : Nat) : (s.serveAllPending i).conv = s.conv := by
  simp only [State.serveAllPending] <;> (repeat' split) <;> simp
@[simp] theorem endStretch_conv (s : State) : (s.endStretch).conv = s.conv := by
  simp only [State.endStretch] <;> (repeat' split) <;> simp
@[simp] theorem stopAssessment_conv (s : State) : (s.stopAssessment).conv = s.conv := by
  simp only [State.stopAssessment] <;> (repeat' split) <;> simp
@[simp] theorem absentTake_conv (s : State) (x : Sample) : (s.absentTake x).conv = s.conv := by
  simp only [State.absentTake] <;> (repeat' split) <;> simp
@[simp] theorem absentNextWindow_conv (s : State) : (s.absentNextWindow).conv = s.conv := by
  simp only [State.absentNextWindow] <;> (repeat' split) <;> simp
@[simp] theorem holeTake_conv (s : State) (x : Sample) : (s.holeTake x).conv = s.conv := by
  simp only [State.holeTake] <;> (repeat' split) <;> simp
@[simp] theorem holeTransfer_conv (s : State) (src : ReportSource) : (s.holeTransfer src).conv = s.conv := by
  simp only [State.holeTransfer] <;> (repeat' split) <;> simp
@[simp] theorem updateEdges_conv (s : State) (e : EdgeTracker) : (s.updateEdges e).conv = s.conv := by
  simp only [State.updateEdges] <;> (repeat' split) <;> simp
@[simp] theorem edgeTake_conv (s : State) (x : Sample) : (s.edgeTake x).conv = s.conv := by
  simp only [State.edgeTake] <;> (repeat' split) <;> simp
@[simp] theorem binTake_conv (s : State) (x : Sample) : (s.binTake x).conv = s.conv := by
  simp only [State.binTake] <;> (repeat' split) <;> simp
@[simp] theorem profileRestart_conv (s : State) : (s.profileRestart).conv = s.conv := by
  simp only [State.profileRestart] <;> (repeat' split) <;> simp
@[simp] theorem clearContinuity_conv (s : State) : (s.clearContinuity).conv = s.conv := by
  simp only [State.clearContinuity] <;> (repeat' split) <;> simp
@[simp] theorem deferredAtAbort_conv (s : State) : (s.deferredAtAbort).conv = s.conv := by
  simp only [State.deferredAtAbort] <;> (repeat' split) <;> simp
@[simp] theorem profileActivation_conv (s : State) (l : Layout) : (s.profileActivation l).conv = s.conv := by
  simp only [State.profileActivation] <;> (repeat' split) <;> simp
@[simp] theorem startRecord_conv (s : State) (dir : ScanDir) : (s.startRecord dir).conv = s.conv := by
  simp only [State.startRecord] <;> (repeat' split) <;> simp
@[simp] theorem voidRecord_conv (s : State) : (s.voidRecord).conv = s.conv := by
  simp only [State.voidRecord] <;> (repeat' split) <;> simp
@[simp] theorem markLinkGaps_conv (s : State) : (s.markLinkGaps).conv = s.conv := by
  simp only [State.markLinkGaps] <;> (repeat' split) <;> simp
@[simp] theorem markTachHeld_conv (s : State) : (s.markTachHeld).conv = s.conv := by
  simp only [State.markTachHeld] <;> (repeat' split) <;> simp
@[simp] theorem closeAt_conv (s : State) (i : Nat) : (s.closeAt i).conv = s.conv := by
  simp only [State.closeAt] <;> (repeat' split) <;> simp
@[simp] theorem dropPeriod_conv (s : State) : (s.dropPeriod).conv = s.conv := by
  simp only [State.dropPeriod] <;> (repeat' split) <;> simp
@[simp] theorem periodSlot_conv (s : State) : (s.periodSlot).conv = s.conv := by
  simp only [State.periodSlot] <;> (repeat' split) <;> simp
@[simp] theorem pointTake_conv (s : State) (x : Sample) : (s.pointTake x).conv = s.conv := by
  simp only [State.pointTake] <;> (repeat' split) <;> simp
@[simp] theorem recordPeriod_conv (s : State) (p : PointPeriod) : (s.recordPeriod p).conv = s.conv := by
  simp only [State.recordPeriod] <;> (repeat' split) <;> simp
@[simp] theorem raise_conv (s : State) (c : HeadCommand) : (s.raise c).conv = s.conv := by
  simp only [State.raise] <;> (repeat' split) <;> simp
@[simp] theorem consumeStd_conv (s : State) : (s.consumeStd).conv = s.conv := by
  simp only [State.consumeStd] <;> (repeat' split) <;> simp
@[simp] theorem stdNotice_conv (s : State) : (s.stdNotice).conv = s.conv := by
  simp only [State.stdNotice] <;> (repeat' split) <;> simp
@[simp] theorem stdNoRecord_conv (s : State) : (s.stdNoRecord).conv = s.conv := by
  simp only [State.stdNoRecord] <;> (repeat' split) <;> simp
@[simp] theorem abortRefOut_conv (s : State) : (s.abortRefOut).conv = s.conv := by
  simp only [State.abortRefOut] <;> (repeat' split) <;> simp
@[simp] theorem enterReference_conv (s : State) : (s.enterReference).conv = s.conv := by
  simp only [State.enterReference] <;> (repeat' split) <;> simp
@[simp] theorem enterWithdraw_conv (s : State) : (s.enterWithdraw).conv = s.conv := by
  simp only [State.enterWithdraw] <;> (repeat' split) <;> simp
@[simp] theorem zeroEnd_conv (s : State) : (s.zeroEnd).conv = s.conv := by
  simp only [State.zeroEnd] <;> (repeat' split) <;> simp
@[simp] theorem tileSeen_conv (s : State) : (s.tileSeen).conv = s.conv := by
  simp only [State.tileSeen] <;> (repeat' split) <;> simp
@[simp] theorem tileExpired_conv (s : State) : (s.tileExpired).conv = s.conv := by
  simp only [State.tileExpired] <;> (repeat' split) <;> simp
@[simp] theorem toHead_conv (s : State) (h : HeadState) : (s.toHead h).conv = s.conv := by
  simp only [State.toHead] <;> (repeat' split) <;> simp
@[simp] theorem headNotice_conv (s : State) : (s.headNotice).conv = s.conv := by
  simp only [State.headNotice] <;> (repeat' split) <;> simp
@[simp] theorem grantTo_conv (s : State) (g : Grant) : (s.grantTo g).conv = s.conv := by
  simp only [State.grantTo] <;> (repeat' split) <;> simp
@[simp] theorem driveOff_conv (s : State) : (s.driveOff).conv = s.conv := by
  simp only [State.driveOff] <;> (repeat' split) <;> simp
@[simp] theorem drive_conv (s : State) (d : Bool) (n : Nat) : (s.drive d n).conv = s.conv := by
  simp only [State.drive] <;> (repeat' split) <;> simp
@[simp] theorem enterHead_conv (s : State) (h : HeadState) (g : Grant) : (s.enterHead h g).conv = s.conv := by
  simp only [State.enterHead] <;> (repeat' split) <;> simp
@[simp] theorem stayParked_conv (s : State) (g : Grant) : (s.stayParked g).conv = s.conv := by
  simp only [State.stayParked] <;> (repeat' split) <;> simp
@[simp] theorem beginSearch_conv (s : State) : (s.beginSearch).conv = s.conv := by
  simp only [State.beginSearch] <;> (repeat' split) <;> simp
@[simp] theorem scanAbortWith_conv (act : State → State) (h : ∀ s, (act s).conv = s.conv) (s : State) : (s.scanAbortWith act).conv = s.conv := by
  simp only [State.scanAbortWith] <;> (repeat' split) <;> simp [h]
@[simp] theorem breakNotice_conv (s : State) : (s.breakNotice).conv = s.conv := by
  simp only [State.breakNotice] <;> (repeat' split) <;> simp
@[simp] theorem addCauses_conv (s : State) (t : PerDetector Bool) : (s.addCauses t).conv = s.conv := by
  simp only [State.addCauses] <;> (repeat' split) <;> simp
@[simp] theorem judgeInEntry_conv (s : State) (t c : PerDetector Bool) : (s.judgeInEntry t c).conv = s.conv := by
  simp only [State.judgeInEntry] <;> (repeat' split) <;> simp
@[simp] theorem clearLimits_conv (s : State) : (s.clearLimits).conv = s.conv := by
  simp only [State.clearLimits] <;> (repeat' split) <;> simp
@[simp] theorem recipeNotice_conv (s : State) (c : RecipeCause) : (s.recipeNotice c).conv = s.conv := by
  simp only [State.recipeNotice] <;> (repeat' split) <;> simp
@[simp] theorem completeEdges_conv (s : State) (e : Option Edges) : (s.completeEdges e).conv = s.conv := by
  simp only [State.completeEdges] <;> (repeat' split) <;> simp
@[simp] theorem closeFilling_conv (s : State) : (s.closeFilling).conv = s.conv := by
  simp only [State.closeFilling] <;> (repeat' split) <;> simp
@[simp] theorem completeRecord_conv (s : State) (dir : ScanDir) : (s.completeRecord dir).conv = s.conv := by
  simp only [State.completeRecord] <;> (repeat' split) <;> simp
@[simp] theorem completeStd_conv (s : State) : (s.completeStd).conv = s.conv := by
  simp only [State.completeStd] <;> (repeat' split) <;> simp
@[simp] theorem completeRecovery_conv (s : State) : (s.completeRecovery).conv = s.conv := by
  simp only [State.completeRecovery] <;> (repeat' split) <;> simp
@[simp] theorem evaluateLimits_conv (s : State) (r : ScanRecord) : (s.evaluateLimits r).conv = s.conv := by
  simp only [State.evaluateLimits] <;> (repeat' split) <;> simp
@[simp] theorem reportHoles_conv (s : State) (src : ReportSource) : (s.reportHoles src).conv = s.conv := by
  simp only [State.reportHoles] <;> (repeat' split) <;> simp
@[simp] theorem completeHoles_conv (s : State) : (s.completeHoles).conv = s.conv := by
  simp only [State.completeHoles] <;> (repeat' split) <;> simp
@[simp] theorem completeLimits_conv (s : State) : (s.completeLimits).conv = s.conv := by
  simp only [State.completeLimits] <;> (repeat' split) <;> simp
@[simp] theorem handOn_conv (s : State) (x : Sample) : (s.handOn x).conv = s.conv := by
  simp only [State.handOn] <;> (repeat' split) <;> simp
@[simp] theorem rejudgeAtSpeed_conv (s : State) : (s.rejudgeAtSpeed).conv = s.conv := by
  simp only [State.rejudgeAtSpeed] <;> (repeat' split) <;> simp
@[simp] theorem gateEnd_conv (s : State) : (s.gateEnd).conv = s.conv := by
  simp only [State.gateEnd] <;> (repeat' split) <;> simp
@[simp] theorem lossExpiry_conv (s : State) : (s.lossExpiry).conv = s.conv := by
  simp only [State.lossExpiry] <;> (repeat' split) <;> simp
@[simp] theorem levelChange_conv (s : State) (d : Detector) (h : Bool) : (s.levelChange d h).conv = s.conv := by
  simp only [State.levelChange] <;> (repeat' split) <;> simp
@[simp] theorem serveStatus_conv (s : State) (st : Station) (tag : Byte) : (s.serveStatus st tag).conv = s.conv := by
  simp only [State.serveStatus] <;> (repeat' split) <;> simp
@[simp] theorem answer_conv (s : State) (st : Station) (k : RequestKind) (tag : Byte) (c : Status) : (s.answer st k tag c).conv = s.conv := by
  simp only [State.answer] <;> (repeat' split) <;> simp
@[simp] theorem serveFound_conv (s : State) (st : Station) (tag : Byte) (q : ScanQuery) (i : Option Nat) : (s.serveFound st tag q i).conv = s.conv := by
  simp only [State.serveFound] <;> (repeat' split) <;> simp
@[simp] theorem makePending_conv (s : State) (st : Station) (tag : Byte) (q : ScanQuery) (m : BitVec 16) (wait : Nat) : (s.makePending st tag q m wait).conv = s.conv := by
  simp only [State.makePending] <;> (repeat' split) <;> simp
@[simp] theorem serveMinimum_conv (s : State) (st : Station) (tag : Byte) (q : ScanQuery) (m : BitVec 16) (wait : Nat) : (s.serveMinimum st tag q m wait).conv = s.conv := by
  simp only [State.serveMinimum] <;> (repeat' split) <;> simp
@[simp] theorem serveReadScan_conv (s : State) (st : Station) (tag : Byte) (p : List Byte) : (s.serveReadScan st tag p).conv = s.conv := by
  simp only [State.serveReadScan] <;> (repeat' split) <;> simp
@[simp] theorem serveReadTrend_conv (s : State) (st : Station) (tag : Byte) : (s.serveReadTrend st tag).conv = s.conv := by
  simp only [State.serveReadTrend] <;> (repeat' split) <;> simp
@[simp] theorem serveReadPoints_conv (s : State) (st : Station) (tag : Byte) (p : List Byte) : (s.serveReadPoints st tag p).conv = s.conv := by
  simp only [State.serveReadPoints] <;> (repeat' split) <;> simp
@[simp] theorem serveReadStandardization_conv (s : State) (st : Station) (tag : Byte) : (s.serveReadStandardization st tag).conv = s.conv := by
  simp only [State.serveReadStandardization] <;> (repeat' split) <;> simp
@[simp] theorem serveCancel_conv (s : State) (st : Station) (tag : Byte) : (s.serveCancel st tag).conv = s.conv := by
  simp only [State.serveCancel] <;> (repeat' split) <;> simp
@[simp] theorem setSlot_conv (s : State) (st : Station) (m : ModeSlot) : (s.setSlot st m).conv = s.conv := by
  simp only [State.setSlot] <;> (repeat' split) <;> simp
@[simp] theorem modeReply_conv (s : State) (st : Station) (tag : Byte) (c : Status) : (s.modeReply st tag c).conv = s.conv := by
  simp only [State.modeReply] <;> (repeat' split) <;> simp
@[simp] theorem takeCountReply_conv (s : State) (st : Station) (tag : Byte) (m : HoleMode) : (s.takeCountReply st tag m).conv = s.conv := by
  simp only [State.takeCountReply] <;> (repeat' split) <;> simp
@[simp] theorem serveTakeCount_conv (s : State) (st : Station) (tag : Byte) : (s.serveTakeCount st tag).conv = s.conv := by
  simp only [State.serveTakeCount] <;> (repeat' split) <;> simp
@[simp] theorem serveRestart_conv (s : State) (st : Station) (tag : Byte) : (s.serveRestart st tag).conv = s.conv := by
  simp only [State.serveRestart] <;> (repeat' split) <;> simp
@[simp] theorem writeRecipe_conv (s : State) (st : Station) (tag : Byte) (p : List Byte) (i : SlotNo) (g : Group) : (s.writeRecipe st tag p i g).conv = s.conv := by
  simp only [State.writeRecipe] <;> (repeat' split) <;> simp
@[simp] theorem serveRecipeWrite_conv (s : State) (st : Station) (tag : Byte) (p : List Byte) : (s.serveRecipeWrite st tag p).conv = s.conv := by
  simp only [State.serveRecipeWrite] <;> (repeat' split) <;> simp
@[simp] theorem serveRecipeRead_conv (s : State) (st : Station) (tag : Byte) (p : List Byte) : (s.serveRecipeRead st tag p).conv = s.conv := by
  simp only [State.serveRecipeRead] <;> (repeat' split) <;> simp
@[simp] theorem validateSlot_conv (s : State) (st : Station) (tag : Byte) (i : SlotNo) : (s.validateSlot st tag i).conv = s.conv := by
  simp only [State.validateSlot] <;> (repeat' split) <;> simp
@[simp] theorem serveValidate_conv (s : State) (st : Station) (tag : Byte) (p : List Byte) : (s.serveValidate st tag p).conv = s.conv := by
  simp only [State.serveValidate] <;> (repeat' split) <;> simp
@[simp] theorem selectReply_conv (s : State) (st : Station) (tag : Byte) (t : Timing) : (s.selectReply st tag t).conv = s.conv := by
  simp only [State.selectReply] <;> (repeat' split) <;> simp
@[simp] theorem handMachine_conv (s : State) (old : MachineRecord) : (s.handMachine old).conv = s.conv := by
  simp only [State.handMachine] <;> (repeat' split) <;> simp
@[simp] theorem machineReply_conv (s : State) (st : Station) (k : RequestKind) (tag : Byte) (c : Status) : (s.machineReply st k tag c).conv = s.conv := by
  simp only [State.machineReply] <;> (repeat' split) <;> simp
@[simp] theorem acceptMachine_conv (s : State) (st : Station) (tag : Byte) (c : Status) (m : MachineRecord) : (s.acceptMachine st tag c m).conv = s.conv := by
  simp only [State.acceptMachine] <;> (repeat' split) <;> simp
@[simp] theorem judgeMachine_conv (s : State) (st : Station) (tag : Byte) (m : MachineRecord) : (s.judgeMachine st tag m).conv = s.conv := by
  simp only [State.judgeMachine] <;> (repeat' split) <;> simp
@[simp] theorem serveMachineWrite_conv (s : State) (st : Station) (tag : Byte) (p : List Byte) : (s.serveMachineWrite st tag p).conv = s.conv := by
  simp only [State.serveMachineWrite] <;> (repeat' split) <;> simp
@[simp] theorem serveMachineRead_conv (s : State) (st : Station) (tag : Byte) : (s.serveMachineRead st tag).conv = s.conv := by
  simp only [State.serveMachineRead] <;> (repeat' split) <;> simp
@[simp] theorem serveSubscribe_conv (s : State) (st : Station) (tag : Byte) (p : List Byte) : (s.serveSubscribe st tag p).conv = s.conv := by
  simp only [State.serveSubscribe] <;> (repeat' split) <;> simp
@[simp] theorem answerUnknown_conv (s : State) (st : Station) (tag : Byte) : (s.answerUnknown st tag).conv = s.conv := by
  simp only [State.answerUnknown] <;> (repeat' split) <;> simp
@[simp] theorem transmitted_conv (s : State) (st : Station) : (s.transmitted st).conv = s.conv := by
  simp only [State.transmitted] <;> (repeat' split) <;> simp

/-! ### What leaves the edge tracker alone -/

@[simp] theorem onPort_edges (s : State) (st : Station) (f : Port → Port) : (s.onPort st f).edges = s.edges := by
  simp only [State.onPort] <;> (repeat' split) <;> simp
@[simp] theorem startBit_edges (s : State) (st : Station) : (s.startBit st).edges = s.edges := by
  simp only [State.startBit] <;> (repeat' split) <;> simp
@[simp] theorem onPorts_edges (s : State) (f : Port → Port) : (s.onPorts f).edges = s.edges := by
  simp only [State.onPorts] <;> (repeat' split) <;> simp
@[simp] theorem reply_edges (s : State) (st : Station) (k : RequestKind) (tag : Byte) (b : ReplyBody) : (s.reply st k tag b).edges = s.edges := by
  simp only [State.reply] <;> (repeat' split) <;> simp
@[simp] theorem offer_edges (s : State) (n : Notice) : (s.offer n).edges = s.edges := by
  simp only [State.offer] <;> (repeat' split) <;> simp
@[simp] theorem settle_edges (s : State) : (s.settle).edges = s.edges := by
  simp only [State.settle] <;> (repeat' split) <;> simp
@[simp] theorem serveScan_edges (s : State) (st : Station) (tag : Byte) (q : ScanQuery) (i : Nat) : (s.serveScan st tag q i).edges = s.edges := by
  simp only [State.serveScan] <;> (repeat' split) <;> simp
@[simp] theorem endPending_edges (s : State) (st : Station) (b : ReplyBody) : (s.endPending st b).edges = s.edges := by
  simp only [State.endPending] <;> (repeat' split) <;> simp
@[simp] theorem endPendingByBreak_edges (s : State) : (s.endPendingByBreak).edges = s.edges := by
  simp only [State.endPendingByBreak] <;> (repeat' split) <;> simp
@[simp] theorem servePending_edges (s : State) (i : Nat) (st : Station) : (s.servePending i st).edges = s.edges := by
  simp only [State.servePending] <;> (repeat' split) <;> simp
@[simp] theorem serveAllPending_edges (s : State) (i : Nat) : (s.serveAllPending i).edges = s.edges := by
  simp only [State.serveAllPending] <;> (repeat' split) <;> simp
@[simp] theorem endStretch_edges (s : State) : (s.endStretch).edges = s.edges := by
  simp only [State.endStretch] <;> (repeat' split) <;> simp
@[simp] theorem stopAssessment_edges (s : State) : (s.stopAssessment).edges = s.edges := by
  simp only [State.stopAssessment] <;> (repeat' split) <;> simp
@[simp] theorem absentTake_edges (s : State) (x : Sample) : (s.absentTake x).edges = s.edges := by
  simp only [State.absentTake] <;> (repeat' split) <;> simp
@[simp] theorem absentNextWindow_edges (s : State) : (s.absentNextWindow).edges = s.edges := by
  simp only [State.absentNextWindow] <;> (repeat' split) <;> simp
@[simp] theorem holeTake_edges (s : State) (x : Sample) : (s.holeTake x).edges = s.edges := by
  simp only [State.holeTake] <;> (repeat' split) <;> simp
@[simp] theorem holeTransfer_edges (s : State) (src : ReportSource) : (s.holeTransfer src).edges = s.edges := by
  simp only [State.holeTransfer] <;> (repeat' split) <;> simp
@[simp] theorem binTake_edges (s : State) (x : Sample) : (s.binTake x).edges = s.edges := by
  simp only [State.binTake] <;> (repeat' split) <;> simp
@[simp] theorem clearContinuity_edges (s : State) : (s.clearContinuity).edges = s.edges := by
  simp only [State.clearContinuity] <;> (repeat' split) <;> simp
@[simp] theorem adopt_edges (s : State) : (s.adopt).edges = s.edges := by
  simp only [State.adopt] <;> (repeat' split) <;> simp
@[simp] theorem dropPendingSet_edges (s : State) : (s.dropPendingSet).edges = s.edges := by
  simp only [State.dropPendingSet] <;> (repeat' split) <;> simp
@[simp] theorem startRecord_edges (s : State) (dir : ScanDir) : (s.startRecord dir).edges = s.edges := by
  simp only [State.startRecord] <;> (repeat' split) <;> simp
@[simp] theorem voidRecord_edges (s : State) : (s.voidRecord).edges = s.edges := by
  simp only [State.voidRecord] <;> (repeat' split) <;> simp
@[simp] theorem markLinkGaps_edges (s : State) : (s.markLinkGaps).edges = s.edges := by
  simp only [State.markLinkGaps] <;> (repeat' split) <;> simp
@[simp] theorem markTachHeld_edges (s : State) : (s.markTachHeld).edges = s.edges := by
  simp only [State.markTachHeld] <;> (repeat' split) <;> simp
@[simp] theorem closeAt_edges (s : State) (i : Nat) : (s.closeAt i).edges = s.edges := by
  simp only [State.closeAt] <;> (repeat' split) <;> simp
@[simp] theorem startPeriod_edges (s : State) : (s.startPeriod).edges = s.edges := by
  simp only [State.startPeriod] <;> (repeat' split) <;> simp
@[simp] theorem dropPeriod_edges (s : State) : (s.dropPeriod).edges = s.edges := by
  simp only [State.dropPeriod] <;> (repeat' split) <;> simp
@[simp] theorem periodSlot_edges (s : State) : (s.periodSlot).edges = s.edges := by
  simp only [State.periodSlot] <;> (repeat' split) <;> simp
@[simp] theorem pointTake_edges (s : State) (x : Sample) : (s.pointTake x).edges = s.edges := by
  simp only [State.pointTake] <;> (repeat' split) <;> simp
@[simp] theorem recordPeriod_edges (s : State) (p : PointPeriod) : (s.recordPeriod p).edges = s.edges := by
  simp only [State.recordPeriod] <;> (repeat' split) <;> simp
@[simp] theorem raise_edges (s : State) (c : HeadCommand) : (s.raise c).edges = s.edges := by
  simp only [State.raise] <;> (repeat' split) <;> simp
@[simp] theorem consumeStd_edges (s : State) : (s.consumeStd).edges = s.edges := by
  simp only [State.consumeStd] <;> (repeat' split) <;> simp
@[simp] theorem stdNotice_edges (s : State) : (s.stdNotice).edges = s.edges := by
  simp only [State.stdNotice] <;> (repeat' split) <;> simp
@[simp] theorem stdCommit_edges (s : State) : (s.stdCommit).edges = s.edges := by
  simp only [State.stdCommit] <;> (repeat' split) <;> simp
@[simp] theorem stdFail_edges (s : State) : (s.stdFail).edges = s.edges := by
  simp only [State.stdFail] <;> (repeat' split) <;> simp
@[simp] theorem stdNoRecord_edges (s : State) : (s.stdNoRecord).edges = s.edges := by
  simp only [State.stdNoRecord] <;> (repeat' split) <;> simp
@[simp] theorem abortRefOut_edges (s : State) : (s.abortRefOut).edges = s.edges := by
  simp only [State.abortRefOut] <;> (repeat' split) <;> simp
@[simp] theorem stdAbort_edges (s : State) : (s.stdAbort).edges = s.edges := by
  simp only [State.stdAbort] <;> (repeat' split) <;> simp
@[simp] theorem enterReference_edges (s : State) : (s.enterReference).edges = s.edges := by
  simp only [State.enterReference] <;> (repeat' split) <;> simp
@[simp] theorem enterWithdraw_edges (s : State) : (s.enterWithdraw).edges = s.edges := by
  simp only [State.enterWithdraw] <;> (repeat' split) <;> simp
@[simp] theorem zeroEnd_edges (s : State) : (s.zeroEnd).edges = s.edges := by
  simp only [State.zeroEnd] <;> (repeat' split) <;> simp
@[simp] theorem referenceEnd_edges (s : State) : (s.referenceEnd).edges = s.edges := by
  simp only [State.referenceEnd] <;> (repeat' split) <;> simp
@[simp] theorem collectionSlot_edges (s : State) (raw : Option RawSample) : (s.collectionSlot raw).edges = s.edges := by
  simp only [State.collectionSlot] <;> (repeat' split) <;> simp
@[simp] theorem tileSeen_edges (s : State) : (s.tileSeen).edges = s.edges := by
  simp only [State.tileSeen] <;> (repeat' split) <;> simp
@[simp] theorem tileExpired_edges (s : State) : (s.tileExpired).edges = s.edges := by
  simp only [State.tileExpired] <;> (repeat' split) <;> simp
@[simp] theorem stuckTile_edges (s : State) : (s.stuckTile).edges = s.edges := by
  simp only [State.stuckTile] <;> (repeat' split) <;> simp
@[simp] theorem toHead_edges (s : State) (h : HeadState) : (s.toHead h).edges = s.edges := by
  simp only [State.toHead] <;> (repeat' split) <;> simp
@[simp] theorem headNotice_edges (s : State) : (s.headNotice).edges = s.edges := by
  simp only [State.headNotice] <;> (repeat' split) <;> simp
@[simp] theorem grantTo_edges (s : State) (g : Grant) : (s.grantTo g).edges = s.edges := by
  simp only [State.grantTo] <;> (repeat' split) <;> simp
@[simp] theorem driveOff_edges (s : State) : (s.driveOff).edges = s.edges := by
  simp only [State.driveOff] <;> (repeat' split) <;> simp
@[simp] theorem drive_edges (s : State) (d : Bool) (n : Nat) : (s.drive d n).edges = s.edges := by
  simp only [State.drive] <;> (repeat' split) <;> simp
@[simp] theorem enterHead_edges (s : State) (h : HeadState) (g : Grant) : (s.enterHead h g).edges = s.edges := by
  simp only [State.enterHead] <;> (repeat' split) <;> simp
@[simp] theorem arrivePoint_edges (s : State) : (s.arrivePoint).edges = s.edges := by
  simp only [State.arrivePoint] <;> (repeat' split) <;> simp
@[simp] theorem stayParked_edges (s : State) (g : Grant) : (s.stayParked g).edges = s.edges := by
  simp only [State.stayParked] <;> (repeat' split) <;> simp
@[simp] theorem beginSearch_edges (s : State) : (s.beginSearch).edges = s.edges := by
  simp only [State.beginSearch] <;> (repeat' split) <;> simp
@[simp] theorem breakNotice_edges (s : State) : (s.breakNotice).edges = s.edges := by
  simp only [State.breakNotice] <;> (repeat' split) <;> simp
@[simp] theorem addCauses_edges (s : State) (t : PerDetector Bool) : (s.addCauses t).edges = s.edges := by
  simp only [State.addCauses] <;> (repeat' split) <;> simp
@[simp] theorem judgeInEntry_edges (s : State) (t c : PerDetector Bool) : (s.judgeInEntry t c).edges = s.edges := by
  simp only [State.judgeInEntry] <;> (repeat' split) <;> simp
@[simp] theorem clearLimits_edges (s : State) : (s.clearLimits).edges = s.edges := by
  simp only [State.clearLimits] <;> (repeat' split) <;> simp
@[simp] theorem recipeNotice_edges (s : State) (c : RecipeCause) : (s.recipeNotice c).edges = s.edges := by
  simp only [State.recipeNotice] <;> (repeat' split) <;> simp
@[simp] theorem closeFilling_edges (s : State) : (s.closeFilling).edges = s.edges := by
  simp only [State.closeFilling] <;> (repeat' split) <;> simp
@[simp] theorem completeStd_edges (s : State) : (s.completeStd).edges = s.edges := by
  simp only [State.completeStd] <;> (repeat' split) <;> simp
@[simp] theorem completeRecovery_edges (s : State) : (s.completeRecovery).edges = s.edges := by
  simp only [State.completeRecovery] <;> (repeat' split) <;> simp
@[simp] theorem evaluateLimits_edges (s : State) (r : ScanRecord) : (s.evaluateLimits r).edges = s.edges := by
  simp only [State.evaluateLimits] <;> (repeat' split) <;> simp
@[simp] theorem reportHoles_edges (s : State) (src : ReportSource) : (s.reportHoles src).edges = s.edges := by
  simp only [State.reportHoles] <;> (repeat' split) <;> simp
@[simp] theorem completeHoles_edges (s : State) : (s.completeHoles).edges = s.edges := by
  simp only [State.completeHoles] <;> (repeat' split) <;> simp
@[simp] theorem completeLimits_edges (s : State) : (s.completeLimits).edges = s.edges := by
  simp only [State.completeLimits] <;> (repeat' split) <;> simp
@[simp] theorem rejudgeAtSpeed_edges (s : State) : (s.rejudgeAtSpeed).edges = s.edges := by
  simp only [State.rejudgeAtSpeed] <;> (repeat' split) <;> simp
@[simp] theorem gateEnd_edges (s : State) : (s.gateEnd).edges = s.edges := by
  simp only [State.gateEnd] <;> (repeat' split) <;> simp
@[simp] theorem lossExpiry_edges (s : State) : (s.lossExpiry).edges = s.edges := by
  simp only [State.lossExpiry] <;> (repeat' split) <;> simp
@[simp] theorem levelChange_edges (s : State) (d : Detector) (h : Bool) : (s.levelChange d h).edges = s.edges := by
  simp only [State.levelChange] <;> (repeat' split) <;> simp
@[simp] theorem serveStatus_edges (s : State) (st : Station) (tag : Byte) : (s.serveStatus st tag).edges = s.edges := by
  simp only [State.serveStatus] <;> (repeat' split) <;> simp
@[simp] theorem answer_edges (s : State) (st : Station) (k : RequestKind) (tag : Byte) (c : Status) : (s.answer st k tag c).edges = s.edges := by
  simp only [State.answer] <;> (repeat' split) <;> simp
@[simp] theorem serveFound_edges (s : State) (st : Station) (tag : Byte) (q : ScanQuery) (i : Option Nat) : (s.serveFound st tag q i).edges = s.edges := by
  simp only [State.serveFound] <;> (repeat' split) <;> simp
@[simp] theorem makePending_edges (s : State) (st : Station) (tag : Byte) (q : ScanQuery) (m : BitVec 16) (wait : Nat) : (s.makePending st tag q m wait).edges = s.edges := by
  simp only [State.makePending] <;> (repeat' split) <;> simp
@[simp] theorem serveMinimum_edges (s : State) (st : Station) (tag : Byte) (q : ScanQuery) (m : BitVec 16) (wait : Nat) : (s.serveMinimum st tag q m wait).edges = s.edges := by
  simp only [State.serveMinimum] <;> (repeat' split) <;> simp
@[simp] theorem serveReadScan_edges (s : State) (st : Station) (tag : Byte) (p : List Byte) : (s.serveReadScan st tag p).edges = s.edges := by
  simp only [State.serveReadScan] <;> (repeat' split) <;> simp
@[simp] theorem serveReadTrend_edges (s : State) (st : Station) (tag : Byte) : (s.serveReadTrend st tag).edges = s.edges := by
  simp only [State.serveReadTrend] <;> (repeat' split) <;> simp
@[simp] theorem serveReadPoints_edges (s : State) (st : Station) (tag : Byte) (p : List Byte) : (s.serveReadPoints st tag p).edges = s.edges := by
  simp only [State.serveReadPoints] <;> (repeat' split) <;> simp
@[simp] theorem serveReadStandardization_edges (s : State) (st : Station) (tag : Byte) : (s.serveReadStandardization st tag).edges = s.edges := by
  simp only [State.serveReadStandardization] <;> (repeat' split) <;> simp
@[simp] theorem serveCancel_edges (s : State) (st : Station) (tag : Byte) : (s.serveCancel st tag).edges = s.edges := by
  simp only [State.serveCancel] <;> (repeat' split) <;> simp
@[simp] theorem setSlot_edges (s : State) (st : Station) (m : ModeSlot) : (s.setSlot st m).edges = s.edges := by
  simp only [State.setSlot] <;> (repeat' split) <;> simp
@[simp] theorem modeReply_edges (s : State) (st : Station) (tag : Byte) (c : Status) : (s.modeReply st tag c).edges = s.edges := by
  simp only [State.modeReply] <;> (repeat' split) <;> simp
@[simp] theorem takeCountReply_edges (s : State) (st : Station) (tag : Byte) (m : HoleMode) : (s.takeCountReply st tag m).edges = s.edges := by
  simp only [State.takeCountReply] <;> (repeat' split) <;> simp
@[simp] theorem serveTakeCount_edges (s : State) (st : Station) (tag : Byte) : (s.serveTakeCount st tag).edges = s.edges := by
  simp only [State.serveTakeCount] <;> (repeat' split) <;> simp
@[simp] theorem writeRecipe_edges (s : State) (st : Station) (tag : Byte) (p : List Byte) (i : SlotNo) (g : Group) : (s.writeRecipe st tag p i g).edges = s.edges := by
  simp only [State.writeRecipe] <;> (repeat' split) <;> simp
@[simp] theorem serveRecipeWrite_edges (s : State) (st : Station) (tag : Byte) (p : List Byte) : (s.serveRecipeWrite st tag p).edges = s.edges := by
  simp only [State.serveRecipeWrite] <;> (repeat' split) <;> simp
@[simp] theorem serveRecipeRead_edges (s : State) (st : Station) (tag : Byte) (p : List Byte) : (s.serveRecipeRead st tag p).edges = s.edges := by
  simp only [State.serveRecipeRead] <;> (repeat' split) <;> simp
@[simp] theorem validateSlot_edges (s : State) (st : Station) (tag : Byte) (i : SlotNo) : (s.validateSlot st tag i).edges = s.edges := by
  simp only [State.validateSlot] <;> (repeat' split) <;> simp
@[simp] theorem serveValidate_edges (s : State) (st : Station) (tag : Byte) (p : List Byte) : (s.serveValidate st tag p).edges = s.edges := by
  simp only [State.serveValidate] <;> (repeat' split) <;> simp
@[simp] theorem selectReply_edges (s : State) (st : Station) (tag : Byte) (t : Timing) : (s.selectReply st tag t).edges = s.edges := by
  simp only [State.selectReply] <;> (repeat' split) <;> simp
@[simp] theorem handMachine_edges (s : State) (old : MachineRecord) : (s.handMachine old).edges = s.edges := by
  simp only [State.handMachine] <;> (repeat' split) <;> simp
@[simp] theorem machineReply_edges (s : State) (st : Station) (k : RequestKind) (tag : Byte) (c : Status) : (s.machineReply st k tag c).edges = s.edges := by
  simp only [State.machineReply] <;> (repeat' split) <;> simp
@[simp] theorem acceptMachine_edges (s : State) (st : Station) (tag : Byte) (c : Status) (m : MachineRecord) : (s.acceptMachine st tag c m).edges = s.edges := by
  simp only [State.acceptMachine] <;> (repeat' split) <;> simp
@[simp] theorem judgeMachine_edges (s : State) (st : Station) (tag : Byte) (m : MachineRecord) : (s.judgeMachine st tag m).edges = s.edges := by
  simp only [State.judgeMachine] <;> (repeat' split) <;> simp
@[simp] theorem serveMachineWrite_edges (s : State) (st : Station) (tag : Byte) (p : List Byte) : (s.serveMachineWrite st tag p).edges = s.edges := by
  simp only [State.serveMachineWrite] <;> (repeat' split) <;> simp
@[simp] theorem serveMachineRead_edges (s : State) (st : Station) (tag : Byte) : (s.serveMachineRead st tag).edges = s.edges := by
  simp only [State.serveMachineRead] <;> (repeat' split) <;> simp
@[simp] theorem serveSubscribe_edges (s : State) (st : Station) (tag : Byte) (p : List Byte) : (s.serveSubscribe st tag p).edges = s.edges := by
  simp only [State.serveSubscribe] <;> (repeat' split) <;> simp
@[simp] theorem answerUnknown_edges (s : State) (st : Station) (tag : Byte) : (s.answerUnknown st tag).edges = s.edges := by
  simp only [State.answerUnknown] <;> (repeat' split) <;> simp
@[simp] theorem transmitted_edges (s : State) (st : Station) : (s.transmitted st).edges = s.edges := by
  simp only [State.transmitted] <;> (repeat' split) <;> simp

/-! ### What leaves the profile unit alone -/

@[simp] theorem onPort_profile (s : State) (st : Station) (f : Port → Port) : (s.onPort st f).profile = s.profile := by
  simp only [State.onPort] <;> (repeat' split) <;> simp
@[simp] theorem startBit_profile (s : State) (st : Station) : (s.startBit st).profile = s.profile := by
  simp only [State.startBit] <;> (repeat' split) <;> simp
@[simp] theorem onPorts_profile (s : State) (f : Port → Port) : (s.onPorts f).profile = s.profile := by
  simp only [State.onPorts] <;> (repeat' split) <;> simp
@[simp] theorem reply_profile (s : State) (st : Station) (k : RequestKind) (tag : Byte) (b : ReplyBody) : (s.reply st k tag b).profile = s.profile := by
  simp only [State.reply] <;> (repeat' split) <;> simp
@[simp] theorem offer_profile (s : State) (n : Notice) : (s.offer n).profile = s.profile := by
  simp only [State.offer] <;> (repeat' split) <;> simp
@[simp] theorem settle_profile (s : State) : (s.settle).profile = s.profile := by
  simp only [State.settle] <;> (repeat' split) <;> simp
@[simp] theorem serveScan_profile (s : State) (st : Station) (tag : Byte) (q : ScanQuery) (i : Nat) : (s.serveScan st tag q i).profile = s.profile := by
  simp only [State.serveScan] <;> (repeat' split) <;> simp
@[simp] theorem endPending_profile (s : State) (st : Station) (b : ReplyBody) : (s.endPending st b).profile = s.profile := by
  simp only [State.endPending] <;> (repeat' split) <;> simp
@[simp] theorem endPendingByBreak_profile (s : State) : (s.endPendingByBreak).profile = s.profile := by
  simp only [State.endPendingByBreak] <;> (repeat' split) <;> simp
@[simp] theorem servePending_profile (s : State) (i : Nat) (st : Station) : (s.servePending i st).profile = s.profile := by
  simp only [State.servePending] <;> (repeat' split) <;> simp
@[simp] theorem serveAllPending_profile (s : State) (i : Nat) : (s.serveAllPending i).profile = s.profile := by
  simp only [State.serveAllPending] <;> (repeat' split) <;> simp
@[simp] theorem endStretch_profile (s : State) : (s.endStretch).profile = s.profile := by
  simp only [State.endStretch] <;> (repeat' split) <;> simp
@[simp] theorem stopAssessment_profile (s : State) : (s.stopAssessment).profile = s.profile := by
  simp only [State.stopAssessment] <;> (repeat' split) <;> simp
@[simp] theorem absentTake_profile (s : State) (x : Sample) : (s.absentTake x).profile = s.profile := by
  simp only [State.absentTake] <;> (repeat' split) <;> simp
@[simp] theorem absentNextWindow_profile (s : State) : (s.absentNextWindow).profile = s.profile := by
  simp only [State.absentNextWindow] <;> (repeat' split) <;> simp
@[simp] theorem holeTake_profile (s : State) (x : Sample) : (s.holeTake x).profile = s.profile := by
  simp only [State.holeTake] <;> (repeat' split) <;> simp
@[simp] theorem holeTransfer_profile (s : State) (src : ReportSource) : (s.holeTransfer src).profile = s.profile := by
  simp only [State.holeTransfer] <;> (repeat' split) <;> simp
@[simp] theorem updateEdges_profile (s : State) (e : EdgeTracker) : (s.updateEdges e).profile = s.profile := by
  simp only [State.updateEdges] <;> (repeat' split) <;> simp
@[simp] theorem edgeTake_profile (s : State) (x : Sample) : (s.edgeTake x).profile = s.profile := by
  simp only [State.edgeTake] <;> (repeat' split) <;> simp
@[simp] theorem binTake_profile (s : State) (x : Sample) : (s.binTake x).profile = s.profile := by
  simp only [State.binTake] <;> (repeat' split) <;> simp
@[simp] theorem adopt_profile (s : State) : (s.adopt).profile = s.profile := by
  simp only [State.adopt] <;> (repeat' split) <;> simp
@[simp] theorem dropPendingSet_profile (s : State) : (s.dropPendingSet).profile = s.profile := by
  simp only [State.dropPendingSet] <;> (repeat' split) <;> simp
@[simp] theorem startRecord_profile (s : State) (dir : ScanDir) : (s.startRecord dir).profile = s.profile := by
  simp only [State.startRecord] <;> (repeat' split) <;> simp
@[simp] theorem voidRecord_profile (s : State) : (s.voidRecord).profile = s.profile := by
  simp only [State.voidRecord] <;> (repeat' split) <;> simp
@[simp] theorem markLinkGaps_profile (s : State) : (s.markLinkGaps).profile = s.profile := by
  simp only [State.markLinkGaps] <;> (repeat' split) <;> simp
@[simp] theorem markTachHeld_profile (s : State) : (s.markTachHeld).profile = s.profile := by
  simp only [State.markTachHeld] <;> (repeat' split) <;> simp
@[simp] theorem closeAt_profile (s : State) (i : Nat) : (s.closeAt i).profile = s.profile := by
  simp only [State.closeAt] <;> (repeat' split) <;> simp
@[simp] theorem startPeriod_profile (s : State) : (s.startPeriod).profile = s.profile := by
  simp only [State.startPeriod] <;> (repeat' split) <;> simp
@[simp] theorem dropPeriod_profile (s : State) : (s.dropPeriod).profile = s.profile := by
  simp only [State.dropPeriod] <;> (repeat' split) <;> simp
@[simp] theorem periodSlot_profile (s : State) : (s.periodSlot).profile = s.profile := by
  simp only [State.periodSlot] <;> (repeat' split) <;> simp
@[simp] theorem pointTake_profile (s : State) (x : Sample) : (s.pointTake x).profile = s.profile := by
  simp only [State.pointTake] <;> (repeat' split) <;> simp
@[simp] theorem recordPeriod_profile (s : State) (p : PointPeriod) : (s.recordPeriod p).profile = s.profile := by
  simp only [State.recordPeriod] <;> (repeat' split) <;> simp
@[simp] theorem raise_profile (s : State) (c : HeadCommand) : (s.raise c).profile = s.profile := by
  simp only [State.raise] <;> (repeat' split) <;> simp
@[simp] theorem consumeStd_profile (s : State) : (s.consumeStd).profile = s.profile := by
  simp only [State.consumeStd] <;> (repeat' split) <;> simp
@[simp] theorem stdNotice_profile (s : State) : (s.stdNotice).profile = s.profile := by
  simp only [State.stdNotice] <;> (repeat' split) <;> simp
@[simp] theorem stdCommit_profile (s : State) : (s.stdCommit).profile = s.profile := by
  simp only [State.stdCommit] <;> (repeat' split) <;> simp
@[simp] theorem stdFail_profile (s : State) : (s.stdFail).profile = s.profile := by
  simp only [State.stdFail] <;> (repeat' split) <;> simp
@[simp] theorem stdNoRecord_profile (s : State) : (s.stdNoRecord).profile = s.profile := by
  simp only [State.stdNoRecord] <;> (repeat' split) <;> simp
@[simp] theorem abortRefOut_profile (s : State) : (s.abortRefOut).profile = s.profile := by
  simp only [State.abortRefOut] <;> (repeat' split) <;> simp
@[simp] theorem stdAbort_profile (s : State) : (s.stdAbort).profile = s.profile := by
  simp only [State.stdAbort] <;> (repeat' split) <;> simp
@[simp] theorem enterReference_profile (s : State) : (s.enterReference).profile = s.profile := by
  simp only [State.enterReference] <;> (repeat' split) <;> simp
@[simp] theorem enterWithdraw_profile (s : State) : (s.enterWithdraw).profile = s.profile := by
  simp only [State.enterWithdraw] <;> (repeat' split) <;> simp
@[simp] theorem zeroEnd_profile (s : State) : (s.zeroEnd).profile = s.profile := by
  simp only [State.zeroEnd] <;> (repeat' split) <;> simp
@[simp] theorem referenceEnd_profile (s : State) : (s.referenceEnd).profile = s.profile := by
  simp only [State.referenceEnd] <;> (repeat' split) <;> simp
@[simp] theorem collectionSlot_profile (s : State) (raw : Option RawSample) : (s.collectionSlot raw).profile = s.profile := by
  simp only [State.collectionSlot] <;> (repeat' split) <;> simp
@[simp] theorem tileSeen_profile (s : State) : (s.tileSeen).profile = s.profile := by
  simp only [State.tileSeen] <;> (repeat' split) <;> simp
@[simp] theorem tileExpired_profile (s : State) : (s.tileExpired).profile = s.profile := by
  simp only [State.tileExpired] <;> (repeat' split) <;> simp
@[simp] theorem stuckTile_profile (s : State) : (s.stuckTile).profile = s.profile := by
  simp only [State.stuckTile] <;> (repeat' split) <;> simp
@[simp] theorem toHead_profile (s : State) (h : HeadState) : (s.toHead h).profile = s.profile := by
  simp only [State.toHead] <;> (repeat' split) <;> simp
@[simp] theorem headNotice_profile (s : State) : (s.headNotice).profile = s.profile := by
  simp only [State.headNotice] <;> (repeat' split) <;> simp
@[simp] theorem grantTo_profile (s : State) (g : Grant) : (s.grantTo g).profile = s.profile := by
  simp only [State.grantTo] <;> (repeat' split) <;> simp
@[simp] theorem driveOff_profile (s : State) : (s.driveOff).profile = s.profile := by
  simp only [State.driveOff] <;> (repeat' split) <;> simp
@[simp] theorem drive_profile (s : State) (d : Bool) (n : Nat) : (s.drive d n).profile = s.profile := by
  simp only [State.drive] <;> (repeat' split) <;> simp
@[simp] theorem enterHead_profile (s : State) (h : HeadState) (g : Grant) : (s.enterHead h g).profile = s.profile := by
  simp only [State.enterHead] <;> (repeat' split) <;> simp
@[simp] theorem arrivePoint_profile (s : State) : (s.arrivePoint).profile = s.profile := by
  simp only [State.arrivePoint] <;> (repeat' split) <;> simp
@[simp] theorem stayParked_profile (s : State) (g : Grant) : (s.stayParked g).profile = s.profile := by
  simp only [State.stayParked] <;> (repeat' split) <;> simp
@[simp] theorem beginSearch_profile (s : State) : (s.beginSearch).profile = s.profile := by
  simp only [State.beginSearch] <;> (repeat' split) <;> simp
@[simp] theorem breakNotice_profile (s : State) : (s.breakNotice).profile = s.profile := by
  simp only [State.breakNotice] <;> (repeat' split) <;> simp
@[simp] theorem addCauses_profile (s : State) (t : PerDetector Bool) : (s.addCauses t).profile = s.profile := by
  simp only [State.addCauses] <;> (repeat' split) <;> simp
@[simp] theorem judgeInEntry_profile (s : State) (t c : PerDetector Bool) : (s.judgeInEntry t c).profile = s.profile := by
  simp only [State.judgeInEntry] <;> (repeat' split) <;> simp
@[simp] theorem clearLimits_profile (s : State) : (s.clearLimits).profile = s.profile := by
  simp only [State.clearLimits] <;> (repeat' split) <;> simp
@[simp] theorem recipeNotice_profile (s : State) (c : RecipeCause) : (s.recipeNotice c).profile = s.profile := by
  simp only [State.recipeNotice] <;> (repeat' split) <;> simp
@[simp] theorem completeEdges_profile (s : State) (e : Option Edges) : (s.completeEdges e).profile = s.profile := by
  simp only [State.completeEdges] <;> (repeat' split) <;> simp
@[simp] theorem closeFilling_profile (s : State) : (s.closeFilling).profile = s.profile := by
  simp only [State.closeFilling] <;> (repeat' split) <;> simp
@[simp] theorem completeStd_profile (s : State) : (s.completeStd).profile = s.profile := by
  simp only [State.completeStd] <;> (repeat' split) <;> simp
@[simp] theorem completeRecovery_profile (s : State) : (s.completeRecovery).profile = s.profile := by
  simp only [State.completeRecovery] <;> (repeat' split) <;> simp
@[simp] theorem evaluateLimits_profile (s : State) (r : ScanRecord) : (s.evaluateLimits r).profile = s.profile := by
  simp only [State.evaluateLimits] <;> (repeat' split) <;> simp
@[simp] theorem reportHoles_profile (s : State) (src : ReportSource) : (s.reportHoles src).profile = s.profile := by
  simp only [State.reportHoles] <;> (repeat' split) <;> simp
@[simp] theorem completeHoles_profile (s : State) : (s.completeHoles).profile = s.profile := by
  simp only [State.completeHoles] <;> (repeat' split) <;> simp
@[simp] theorem completeLimits_profile (s : State) : (s.completeLimits).profile = s.profile := by
  simp only [State.completeLimits] <;> (repeat' split) <;> simp
@[simp] theorem handOn_profile (s : State) (x : Sample) : (s.handOn x).profile = s.profile := by
  simp only [State.handOn] <;> (repeat' split) <;> simp
@[simp] theorem rejudgeAtSpeed_profile (s : State) : (s.rejudgeAtSpeed).profile = s.profile := by
  simp only [State.rejudgeAtSpeed] <;> (repeat' split) <;> simp
@[simp] theorem gateEnd_profile (s : State) : (s.gateEnd).profile = s.profile := by
  simp only [State.gateEnd] <;> (repeat' split) <;> simp
@[simp] theorem lossExpiry_profile (s : State) : (s.lossExpiry).profile = s.profile := by
  simp only [State.lossExpiry] <;> (repeat' split) <;> simp
@[simp] theorem levelChange_profile (s : State) (d : Detector) (h : Bool) : (s.levelChange d h).profile = s.profile := by
  simp only [State.levelChange] <;> (repeat' split) <;> simp
@[simp] theorem serveStatus_profile (s : State) (st : Station) (tag : Byte) : (s.serveStatus st tag).profile = s.profile := by
  simp only [State.serveStatus] <;> (repeat' split) <;> simp
@[simp] theorem answer_profile (s : State) (st : Station) (k : RequestKind) (tag : Byte) (c : Status) : (s.answer st k tag c).profile = s.profile := by
  simp only [State.answer] <;> (repeat' split) <;> simp
@[simp] theorem serveFound_profile (s : State) (st : Station) (tag : Byte) (q : ScanQuery) (i : Option Nat) : (s.serveFound st tag q i).profile = s.profile := by
  simp only [State.serveFound] <;> (repeat' split) <;> simp
@[simp] theorem makePending_profile (s : State) (st : Station) (tag : Byte) (q : ScanQuery) (m : BitVec 16) (wait : Nat) : (s.makePending st tag q m wait).profile = s.profile := by
  simp only [State.makePending] <;> (repeat' split) <;> simp
@[simp] theorem serveMinimum_profile (s : State) (st : Station) (tag : Byte) (q : ScanQuery) (m : BitVec 16) (wait : Nat) : (s.serveMinimum st tag q m wait).profile = s.profile := by
  simp only [State.serveMinimum] <;> (repeat' split) <;> simp
@[simp] theorem serveReadScan_profile (s : State) (st : Station) (tag : Byte) (p : List Byte) : (s.serveReadScan st tag p).profile = s.profile := by
  simp only [State.serveReadScan] <;> (repeat' split) <;> simp
@[simp] theorem serveReadTrend_profile (s : State) (st : Station) (tag : Byte) : (s.serveReadTrend st tag).profile = s.profile := by
  simp only [State.serveReadTrend] <;> (repeat' split) <;> simp
@[simp] theorem serveReadPoints_profile (s : State) (st : Station) (tag : Byte) (p : List Byte) : (s.serveReadPoints st tag p).profile = s.profile := by
  simp only [State.serveReadPoints] <;> (repeat' split) <;> simp
@[simp] theorem serveReadStandardization_profile (s : State) (st : Station) (tag : Byte) : (s.serveReadStandardization st tag).profile = s.profile := by
  simp only [State.serveReadStandardization] <;> (repeat' split) <;> simp
@[simp] theorem serveCancel_profile (s : State) (st : Station) (tag : Byte) : (s.serveCancel st tag).profile = s.profile := by
  simp only [State.serveCancel] <;> (repeat' split) <;> simp
@[simp] theorem setSlot_profile (s : State) (st : Station) (m : ModeSlot) : (s.setSlot st m).profile = s.profile := by
  simp only [State.setSlot] <;> (repeat' split) <;> simp
@[simp] theorem modeReply_profile (s : State) (st : Station) (tag : Byte) (c : Status) : (s.modeReply st tag c).profile = s.profile := by
  simp only [State.modeReply] <;> (repeat' split) <;> simp
@[simp] theorem takeCountReply_profile (s : State) (st : Station) (tag : Byte) (m : HoleMode) : (s.takeCountReply st tag m).profile = s.profile := by
  simp only [State.takeCountReply] <;> (repeat' split) <;> simp
@[simp] theorem serveTakeCount_profile (s : State) (st : Station) (tag : Byte) : (s.serveTakeCount st tag).profile = s.profile := by
  simp only [State.serveTakeCount] <;> (repeat' split) <;> simp
@[simp] theorem writeRecipe_profile (s : State) (st : Station) (tag : Byte) (p : List Byte) (i : SlotNo) (g : Group) : (s.writeRecipe st tag p i g).profile = s.profile := by
  simp only [State.writeRecipe] <;> (repeat' split) <;> simp
@[simp] theorem serveRecipeWrite_profile (s : State) (st : Station) (tag : Byte) (p : List Byte) : (s.serveRecipeWrite st tag p).profile = s.profile := by
  simp only [State.serveRecipeWrite] <;> (repeat' split) <;> simp
@[simp] theorem serveRecipeRead_profile (s : State) (st : Station) (tag : Byte) (p : List Byte) : (s.serveRecipeRead st tag p).profile = s.profile := by
  simp only [State.serveRecipeRead] <;> (repeat' split) <;> simp
@[simp] theorem validateSlot_profile (s : State) (st : Station) (tag : Byte) (i : SlotNo) : (s.validateSlot st tag i).profile = s.profile := by
  simp only [State.validateSlot] <;> (repeat' split) <;> simp
@[simp] theorem serveValidate_profile (s : State) (st : Station) (tag : Byte) (p : List Byte) : (s.serveValidate st tag p).profile = s.profile := by
  simp only [State.serveValidate] <;> (repeat' split) <;> simp
@[simp] theorem selectReply_profile (s : State) (st : Station) (tag : Byte) (t : Timing) : (s.selectReply st tag t).profile = s.profile := by
  simp only [State.selectReply] <;> (repeat' split) <;> simp
@[simp] theorem handMachine_profile (s : State) (old : MachineRecord) : (s.handMachine old).profile = s.profile := by
  simp only [State.handMachine] <;> (repeat' split) <;> simp
@[simp] theorem machineReply_profile (s : State) (st : Station) (k : RequestKind) (tag : Byte) (c : Status) : (s.machineReply st k tag c).profile = s.profile := by
  simp only [State.machineReply] <;> (repeat' split) <;> simp
@[simp] theorem acceptMachine_profile (s : State) (st : Station) (tag : Byte) (c : Status) (m : MachineRecord) : (s.acceptMachine st tag c m).profile = s.profile := by
  simp only [State.acceptMachine] <;> (repeat' split) <;> simp
@[simp] theorem judgeMachine_profile (s : State) (st : Station) (tag : Byte) (m : MachineRecord) : (s.judgeMachine st tag m).profile = s.profile := by
  simp only [State.judgeMachine] <;> (repeat' split) <;> simp
@[simp] theorem serveMachineWrite_profile (s : State) (st : Station) (tag : Byte) (p : List Byte) : (s.serveMachineWrite st tag p).profile = s.profile := by
  simp only [State.serveMachineWrite] <;> (repeat' split) <;> simp
@[simp] theorem serveMachineRead_profile (s : State) (st : Station) (tag : Byte) : (s.serveMachineRead st tag).profile = s.profile := by
  simp only [State.serveMachineRead] <;> (repeat' split) <;> simp
@[simp] theorem serveSubscribe_profile (s : State) (st : Station) (tag : Byte) (p : List Byte) : (s.serveSubscribe st tag p).profile = s.profile := by
  simp only [State.serveSubscribe] <;> (repeat' split) <;> simp
@[simp] theorem answerUnknown_profile (s : State) (st : Station) (tag : Byte) : (s.answerUnknown st tag).profile = s.profile := by
  simp only [State.answerUnknown] <;> (repeat' split) <;> simp
@[simp] theorem transmitted_profile (s : State) (st : Station) : (s.transmitted st).profile = s.profile := by
  simp only [State.transmitted] <;> (repeat' split) <;> simp

/-! ### What leaves the hole detector alone -/

@[simp] theorem onPort_hole (s : State) (st : Station) (f : Port → Port) : (s.onPort st f).hole = s.hole := by
  simp only [State.onPort] <;> (repeat' split) <;> simp
@[simp] theorem startBit_hole (s : State) (st : Station) : (s.startBit st).hole = s.hole := by
  simp only [State.startBit] <;> (repeat' split) <;> simp
@[simp] theorem onPorts_hole (s : State) (f : Port → Port) : (s.onPorts f).hole = s.hole := by
  simp only [State.onPorts] <;> (repeat' split) <;> simp
@[simp] theorem reply_hole (s : State) (st : Station) (k : RequestKind) (tag : Byte) (b : ReplyBody) : (s.reply st k tag b).hole = s.hole := by
  simp only [State.reply] <;> (repeat' split) <;> simp
@[simp] theorem offer_hole (s : State) (n : Notice) : (s.offer n).hole = s.hole := by
  simp only [State.offer] <;> (repeat' split) <;> simp
@[simp] theorem settle_hole (s : State) : (s.settle).hole = s.hole := by
  simp only [State.settle] <;> (repeat' split) <;> simp
@[simp] theorem serveScan_hole (s : State) (st : Station) (tag : Byte) (q : ScanQuery) (i : Nat) : (s.serveScan st tag q i).hole = s.hole := by
  simp only [State.serveScan] <;> (repeat' split) <;> simp
@[simp] theorem endPending_hole (s : State) (st : Station) (b : ReplyBody) : (s.endPending st b).hole = s.hole := by
  simp only [State.endPending] <;> (repeat' split) <;> simp
@[simp] theorem endPendingByBreak_hole (s : State) : (s.endPendingByBreak).hole = s.hole := by
  simp only [State.endPendingByBreak] <;> (repeat' split) <;> simp
@[simp] theorem servePending_hole (s : State) (i : Nat) (st : Station) : (s.servePending i st).hole = s.hole := by
  simp only [State.servePending] <;> (repeat' split) <;> simp
@[simp] theorem serveAllPending_hole (s : State) (i : Nat) : (s.serveAllPending i).hole = s.hole := by
  simp only [State.serveAllPending] <;> (repeat' split) <;> simp
@[simp] theorem absentTake_hole (s : State) (x : Sample) : (s.absentTake x).hole = s.hole := by
  simp only [State.absentTake] <;> (repeat' split) <;> simp
@[simp] theorem absentNextWindow_hole (s : State) : (s.absentNextWindow).hole = s.hole := by
  simp only [State.absentNextWindow] <;> (repeat' split) <;> simp
@[simp] theorem edgeTake_hole (s : State) (x : Sample) : (s.edgeTake x).hole = s.hole := by
  simp only [State.edgeTake] <;> (repeat' split) <;> simp
@[simp] theorem binTake_hole (s : State) (x : Sample) : (s.binTake x).hole = s.hole := by
  simp only [State.binTake] <;> (repeat' split) <;> simp
@[simp] theorem clearContinuity_hole (s : State) : (s.clearContinuity).hole = s.hole := by
  simp only [State.clearContinuity] <;> (repeat' split) <;> simp
@[simp] theorem adopt_hole (s : State) : (s.adopt).hole = s.hole := by
  simp only [State.adopt] <;> (repeat' split) <;> simp
@[simp] theorem dropPendingSet_hole (s : State) : (s.dropPendingSet).hole = s.hole := by
  simp only [State.dropPendingSet] <;> (repeat' split) <;> simp
@[simp] theorem startRecord_hole (s : State) (dir : ScanDir) : (s.startRecord dir).hole = s.hole := by
  simp only [State.startRecord] <;> (repeat' split) <;> simp
@[simp] theorem voidRecord_hole (s : State) : (s.voidRecord).hole = s.hole := by
  simp only [State.voidRecord] <;> (repeat' split) <;> simp
@[simp] theorem markLinkGaps_hole (s : State) : (s.markLinkGaps).hole = s.hole := by
  simp only [State.markLinkGaps] <;> (repeat' split) <;> simp
@[simp] theorem markTachHeld_hole (s : State) : (s.markTachHeld).hole = s.hole := by
  simp only [State.markTachHeld] <;> (repeat' split) <;> simp
@[simp] theorem closeAt_hole (s : State) (i : Nat) : (s.closeAt i).hole = s.hole := by
  simp only [State.closeAt] <;> (repeat' split) <;> simp
@[simp] theorem startPeriod_hole (s : State) : (s.startPeriod).hole = s.hole := by
  simp only [State.startPeriod] <;> (repeat' split) <;> simp
@[simp] theorem dropPeriod_hole (s : State) : (s.dropPeriod).hole = s.hole := by
  simp only [State.dropPeriod] <;> (repeat' split) <;> simp
@[simp] theorem periodSlot_hole (s : State) : (s.periodSlot).hole = s.hole := by
  simp only [State.periodSlot] <;> (repeat' split) <;> simp
@[simp] theorem pointTake_hole (s : State) (x : Sample) : (s.pointTake x).hole = s.hole := by
  simp only [State.pointTake] <;> (repeat' split) <;> simp
@[simp] theorem recordPeriod_hole (s : State) (p : PointPeriod) : (s.recordPeriod p).hole = s.hole := by
  simp only [State.recordPeriod] <;> (repeat' split) <;> simp
@[simp] theorem raise_hole (s : State) (c : HeadCommand) : (s.raise c).hole = s.hole := by
  simp only [State.raise] <;> (repeat' split) <;> simp
@[simp] theorem consumeStd_hole (s : State) : (s.consumeStd).hole = s.hole := by
  simp only [State.consumeStd] <;> (repeat' split) <;> simp
@[simp] theorem stdNotice_hole (s : State) : (s.stdNotice).hole = s.hole := by
  simp only [State.stdNotice] <;> (repeat' split) <;> simp
@[simp] theorem stdCommit_hole (s : State) : (s.stdCommit).hole = s.hole := by
  simp only [State.stdCommit] <;> (repeat' split) <;> simp
@[simp] theorem stdFail_hole (s : State) : (s.stdFail).hole = s.hole := by
  simp only [State.stdFail] <;> (repeat' split) <;> simp
@[simp] theorem stdNoRecord_hole (s : State) : (s.stdNoRecord).hole = s.hole := by
  simp only [State.stdNoRecord] <;> (repeat' split) <;> simp
@[simp] theorem abortRefOut_hole (s : State) : (s.abortRefOut).hole = s.hole := by
  simp only [State.abortRefOut] <;> (repeat' split) <;> simp
@[simp] theorem stdAbort_hole (s : State) : (s.stdAbort).hole = s.hole := by
  simp only [State.stdAbort] <;> (repeat' split) <;> simp
@[simp] theorem enterReference_hole (s : State) : (s.enterReference).hole = s.hole := by
  simp only [State.enterReference] <;> (repeat' split) <;> simp
@[simp] theorem enterWithdraw_hole (s : State) : (s.enterWithdraw).hole = s.hole := by
  simp only [State.enterWithdraw] <;> (repeat' split) <;> simp
@[simp] theorem zeroEnd_hole (s : State) : (s.zeroEnd).hole = s.hole := by
  simp only [State.zeroEnd] <;> (repeat' split) <;> simp
@[simp] theorem referenceEnd_hole (s : State) : (s.referenceEnd).hole = s.hole := by
  simp only [State.referenceEnd] <;> (repeat' split) <;> simp
@[simp] theorem collectionSlot_hole (s : State) (raw : Option RawSample) : (s.collectionSlot raw).hole = s.hole := by
  simp only [State.collectionSlot] <;> (repeat' split) <;> simp
@[simp] theorem tileSeen_hole (s : State) : (s.tileSeen).hole = s.hole := by
  simp only [State.tileSeen] <;> (repeat' split) <;> simp
@[simp] theorem tileExpired_hole (s : State) : (s.tileExpired).hole = s.hole := by
  simp only [State.tileExpired] <;> (repeat' split) <;> simp
@[simp] theorem stuckTile_hole (s : State) : (s.stuckTile).hole = s.hole := by
  simp only [State.stuckTile] <;> (repeat' split) <;> simp
@[simp] theorem headNotice_hole (s : State) : (s.headNotice).hole = s.hole := by
  simp only [State.headNotice] <;> (repeat' split) <;> simp
@[simp] theorem grantTo_hole (s : State) (g : Grant) : (s.grantTo g).hole = s.hole := by
  simp only [State.grantTo] <;> (repeat' split) <;> simp
@[simp] theorem driveOff_hole (s : State) : (s.driveOff).hole = s.hole := by
  simp only [State.driveOff] <;> (repeat' split) <;> simp
@[simp] theorem drive_hole (s : State) (d : Bool) (n : Nat) : (s.drive d n).hole = s.hole := by
  simp only [State.drive] <;> (repeat' split) <;> simp
@[simp] theorem beginSearch_hole (s : State) : (s.beginSearch).hole = s.hole := by
  simp only [State.beginSearch] <;> (repeat' split) <;> simp
@[simp] theorem breakNotice_hole (s : State) : (s.breakNotice).hole = s.hole := by
  simp only [State.breakNotice] <;> (repeat' split) <;> simp
@[simp] theorem addCauses_hole (s : State) (t : PerDetector Bool) : (s.addCauses t).hole = s.hole := by
  simp only [State.addCauses] <;> (repeat' split) <;> simp
@[simp] theorem judgeInEntry_hole (s : State) (t c : PerDetector Bool) : (s.judgeInEntry t c).hole = s.hole := by
  simp only [State.judgeInEntry] <;> (repeat' split) <;> simp
@[simp] theorem clearLimits_hole (s : State) : (s.clearLimits).hole = s.hole := by
  simp only [State.clearLimits] <;> (repeat' split) <;> simp
@[simp] theorem recipeNotice_hole (s : State) (c : RecipeCause) : (s.recipeNotice c).hole = s.hole := by
  simp only [State.recipeNotice] <;> (repeat' split) <;> simp
@[simp] theorem closeFilling_hole (s : State) : (s.closeFilling).hole = s.hole := by
  simp only [State.closeFilling] <;> (repeat' split) <;> simp
@[simp] theorem completeStd_hole (s : State) : (s.completeStd).hole = s.hole := by
  simp only [State.completeStd] <;> (repeat' split) <;> simp
@[simp] theorem completeRecovery_hole (s : State) : (s.completeRecovery).hole = s.hole := by
  simp only [State.completeRecovery] <;> (repeat' split) <;> simp
@[simp] theorem evaluateLimits_hole (s : State) (r : ScanRecord) : (s.evaluateLimits r).hole = s.hole := by
  simp only [State.evaluateLimits] <;> (repeat' split) <;> simp
@[simp] theorem completeLimits_hole (s : State) : (s.completeLimits).hole = s.hole := by
  simp only [State.completeLimits] <;> (repeat' split) <;> simp
@[simp] theorem lossExpiry_hole (s : State) : (s.lossExpiry).hole = s.hole := by
  simp only [State.lossExpiry] <;> (repeat' split) <;> simp
@[simp] theorem levelChange_hole (s : State) (d : Detector) (h : Bool) : (s.levelChange d h).hole = s.hole := by
  simp only [State.levelChange] <;> (repeat' split) <;> simp
@[simp] theorem serveStatus_hole (s : State) (st : Station) (tag : Byte) : (s.serveStatus st tag).hole = s.hole := by
  simp only [State.serveStatus] <;> (repeat' split) <;> simp
@[simp] theorem answer_hole (s : State) (st : Station) (k : RequestKind) (tag : Byte) (c : Status) : (s.answer st k tag c).hole = s.hole := by
  simp only [State.answer] <;> (repeat' split) <;> simp
@[simp] theorem serveFound_hole (s : State) (st : Station) (tag : Byte) (q : ScanQuery) (i : Option Nat) : (s.serveFound st tag q i).hole = s.hole := by
  simp only [State.serveFound] <;> (repeat' split) <;> simp
@[simp] theorem makePending_hole (s : State) (st : Station) (tag : Byte) (q : ScanQuery) (m : BitVec 16) (wait : Nat) : (s.makePending st tag q m wait).hole = s.hole := by
  simp only [State.makePending] <;> (repeat' split) <;> simp
@[simp] theorem serveMinimum_hole (s : State) (st : Station) (tag : Byte) (q : ScanQuery) (m : BitVec 16) (wait : Nat) : (s.serveMinimum st tag q m wait).hole = s.hole := by
  simp only [State.serveMinimum] <;> (repeat' split) <;> simp
@[simp] theorem serveReadScan_hole (s : State) (st : Station) (tag : Byte) (p : List Byte) : (s.serveReadScan st tag p).hole = s.hole := by
  simp only [State.serveReadScan] <;> (repeat' split) <;> simp
@[simp] theorem serveReadTrend_hole (s : State) (st : Station) (tag : Byte) : (s.serveReadTrend st tag).hole = s.hole := by
  simp only [State.serveReadTrend] <;> (repeat' split) <;> simp
@[simp] theorem serveReadPoints_hole (s : State) (st : Station) (tag : Byte) (p : List Byte) : (s.serveReadPoints st tag p).hole = s.hole := by
  simp only [State.serveReadPoints] <;> (repeat' split) <;> simp
@[simp] theorem serveReadStandardization_hole (s : State) (st : Station) (tag : Byte) : (s.serveReadStandardization st tag).hole = s.hole := by
  simp only [State.serveReadStandardization] <;> (repeat' split) <;> simp
@[simp] theorem serveCancel_hole (s : State) (st : Station) (tag : Byte) : (s.serveCancel st tag).hole = s.hole := by
  simp only [State.serveCancel] <;> (repeat' split) <;> simp
@[simp] theorem setSlot_hole (s : State) (st : Station) (m : ModeSlot) : (s.setSlot st m).hole = s.hole := by
  simp only [State.setSlot] <;> (repeat' split) <;> simp
@[simp] theorem modeReply_hole (s : State) (st : Station) (tag : Byte) (c : Status) : (s.modeReply st tag c).hole = s.hole := by
  simp only [State.modeReply] <;> (repeat' split) <;> simp
@[simp] theorem takeCountReply_hole (s : State) (st : Station) (tag : Byte) (m : HoleMode) : (s.takeCountReply st tag m).hole = s.hole := by
  simp only [State.takeCountReply] <;> (repeat' split) <;> simp
@[simp] theorem writeRecipe_hole (s : State) (st : Station) (tag : Byte) (p : List Byte) (i : SlotNo) (g : Group) : (s.writeRecipe st tag p i g).hole = s.hole := by
  simp only [State.writeRecipe] <;> (repeat' split) <;> simp
@[simp] theorem serveRecipeWrite_hole (s : State) (st : Station) (tag : Byte) (p : List Byte) : (s.serveRecipeWrite st tag p).hole = s.hole := by
  simp only [State.serveRecipeWrite] <;> (repeat' split) <;> simp
@[simp] theorem serveRecipeRead_hole (s : State) (st : Station) (tag : Byte) (p : List Byte) : (s.serveRecipeRead st tag p).hole = s.hole := by
  simp only [State.serveRecipeRead] <;> (repeat' split) <;> simp
@[simp] theorem validateSlot_hole (s : State) (st : Station) (tag : Byte) (i : SlotNo) : (s.validateSlot st tag i).hole = s.hole := by
  simp only [State.validateSlot] <;> (repeat' split) <;> simp
@[simp] theorem serveValidate_hole (s : State) (st : Station) (tag : Byte) (p : List Byte) : (s.serveValidate st tag p).hole = s.hole := by
  simp only [State.serveValidate] <;> (repeat' split) <;> simp
@[simp] theorem selectReply_hole (s : State) (st : Station) (tag : Byte) (t : Timing) : (s.selectReply st tag t).hole = s.hole := by
  simp only [State.selectReply] <;> (repeat' split) <;> simp
@[simp] theorem machineReply_hole (s : State) (st : Station) (k : RequestKind) (tag : Byte) (c : Status) : (s.machineReply st k tag c).hole = s.hole := by
  simp only [State.machineReply] <;> (repeat' split) <;> simp
@[simp] theorem serveMachineRead_hole (s : State) (st : Station) (tag : Byte) : (s.serveMachineRead st tag).hole = s.hole := by
  simp only [State.serveMachineRead] <;> (repeat' split) <;> simp
@[simp] theorem serveSubscribe_hole (s : State) (st : Station) (tag : Byte) (p : List Byte) : (s.serveSubscribe st tag p).hole = s.hole := by
  simp only [State.serveSubscribe] <;> (repeat' split) <;> simp
@[simp] theorem answerUnknown_hole (s : State) (st : Station) (tag : Byte) : (s.answerUnknown st tag).hole = s.hole := by
  simp only [State.answerUnknown] <;> (repeat' split) <;> simp
@[simp] theorem transmitted_hole (s : State) (st : Station) : (s.transmitted st).hole = s.hole := by
  simp only [State.transmitted] <;> (repeat' split) <;> simp

/-! ### What leaves the station ports alone -/

@[simp] theorem endStretch_ports (s : State) : (s.endStretch).ports = s.ports := by
  simp only [State.endStretch] <;> (repeat' split) <;> simp
@[simp] theorem stopAssessment_ports (s : State) : (s.stopAssessment).ports = s.ports := by
  simp only [State.stopAssessment] <;> (repeat' split) <;> simp
@[simp] theorem absentTake_ports (s : State) (x : Sample) : (s.absentTake x).ports = s.ports := by
  simp only [State.absentTake] <;> (repeat' split) <;> simp
@[simp] theorem absentNextWindow_ports (s : State) : (s.absentNextWindow).ports = s.ports := by
  simp only [State.absentNextWindow] <;> (repeat' split) <;> simp
@[simp] theorem holeTake_ports (s : State) (x : Sample) : (s.holeTake x).ports = s.ports := by
  simp only [State.holeTake] <;> (repeat' split) <;> simp
@[simp] theorem holeTransfer_ports (s : State) (src : ReportSource) : (s.holeTransfer src).ports = s.ports := by
  simp only [State.holeTransfer] <;> (repeat' split) <;> simp
@[simp] theorem updateEdges_ports (s : State) (e : EdgeTracker) : (s.updateEdges e).ports = s.ports := by
  simp only [State.updateEdges] <;> (repeat' split) <;> simp
@[simp] theorem edgeTake_ports (s : State) (x : Sample) : (s.edgeTake x).ports = s.ports := by
  simp only [State.edgeTake] <;> (repeat' split) <;> simp
@[simp] theorem binTake_ports (s : State) (x : Sample) : (s.binTake x).ports = s.ports := by
  simp only [State.binTake] <;> (repeat' split) <;> simp
@[simp] theorem profileRestart_ports (s : State) : (s.profileRestart).ports = s.ports := by
  simp only [State.profileRestart] <;> (repeat' split) <;> simp
@[simp] theorem clearContinuity_ports (s : State) : (s.clearContinuity).ports = s.ports := by
  simp only [State.clearContinuity] <;> (repeat' split) <;> simp
@[simp] theorem deferredAtAbort_ports (s : State) : (s.deferredAtAbort).ports = s.ports := by
  simp only [State.deferredAtAbort] <;> (repeat' split) <;> simp
@[simp] theorem profileActivation_ports (s : State) (l : Layout) : (s.profileActivation l).ports = s.ports := by
  simp only [State.profileActivation] <;> (repeat' split) <;> simp
@[simp] theorem adopt_ports (s : State) : (s.adopt).ports = s.ports := by
  simp only [State.adopt] <;> (repeat' split) <;> simp
@[simp] theorem dropPendingSet_ports (s : State) : (s.dropPendingSet).ports = s.ports := by
  simp only [State.dropPendingSet] <;> (repeat' split) <;> simp
@[simp] theorem startRecord_ports (s : State) (dir : ScanDir) : (s.startRecord dir).ports = s.ports := by
  simp only [State.startRecord] <;> (repeat' split) <;> simp
@[simp] theorem voidRecord_ports (s : State) : (s.voidRecord).ports = s.ports := by
  simp only [State.voidRecord] <;> (repeat' split) <;> simp
@[simp] theorem markLinkGaps_ports (s : State) : (s.markLinkGaps).ports = s.ports := by
  simp only [State.markLinkGaps] <;> (repeat' split) <;> simp
@[simp] theorem markTachHeld_ports (s : State) : (s.markTachHeld).ports = s.ports := by
  simp only [State.markTachHeld] <;> (repeat' split) <;> simp
@[simp] theorem startPeriod_ports (s : State) : (s.startPeriod).ports = s.ports := by
  simp only [State.startPeriod] <;> (repeat' split) <;> simp
@[simp] theorem dropPeriod_ports (s : State) : (s.dropPeriod).ports = s.ports := by
  simp only [State.dropPeriod] <;> (repeat' split) <;> simp
@[simp] theorem periodSlot_ports (s : State) : (s.periodSlot).ports = s.ports := by
  simp only [State.periodSlot] <;> (repeat' split) <;> simp
@[simp] theorem pointTake_ports (s : State) (x : Sample) : (s.pointTake x).ports = s.ports := by
  simp only [State.pointTake] <;> (repeat' split) <;> simp
@[simp] theorem recordPeriod_ports (s : State) (p : PointPeriod) : (s.recordPeriod p).ports = s.ports := by
  simp only [State.recordPeriod] <;> (repeat' split) <;> simp
@[simp] theorem raise_ports (s : State) (c : HeadCommand) : (s.raise c).ports = s.ports := by
  simp only [State.raise] <;> (repeat' split) <;> simp
@[simp] theorem consumeStd_ports (s : State) : (s.consumeStd).ports = s.ports := by
  simp only [State.consumeStd] <;> (repeat' split) <;> simp
@[simp] theorem abortRefOut_ports (s : State) : (s.abortRefOut).ports = s.ports := by
  simp only [State.abortRefOut] <;> (repeat' split) <;> simp
@[simp] theorem enterReference_ports (s : State) : (s.enterReference).ports = s.ports := by
  simp only [State.enterReference] <;> (repeat' split) <;> simp
@[simp] theorem enterWithdraw_ports (s : State) : (s.enterWithdraw).ports = s.ports := by
  simp only [State.enterWithdraw] <;> (repeat' split) <;> simp
@[simp] theorem zeroEnd_ports (s : State) : (s.zeroEnd).ports = s.ports := by
  simp only [State.zeroEnd] <;> (repeat' split) <;> simp
@[simp] theorem referenceEnd_ports (s : State) : (s.referenceEnd).ports = s.ports := by
  simp only [State.referenceEnd] <;> (repeat' split) <;> simp
@[simp] theorem collectionSlot_ports (s : State) (raw : Option RawSample) : (s.collectionSlot raw).ports = s.ports := by
  simp only [State.collectionSlot] <;> (repeat' split) <;> simp
@[simp] theorem tileSeen_ports (s : State) : (s.tileSeen).ports = s.ports := by
  simp only [State.tileSeen] <;> (repeat' split) <;> simp
@[simp] theorem tileExpired_ports (s : State) : (s.tileExpired).ports = s.ports := by
  simp only [State.tileExpired] <;> (repeat' split) <;> simp
@[simp] theorem toHead_ports (s : State) (h : HeadState) : (s.toHead h).ports = s.ports := by
  simp only [State.toHead] <;> (repeat' split) <;> simp
@[simp] theorem grantTo_ports (s : State) (g : Grant) : (s.grantTo g).ports = s.ports := by
  simp only [State.grantTo] <;> (repeat' split) <;> simp
@[simp] theorem driveOff_ports (s : State) : (s.driveOff).ports = s.ports := by
  simp only [State.driveOff] <;> (repeat' split) <;> simp
@[simp] theorem drive_ports (s : State) (d : Bool) (n : Nat) : (s.drive d n).ports = s.ports := by
  simp only [State.drive] <;> (repeat' split) <;> simp
@[simp] theorem startScan_ports (s : State) (dir : ScanDir) (a : Bool) : (s.startScan dir a).ports = s.ports := by
  simp only [State.startScan] <;> (repeat' split) <;> simp
@[simp] theorem arriveApproach_ports (s : State) : (s.arriveApproach).ports = s.ports := by
  simp only [State.arriveApproach] <;> (repeat' split) <;> simp
@[simp] theorem beginSearch_ports (s : State) : (s.beginSearch).ports = s.ports := by
  simp only [State.beginSearch] <;> (repeat' split) <;> simp
@[simp] theorem scanAbortWith_ports (act : State → State) (h : ∀ s, (act s).ports = s.ports) (s : State) : (s.scanAbortWith act).ports = s.ports := by
  simp only [State.scanAbortWith] <;> (repeat' split) <;> simp [h]
@[simp] theorem reaim_ports (s : State) : (s.reaim).ports = s.ports := by
  simp only [State.reaim] <;> (repeat' split) <;> simp
@[simp] theorem completeEdges_ports (s : State) (e : Option Edges) : (s.completeEdges e).ports = s.ports := by
  simp only [State.completeEdges] <;> (repeat' split) <;> simp
@[simp] theorem completeStd_ports (s : State) : (s.completeStd).ports = s.ports := by
  simp only [State.completeStd] <;> (repeat' split) <;> simp
@[simp] theorem handOn_ports (s : State) (x : Sample) : (s.handOn x).ports = s.ports := by
  simp only [State.handOn] <;> (repeat' split) <;> simp
@[simp] theorem rejudgeAtSpeed_ports (s : State) : (s.rejudgeAtSpeed).ports = s.ports := by
  simp only [State.rejudgeAtSpeed] <;> (repeat' split) <;> simp
@[simp] theorem gateEnd_ports (s : State) : (s.gateEnd).ports = s.ports := by
  simp only [State.gateEnd] <;> (repeat' split) <;> simp
@[simp] theorem lossExpiry_ports (s : State) : (s.lossExpiry).ports = s.ports := by
  simp only [State.lossExpiry] <;> (repeat' split) <;> simp
@[simp] theorem levelChange_ports (s : State) (d : Detector) (h : Bool) : (s.levelChange d h).ports = s.ports := by
  simp only [State.levelChange] <;> (repeat' split) <;> simp
@[simp] theorem setSlot_ports (s : State) (st : Station) (m : ModeSlot) : (s.setSlot st m).ports = s.ports := by
  simp only [State.setSlot] <;> (repeat' split) <;> simp
@[simp] theorem handMachine_ports (s : State) (old : MachineRecord) : (s.handMachine old).ports = s.ports := by
  simp only [State.handMachine] <;> (repeat' split) <;> simp

/-! ### What leaves the position alone -/

@[simp] theorem consumeStd_head_position (s : State) : (s.consumeStd).head.position = s.head.position := by
  simp only [State.consumeStd] <;> (repeat' split) <;> simp
@[simp] theorem stdCommit_head_position (s : State) : (s.stdCommit).head.position = s.head.position := by
  simp only [State.stdCommit] <;> (repeat' split) <;> simp
@[simp] theorem stdFail_head_position (s : State) : (s.stdFail).head.position = s.head.position := by
  simp only [State.stdFail] <;> (repeat' split) <;> simp
@[simp] theorem stdNoRecord_head_position (s : State) : (s.stdNoRecord).head.position = s.head.position := by
  simp only [State.stdNoRecord] <;> (repeat' split) <;> simp
@[simp] theorem stuckTile_head_position (s : State) : (s.stuckTile).head.position = s.head.position := by
  simp only [State.stuckTile] <;> (repeat' split) <;> simp
@[simp] theorem toHead_head_position (s : State) (h : HeadState) : (s.toHead h).head.position = s.head.position := by
  simp only [State.toHead] <;> (repeat' split) <;> simp
@[simp] theorem grantTo_head_position (s : State) (g : Grant) : (s.grantTo g).head.position = s.head.position := by
  simp only [State.grantTo] <;> (repeat' split) <;> simp
@[simp] theorem driveOff_head_position (s : State) : (s.driveOff).head.position = s.head.position := by
  simp only [State.driveOff] <;> (repeat' split) <;> simp
@[simp] theorem drive_head_position (s : State) (d : Bool) (n : Nat) : (s.drive d n).head.position = s.head.position := by
  simp only [State.drive] <;> (repeat' split) <;> simp
@[simp] theorem startScan_head_position (s : State) (dir : ScanDir) (a : Bool) : (s.startScan dir a).head.position = s.head.position := by
  simp only [State.startScan] <;> (repeat' split) <;> simp
@[simp] theorem enterHead_head_position (s : State) (h : HeadState) (g : Grant) : (s.enterHead h g).head.position = s.head.position := by
  simp only [State.enterHead] <;> (repeat' split) <;> simp
@[simp] theorem arriveApproach_head_position (s : State) : (s.arriveApproach).head.position = s.head.position := by
  simp only [State.arriveApproach] <;> (repeat' split) <;> simp
@[simp] theorem arrivePoint_head_position (s : State) : (s.arrivePoint).head.position = s.head.position := by
  simp only [State.arrivePoint] <;> (repeat' split) <;> simp
@[simp] theorem faultStill_head_position (s : State) (c : FaultCause) : (s.faultStill c).head.position = s.head.position := by
  simp only [State.faultEntryWith, State.scanAbortWith, State.faultStill] <;> (repeat' split) <;> simp
@[simp] theorem beginApproach_head_position (s : State) (g : Grant) : (s.beginApproach g).head.position = s.head.position := by
  simp only [State.beginApproach] <;> (repeat' split) <;> simp
@[simp] theorem beginPositioning_head_position (s : State) (st : Station) (p : Nat) : (s.beginPositioning st p).head.position = s.head.position := by
  simp only [State.beginPositioning] <;> (repeat' split) <;> simp
@[simp] theorem stayParked_head_position (s : State) (g : Grant) : (s.stayParked g).head.position = s.head.position := by
  simp only [State.stayParked] <;> (repeat' split) <;> simp
@[simp] theorem decideParkedOther_head_position (s : State) (g : Grant) : (s.decideParkedOther g).head.position = s.head.position := by
  simp only [State.decideParkedOther] <;> (repeat' split) <;> simp
@[simp] theorem startStd_head_position (s : State) : (s.startStd).head.position = s.head.position := by
  simp only [State.startStd] <;> (repeat' split) <;> simp
@[simp] theorem decideParked_head_position (s : State) : (s.decideParked).head.position = s.head.position := by
  simp only [State.decideParked] <;> (repeat' split) <;> simp
@[simp] theorem redecideIfParked_head_position (s : State) : (s.redecideIfParked).head.position = s.head.position := by
  simp only [State.redecideIfParked] <;> (repeat' split) <;> simp
@[simp] theorem stdEnded_head_position (s : State) : (s.stdEnded).head.position = s.head.position := by
  simp only [State.stdEnded] <;> (repeat' split) <;> simp
@[simp] theorem arriveParked_head_position (s : State) : (s.arriveParked).head.position = s.head.position := by
  simp only [State.arriveParked] <;> (repeat' split) <;> simp
@[simp] theorem beginReturning_head_position (s : State) (g : Grant) : (s.beginReturning g).head.position = s.head.position := by
  simp only [State.beginReturning] <;> (repeat' split) <;> simp
@[simp] theorem stdAtCompletion_head_position (s : State) (dir : ScanDir) (a : Bool) : (s.stdAtCompletion dir a).head.position = s.head.position := by
  simp only [State.stdAtCompletion] <;> (repeat' split) <;> simp
@[simp] theorem scanAtCompletion_head_position (s : State) (dir : ScanDir) (a : Bool) : (s.scanAtCompletion dir a).head.position = s.head.position := by
  simp only [State.scanAtCompletion] <;> (repeat' split) <;> simp
@[simp] theorem decideCompletion_head_position (s : State) (dir : ScanDir) (a : Bool) : (s.decideCompletion dir a).head.position = s.head.position := by
  simp only [State.decideCompletion] <;> (repeat' split) <;> simp
@[simp] theorem decidePeriodEnd_head_position (s : State) : (s.decidePeriodEnd).head.position = s.head.position := by
  simp only [State.decidePeriodEnd] <;> (repeat' split) <;> simp
@[simp] theorem beginSearch_head_position (s : State) : (s.beginSearch).head.position = s.head.position := by
  simp only [State.beginSearch] <;> (repeat' split) <;> simp
@[simp] theorem homingBegun_head_position (s : State) : (s.homingBegun).head.position = s.head.position := by
  simp only [State.homingBegun] <;> (repeat' split) <;> simp
@[simp] theorem enterHoming_head_position (s : State) : (s.enterHoming).head.position = s.head.position := by
  simp only [State.enterHoming] <;> (repeat' split) <;> simp
@[simp] theorem scanAbortWith_head_position (act : State → State) (h : ∀ s, (act s).head.position = s.head.position) (s : State) : (s.scanAbortWith act).head.position = s.head.position := by
  simp only [State.scanAbortWith] <;> (repeat' split) <;> simp [h]
@[simp] theorem faultEntryWith_head_position (act : State → State) (c : FaultCause) (h : ∀ s, (act s).head.position = s.head.position) (s : State) : (s.faultEntryWith act c).head.position = s.head.position := by
  simp only [State.faultEntryWith] <;> (repeat' split) <;> simp [h]
@[simp] theorem claimTakesEffectWith_head_position (act : State → State) (h : ∀ s, (act s).head.position = s.head.position) (s : State) : (s.claimTakesEffectWith act).head.position = s.head.position := by
  simp only [State.claimTakesEffectWith] <;> (repeat' split) <;> simp [h]
@[simp] theorem recoveringEntry_head_position (s : State) : (s.recoveringEntry).head.position = s.head.position := by
  simp only [State.recoveringEntry] <;> (repeat' split) <;> simp
@[simp] theorem threadingExpiry_head_position (s : State) : (s.threadingExpiry).head.position = s.head.position := by
  simp only [State.threadingExpiry] <;> (repeat' split) <;> simp
@[simp] theorem threadingEntry_head_position (s : State) : (s.threadingEntry).head.position = s.head.position := by
  simp only [State.threadingEntry] <;> (repeat' split) <;> simp
@[simp] theorem judgeThreading_head_position (s : State) : (s.judgeThreading).head.position = s.head.position := by
  simp only [State.judgeThreading] <;> (repeat' split) <;> simp
@[simp] theorem breakEntryWith_head_position (act : State → State) (x : Bool) (h : ∀ s, (act s).head.position = s.head.position) (s : State) : (s.breakEntryWith act x).head.position = s.head.position := by
  simp only [State.breakEntryWith] <;> (repeat' split) <;> simp [h]
@[simp] theorem judgeDetectorsWith_head_position (entry : State → State) (t c : PerDetector Bool) (h : ∀ s, (entry s).head.position = s.head.position) (s : State) : (s.judgeDetectorsWith entry t c).head.position = s.head.position := by
  simp only [State.judgeDetectorsWith] <;> (repeat' split) <;> simp [h]
@[simp] theorem judgeActivationWith_head_position (entry : State → State) (t c : PerDetector Bool) (h : ∀ s, (entry s).head.position = s.head.position) (s : State) : (s.judgeActivationWith entry t c).head.position = s.head.position := by
  simp only [State.judgeActivationWith] <;> (repeat' split) <;> simp [h]
@[simp] theorem reaim_head_position (s : State) : (s.reaim).head.position = s.head.position := by
  simp only [State.reaim] <;> (repeat' split) <;> simp
@[simp] theorem activateWith_head_position (judge : PerDetector Bool → PerDetector Bool → State → State) (i : SlotNo) (h : ∀ a b s, (judge a b s).head.position = s.head.position) (s : State) : (s.activateWith judge i).head.position = s.head.position := by
  simp only [State.activateWith] <;> (repeat' split) <;> simp [h]
@[simp] theorem activate_head_position (s : State) (i : SlotNo) : (s.activate i).head.position = s.head.position :=
  activateWith_head_position _ i (fun t c s => judgeActivationWith_head_position _ t c (breakEntryWith_head_position id false (fun _ => rfl)) s) s
@[simp] theorem activatePending_head_position (s : State) : (s.activatePending).head.position = s.head.position := by
  simp only [State.activatePending] <;> (repeat' split) <;> simp
@[simp] theorem activateInEntry_head_position (s : State) : (s.activateInEntry).head.position = s.head.position := by
  simp only [State.activateInEntry] <;> (repeat' split) <;> simp
@[simp] theorem breakEntry_head_position (s : State) (x : Bool) : (s.breakEntry x).head.position = s.head.position := by
  simp only [State.breakEntry] <;> (repeat' split) <;> simp
@[simp] theorem faultEntry_head_position (s : State) (c : FaultCause) : (s.faultEntry c).head.position = s.head.position := by
  simp only [State.faultEntry] <;> (repeat' split) <;> simp
@[simp] theorem parkTakesEffect_head_position (s : State) : (s.parkTakesEffect).head.position = s.head.position := by
  simp only [State.parkTakesEffect] <;> (repeat' split) <;> simp
@[simp] theorem judgeDetectors_head_position (s : State) (t c : PerDetector Bool) : (s.judgeDetectors t c).head.position = s.head.position := by
  simp only [State.judgeDetectors] <;> (repeat' split) <;> simp
@[simp] theorem faultUnlessFaulted_head_position (s : State) (c : FaultCause) : (s.faultUnlessFaulted c).head.position = s.head.position := by
  simp only [State.faultUnlessFaulted] <;> (repeat' split) <;> simp
@[simp] theorem completeRecord_head_position (s : State) (dir : ScanDir) : (s.completeRecord dir).head.position = s.head.position := by
  simp only [State.completeRecord] <;> (repeat' split) <;> simp
@[simp] theorem completeScan_head_position (s : State) (dir : ScanDir) : (s.completeScan dir).head.position = s.head.position := by
  simp only [State.completeScan] <;> (repeat' split) <;> simp
@[simp] theorem absentWindowEnd_head_position (s : State) : (s.absentWindowEnd).head.position = s.head.position := by
  simp only [State.absentWindowEnd] <;> (repeat' split) <;> simp
@[simp] theorem withdrawEnd_head_position (s : State) : (s.withdrawEnd).head.position = s.head.position := by
  simp only [State.withdrawEnd] <;> (repeat' split) <;> simp
@[simp] theorem stdSlot_head_position (s : State) (raw : Option RawSample) : (s.stdSlot raw).head.position = s.head.position := by
  simp only [State.stdSlot] <;> (repeat' split) <;> simp
@[simp] theorem linkLost_head_position (s : State) : (s.linkLost).head.position = s.head.position := by
  simp only [State.linkLost] <;> (repeat' split) <;> simp
@[simp] theorem linkWindowEnd_head_position (s : State) : (s.linkWindowEnd).head.position = s.head.position := by
  simp only [State.linkWindowEnd] <;> (repeat' split) <;> simp
@[simp] theorem pointPeriodEnd_head_position (s : State) : (s.pointPeriodEnd).head.position = s.head.position := by
  simp only [State.pointPeriodEnd] <;> (repeat' split) <;> simp
@[simp] theorem takeSample_head_position (s : State) (t : Option SampleTelegram) : (s.takeSample t).head.position = s.head.position := by
  simp only [State.takeSample] <;> (repeat' split) <;> simp
@[simp] theorem declareSlot_head_position (s : State) (d : SlotDecl) : (s.declareSlot d).head.position = s.head.position := by
  simp only [State.declareSlot] <;> (repeat' split) <;> simp
@[simp] theorem debounceExpiry_head_position (s : State) (d : Detector) : (s.debounceExpiry d).head.position = s.head.position := by
  simp only [State.debounceExpiry] <;> (repeat' split) <;> simp
@[simp] theorem setSlot_head_position (s : State) (st : Station) (m : ModeSlot) : (s.setSlot st m).head.position = s.head.position := by
  simp only [State.setSlot] <;> (repeat' split) <;> simp
@[simp] theorem modeRelease_head_position (s : State) (st : Station) (tag : Byte) : (s.modeRelease st tag).head.position = s.head.position := by
  simp only [State.modeRelease] <;> (repeat' split) <;> simp
@[simp] theorem modePark_head_position (s : State) (st : Station) (tag : Byte) : (s.modePark st tag).head.position = s.head.position := by
  simp only [State.modePark] <;> (repeat' split) <;> simp
@[simp] theorem modeStandardize_head_position (s : State) (st : Station) (tag : Byte) : (s.modeStandardize st tag).head.position = s.head.position := by
  simp only [State.modeStandardize] <;> (repeat' split) <;> simp
@[simp] theorem modePoint_head_position (s : State) (st : Station) (tag : Byte) (pos : Nat) : (s.modePoint st tag pos).head.position = s.head.position := by
  simp only [State.modePoint] <;> (repeat' split) <;> simp
@[simp] theorem serveMode_head_position (s : State) (st : Station) (tag : Byte) (p : List Byte) : (s.serveMode st tag p).head.position = s.head.position := by
  simp only [State.serveMode] <;> (repeat' split) <;> simp
@[simp] theorem serveClearFault_head_position (s : State) (st : Station) (tag : Byte) : (s.serveClearFault st tag).head.position = s.head.position := by
  simp only [State.serveClearFault] <;> (repeat' split) <;> simp
@[simp] theorem serveResume_head_position (s : State) (st : Station) (tag : Byte) : (s.serveResume st tag).head.position = s.head.position := by
  simp only [State.serveResume] <;> (repeat' split) <;> simp
@[simp] theorem selectSlot_head_position (s : State) (st : Station) (tag : Byte) (i : SlotNo) : (s.selectSlot st tag i).head.position = s.head.position := by
  simp only [State.selectSlot] <;> (repeat' split) <;> simp
@[simp] theorem serveSelect_head_position (s : State) (st : Station) (tag : Byte) (p : List Byte) : (s.serveSelect st tag p).head.position = s.head.position := by
  simp only [State.serveSelect] <;> (repeat' split) <;> simp
@[simp] theorem serve_head_position (s : State) (k : RequestKind) (st : Station) (tag : Byte) (p : List Byte) : (s.serve k st tag p).head.position = s.head.position := by
  simp only [State.serve] <;> (repeat' split) <;> simp
@[simp] theorem judgeKnown_head_position (s : State) (k : RequestKind) (st : Station) (tag : Byte) (p : List Byte) : (s.judgeKnown k st tag p).head.position = s.head.position := by
  simp only [State.judgeKnown] <;> (repeat' split) <;> simp
@[simp] theorem judgeKind_head_position (s : State) (st : Station) (kind tag : Byte) (p : List Byte) : (s.judgeKind st kind tag p).head.position = s.head.position := by
  simp only [State.judgeKind] <;> (repeat' split) <;> simp
@[simp] theorem telegram_head_position (s : State) (st : Station) (kind tag : Byte) (p : List Byte) : (s.telegram st kind tag p).head.position = s.head.position := by
  simp only [State.telegram] <;> (repeat' split) <;> simp
@[simp] theorem telegramArrival_head_position (s : State) (st : Station) (k t : Byte) (p : List Byte) : (s.telegramArrival st k t p).head.position = s.head.position := by
  simp only [State.telegramArrival] <;> (repeat' split) <;> simp
@[simp] theorem storeChar_head_position (s : State) (st : Station) (cs : List Byte) (b : Byte) : (s.storeChar st cs b).head.position = s.head.position := by
  simp only [State.storeChar] <;> (repeat' split) <;> simp
@[simp] theorem takeChar_head_position (s : State) (st : Station) (c : Character) : (s.takeChar st c).head.position = s.head.position := by
  simp only [State.dropTelegram, State.takeChar] <;> (repeat' split) <;> simp
@[simp] theorem startBit_head_position (s : State) (st : Station) : (s.startBit st).head.position = s.head.position := by
  simp only [State.startBit] <;> (repeat' split) <;> simp
@[simp] theorem takeLine_head_position (s : State) (st : Station) (e : LineEvent) : (s.takeLine st e).head.position = s.head.position := by
  cases e <;> simp [State.takeLine]
@[simp] theorem absence_head_position (s : State) (st : Station) : (s.absence st).head.position = s.head.position := by
  simp only [State.absence] <;> (repeat' split) <;> simp
@[simp] theorem storeHeadChar_head_position (s : State) (cs : List Byte) (b : Byte) : (s.storeHeadChar cs b).head.position = s.head.position := by
  simp only [State.setHeadRx, State.storeHeadChar] <;> (repeat' split) <;> simp
@[simp] theorem takeHeadChar_head_position (s : State) (c : Character) : (s.takeHeadChar c).head.position = s.head.position := by
  simp only [State.setHeadRx, State.takeHeadChar] <;> (repeat' split) <;> simp
@[simp] theorem arrival_head_position (s : State) : (s.arrival).head.position = s.head.position := by
  simp only [State.arrival] <;> (repeat' split) <;> simp

/-! ### What leaves the next point number alone -/

@[simp] theorem markLinkGaps_points_next (s : State) : (s.markLinkGaps).points.next = s.points.next := by
  simp only [State.markLinkGaps] <;> (repeat' split) <;> simp
@[simp] theorem markTachHeld_points_next (s : State) : (s.markTachHeld).points.next = s.points.next := by
  simp only [State.markTachHeld] <;> (repeat' split) <;> simp
@[simp] theorem startPeriod_points_next (s : State) : (s.startPeriod).points.next = s.points.next := by
  simp only [State.startPeriod] <;> (repeat' split) <;> simp
@[simp] theorem dropPeriod_points_next (s : State) : (s.dropPeriod).points.next = s.points.next := by
  simp only [State.dropPeriod] <;> (repeat' split) <;> simp
@[simp] theorem periodSlot_points_next (s : State) : (s.periodSlot).points.next = s.points.next := by
  simp only [State.periodSlot] <;> (repeat' split) <;> simp
@[simp] theorem pointTake_points_next (s : State) (x : Sample) : (s.pointTake x).points.next = s.points.next := by
  simp only [State.pointTake] <;> (repeat' split) <;> simp
@[simp] theorem arrivePoint_points_next (s : State) : (s.arrivePoint).points.next = s.points.next := by
  simp only [State.arrivePoint] <;> (repeat' split) <;> simp
@[simp] theorem faultStill_points_next (s : State) (c : FaultCause) : (s.faultStill c).points.next = s.points.next := by
  simp only [State.faultEntryWith, State.scanAbortWith, State.faultStill] <;> (repeat' split) <;> simp
@[simp] theorem beginApproach_points_next (s : State) (g : Grant) : (s.beginApproach g).points.next = s.points.next := by
  simp only [State.beginApproach] <;> (repeat' split) <;> simp
@[simp] theorem beginPositioning_points_next (s : State) (st : Station) (p : Nat) : (s.beginPositioning st p).points.next = s.points.next := by
  simp only [State.beginPositioning] <;> (repeat' split) <;> simp
@[simp] theorem decideParkedOther_points_next (s : State) (g : Grant) : (s.decideParkedOther g).points.next = s.points.next := by
  simp only [State.decideParkedOther] <;> (repeat' split) <;> simp
@[simp] theorem startStd_points_next (s : State) : (s.startStd).points.next = s.points.next := by
  simp only [State.startStd] <;> (repeat' split) <;> simp
@[simp] theorem decideParked_points_next (s : State) : (s.decideParked).points.next = s.points.next := by
  simp only [State.decideParked] <;> (repeat' split) <;> simp
@[simp] theorem redecideIfParked_points_next (s : State) : (s.redecideIfParked).points.next = s.points.next := by
  simp only [State.redecideIfParked] <;> (repeat' split) <;> simp
@[simp] theorem stdEnded_points_next (s : State) : (s.stdEnded).points.next = s.points.next := by
  simp only [State.stdEnded] <;> (repeat' split) <;> simp
@[simp] theorem arriveParked_points_next (s : State) : (s.arriveParked).points.next = s.points.next := by
  simp only [State.arriveParked] <;> (repeat' split) <;> simp
@[simp] theorem beginReturning_points_next (s : State) (g : Grant) : (s.beginReturning g).points.next = s.points.next := by
  simp only [State.beginReturning] <;> (repeat' split) <;> simp
@[simp] theorem stdAtCompletion_points_next (s : State) (dir : ScanDir) (a : Bool) : (s.stdAtCompletion dir a).points.next = s.points.next := by
  simp only [State.stdAtCompletion] <;> (repeat' split) <;> simp
@[simp] theorem scanAtCompletion_points_next (s : State) (dir : ScanDir) (a : Bool) : (s.scanAtCompletion dir a).points.next = s.points.next := by
  simp only [State.scanAtCompletion] <;> (repeat' split) <;> simp
@[simp] theorem decideCompletion_points_next (s : State) (dir : ScanDir) (a : Bool) : (s.decideCompletion dir a).points.next = s.points.next := by
  simp only [State.decideCompletion] <;> (repeat' split) <;> simp
@[simp] theorem decidePeriodEnd_points_next (s : State) : (s.decidePeriodEnd).points.next = s.points.next := by
  simp only [State.decidePeriodEnd] <;> (repeat' split) <;> simp
@[simp] theorem homingBegun_points_next (s : State) : (s.homingBegun).points.next = s.points.next := by
  simp only [State.homingBegun] <;> (repeat' split) <;> simp
@[simp] theorem enterHoming_points_next (s : State) : (s.enterHoming).points.next = s.points.next := by
  simp only [State.enterHoming] <;> (repeat' split) <;> simp
@[simp] theorem indexFound_points_next (s : State) : (s.indexFound).points.next = s.points.next := by
  simp only [State.indexFound] <;> (repeat' split) <;> simp
@[simp] theorem scanAbortWith_points_next (act : State → State) (h : ∀ s, (act s).points.next = s.points.next) (s : State) : (s.scanAbortWith act).points.next = s.points.next := by
  simp only [State.scanAbortWith] <;> (repeat' split) <;> simp [h]
@[simp] theorem faultEntryWith_points_next (act : State → State) (c : FaultCause) (h : ∀ s, (act s).points.next = s.points.next) (s : State) : (s.faultEntryWith act c).points.next = s.points.next := by
  simp only [State.faultEntryWith] <;> (repeat' split) <;> simp [h]
@[simp] theorem claimTakesEffectWith_points_next (act : State → State) (h : ∀ s, (act s).points.next = s.points.next) (s : State) : (s.claimTakesEffectWith act).points.next = s.points.next := by
  simp only [State.claimTakesEffectWith] <;> (repeat' split) <;> simp [h]
@[simp] theorem recoveringEntry_points_next (s : State) : (s.recoveringEntry).points.next = s.points.next := by
  simp only [State.recoveringEntry] <;> (repeat' split) <;> simp
@[simp] theorem threadingExpiry_points_next (s : State) : (s.threadingExpiry).points.next = s.points.next := by
  simp only [State.threadingExpiry] <;> (repeat' split) <;> simp
@[simp] theorem threadingEntry_points_next (s : State) : (s.threadingEntry).points.next = s.points.next := by
  simp only [State.threadingEntry] <;> (repeat' split) <;> simp
@[simp] theorem judgeThreading_points_next (s : State) : (s.judgeThreading).points.next = s.points.next := by
  simp only [State.judgeThreading] <;> (repeat' split) <;> simp
@[simp] theorem breakEntryWith_points_next (act : State → State) (x : Bool) (h : ∀ s, (act s).points.next = s.points.next) (s : State) : (s.breakEntryWith act x).points.next = s.points.next := by
  simp only [State.breakEntryWith] <;> (repeat' split) <;> simp [h]
@[simp] theorem judgeDetectorsWith_points_next (entry : State → State) (t c : PerDetector Bool) (h : ∀ s, (entry s).points.next = s.points.next) (s : State) : (s.judgeDetectorsWith entry t c).points.next = s.points.next := by
  simp only [State.judgeDetectorsWith] <;> (repeat' split) <;> simp [h]
@[simp] theorem judgeActivationWith_points_next (entry : State → State) (t c : PerDetector Bool) (h : ∀ s, (entry s).points.next = s.points.next) (s : State) : (s.judgeActivationWith entry t c).points.next = s.points.next := by
  simp only [State.judgeActivationWith] <;> (repeat' split) <;> simp [h]
@[simp] theorem activateWith_points_next (judge : PerDetector Bool → PerDetector Bool → State → State) (i : SlotNo) (h : ∀ a b s, (judge a b s).points.next = s.points.next) (s : State) : (s.activateWith judge i).points.next = s.points.next := by
  simp only [State.activateWith] <;> (repeat' split) <;> simp [h]
@[simp] theorem activate_points_next (s : State) (i : SlotNo) : (s.activate i).points.next = s.points.next :=
  activateWith_points_next _ i (fun t c s => judgeActivationWith_points_next _ t c (breakEntryWith_points_next id false (fun _ => rfl)) s) s
@[simp] theorem activatePending_points_next (s : State) : (s.activatePending).points.next = s.points.next := by
  simp only [State.activatePending] <;> (repeat' split) <;> simp
@[simp] theorem activateInEntry_points_next (s : State) : (s.activateInEntry).points.next = s.points.next := by
  simp only [State.activateInEntry] <;> (repeat' split) <;> simp
@[simp] theorem breakEntry_points_next (s : State) (x : Bool) : (s.breakEntry x).points.next = s.points.next := by
  simp only [State.breakEntry] <;> (repeat' split) <;> simp
@[simp] theorem faultEntry_points_next (s : State) (c : FaultCause) : (s.faultEntry c).points.next = s.points.next := by
  simp only [State.faultEntry] <;> (repeat' split) <;> simp
@[simp] theorem parkTakesEffect_points_next (s : State) : (s.parkTakesEffect).points.next = s.points.next := by
  simp only [State.parkTakesEffect] <;> (repeat' split) <;> simp
@[simp] theorem judgeDetectors_points_next (s : State) (t c : PerDetector Bool) : (s.judgeDetectors t c).points.next = s.points.next := by
  simp only [State.judgeDetectors] <;> (repeat' split) <;> simp
@[simp] theorem faultUnlessFaulted_points_next (s : State) (c : FaultCause) : (s.faultUnlessFaulted c).points.next = s.points.next := by
  simp only [State.faultUnlessFaulted] <;> (repeat' split) <;> simp
@[simp] theorem completeScan_points_next (s : State) (dir : ScanDir) : (s.completeScan dir).points.next = s.points.next := by
  simp only [State.completeScan] <;> (repeat' split) <;> simp
@[simp] theorem handOn_points_next (s : State) (x : Sample) : (s.handOn x).points.next = s.points.next := by
  simp only [State.handOn] <;> (repeat' split) <;> simp
@[simp] theorem absentWindowEnd_points_next (s : State) : (s.absentWindowEnd).points.next = s.points.next := by
  simp only [State.absentWindowEnd] <;> (repeat' split) <;> simp
@[simp] theorem withdrawEnd_points_next (s : State) : (s.withdrawEnd).points.next = s.points.next := by
  simp only [State.withdrawEnd] <;> (repeat' split) <;> simp
@[simp] theorem stdSlot_points_next (s : State) (raw : Option RawSample) : (s.stdSlot raw).points.next = s.points.next := by
  simp only [State.stdSlot] <;> (repeat' split) <;> simp
@[simp] theorem linkLost_points_next (s : State) : (s.linkLost).points.next = s.points.next := by
  simp only [State.linkLost] <;> (repeat' split) <;> simp
@[simp] theorem linkWindowEnd_points_next (s : State) : (s.linkWindowEnd).points.next = s.points.next := by
  simp only [State.linkWindowEnd] <;> (repeat' split) <;> simp
@[simp] theorem takeSample_points_next (s : State) (t : Option SampleTelegram) : (s.takeSample t).points.next = s.points.next := by
  simp only [State.takeSample] <;> (repeat' split) <;> simp
@[simp] theorem lossExpiry_points_next (s : State) : (s.lossExpiry).points.next = s.points.next := by
  simp only [State.lossExpiry] <;> (repeat' split) <;> simp
@[simp] theorem debounceExpiry_points_next (s : State) (d : Detector) : (s.debounceExpiry d).points.next = s.points.next := by
  simp only [State.debounceExpiry] <;> (repeat' split) <;> simp
@[simp] theorem modeRelease_points_next (s : State) (st : Station) (tag : Byte) : (s.modeRelease st tag).points.next = s.points.next := by
  simp only [State.modeRelease] <;> (repeat' split) <;> simp
@[simp] theorem modePark_points_next (s : State) (st : Station) (tag : Byte) : (s.modePark st tag).points.next = s.points.next := by
  simp only [State.modePark] <;> (repeat' split) <;> simp
@[simp] theorem modeStandardize_points_next (s : State) (st : Station) (tag : Byte) : (s.modeStandardize st tag).points.next = s.points.next := by
  simp only [State.modeStandardize] <;> (repeat' split) <;> simp
@[simp] theorem modePoint_points_next (s : State) (st : Station) (tag : Byte) (pos : Nat) : (s.modePoint st tag pos).points.next = s.points.next := by
  simp only [State.modePoint] <;> (repeat' split) <;> simp
@[simp] theorem serveMode_points_next (s : State) (st : Station) (tag : Byte) (p : List Byte) : (s.serveMode st tag p).points.next = s.points.next := by
  simp only [State.serveMode] <;> (repeat' split) <;> simp
@[simp] theorem serveClearFault_points_next (s : State) (st : Station) (tag : Byte) : (s.serveClearFault st tag).points.next = s.points.next := by
  simp only [State.serveClearFault] <;> (repeat' split) <;> simp
@[simp] theorem serveResume_points_next (s : State) (st : Station) (tag : Byte) : (s.serveResume st tag).points.next = s.points.next := by
  simp only [State.serveResume] <;> (repeat' split) <;> simp
@[simp] theorem selectSlot_points_next (s : State) (st : Station) (tag : Byte) (i : SlotNo) : (s.selectSlot st tag i).points.next = s.points.next := by
  simp only [State.selectSlot] <;> (repeat' split) <;> simp
@[simp] theorem serveSelect_points_next (s : State) (st : Station) (tag : Byte) (p : List Byte) : (s.serveSelect st tag p).points.next = s.points.next := by
  simp only [State.serveSelect] <;> (repeat' split) <;> simp
@[simp] theorem serve_points_next (s : State) (k : RequestKind) (st : Station) (tag : Byte) (p : List Byte) : (s.serve k st tag p).points.next = s.points.next := by
  simp only [State.serve] <;> (repeat' split) <;> simp
@[simp] theorem judgeKnown_points_next (s : State) (k : RequestKind) (st : Station) (tag : Byte) (p : List Byte) : (s.judgeKnown k st tag p).points.next = s.points.next := by
  simp only [State.judgeKnown] <;> (repeat' split) <;> simp
@[simp] theorem judgeKind_points_next (s : State) (st : Station) (kind tag : Byte) (p : List Byte) : (s.judgeKind st kind tag p).points.next = s.points.next := by
  simp only [State.judgeKind] <;> (repeat' split) <;> simp
@[simp] theorem telegram_points_next (s : State) (st : Station) (kind tag : Byte) (p : List Byte) : (s.telegram st kind tag p).points.next = s.points.next := by
  simp only [State.telegram] <;> (repeat' split) <;> simp
@[simp] theorem telegramArrival_points_next (s : State) (st : Station) (k t : Byte) (p : List Byte) : (s.telegramArrival st k t p).points.next = s.points.next := by
  simp only [State.telegramArrival] <;> (repeat' split) <;> simp
@[simp] theorem storeChar_points_next (s : State) (st : Station) (cs : List Byte) (b : Byte) : (s.storeChar st cs b).points.next = s.points.next := by
  simp only [State.storeChar] <;> (repeat' split) <;> simp
@[simp] theorem takeChar_points_next (s : State) (st : Station) (c : Character) : (s.takeChar st c).points.next = s.points.next := by
  simp only [State.dropTelegram, State.takeChar] <;> (repeat' split) <;> simp
@[simp] theorem startBit_points_next (s : State) (st : Station) : (s.startBit st).points.next = s.points.next := by
  simp only [State.startBit] <;> (repeat' split) <;> simp
@[simp] theorem takeLine_points_next (s : State) (st : Station) (e : LineEvent) : (s.takeLine st e).points.next = s.points.next := by
  cases e <;> simp [State.takeLine]
@[simp] theorem absence_points_next (s : State) (st : Station) : (s.absence st).points.next = s.points.next := by
  simp only [State.absence] <;> (repeat' split) <;> simp
@[simp] theorem arrival_points_next (s : State) : (s.arrival).points.next = s.points.next := by
  simp only [State.arrival] <;> (repeat' split) <;> simp

/-! ### What leaves the point ring alone -/

@[simp] theorem markLinkGaps_points_ring (s : State) : (s.markLinkGaps).points.ring = s.points.ring := by
  simp only [State.markLinkGaps] <;> (repeat' split) <;> simp
@[simp] theorem markTachHeld_points_ring (s : State) : (s.markTachHeld).points.ring = s.points.ring := by
  simp only [State.markTachHeld] <;> (repeat' split) <;> simp
@[simp] theorem startPeriod_points_ring (s : State) : (s.startPeriod).points.ring = s.points.ring := by
  simp only [State.startPeriod] <;> (repeat' split) <;> simp
@[simp] theorem dropPeriod_points_ring (s : State) : (s.dropPeriod).points.ring = s.points.ring := by
  simp only [State.dropPeriod] <;> (repeat' split) <;> simp
@[simp] theorem periodSlot_points_ring (s : State) : (s.periodSlot).points.ring = s.points.ring := by
  simp only [State.periodSlot] <;> (repeat' split) <;> simp
@[simp] theorem pointTake_points_ring (s : State) (x : Sample) : (s.pointTake x).points.ring = s.points.ring := by
  simp only [State.pointTake] <;> (repeat' split) <;> simp
@[simp] theorem arrivePoint_points_ring (s : State) : (s.arrivePoint).points.ring = s.points.ring := by
  simp only [State.arrivePoint] <;> (repeat' split) <;> simp
@[simp] theorem faultStill_points_ring (s : State) (c : FaultCause) : (s.faultStill c).points.ring = s.points.ring := by
  simp only [State.faultEntryWith, State.scanAbortWith, State.faultStill] <;> (repeat' split) <;> simp
@[simp] theorem beginApproach_points_ring (s : State) (g : Grant) : (s.beginApproach g).points.ring = s.points.ring := by
  simp only [State.beginApproach] <;> (repeat' split) <;> simp
@[simp] theorem beginPositioning_points_ring (s : State) (st : Station) (p : Nat) : (s.beginPositioning st p).points.ring = s.points.ring := by
  simp only [State.beginPositioning] <;> (repeat' split) <;> simp
@[simp] theorem decideParkedOther_points_ring (s : State) (g : Grant) : (s.decideParkedOther g).points.ring = s.points.ring := by
  simp only [State.decideParkedOther] <;> (repeat' split) <;> simp
@[simp] theorem startStd_points_ring (s : State) : (s.startStd).points.ring = s.points.ring := by
  simp only [State.startStd] <;> (repeat' split) <;> simp
@[simp] theorem decideParked_points_ring (s : State) : (s.decideParked).points.ring = s.points.ring := by
  simp only [State.decideParked] <;> (repeat' split) <;> simp
@[simp] theorem redecideIfParked_points_ring (s : State) : (s.redecideIfParked).points.ring = s.points.ring := by
  simp only [State.redecideIfParked] <;> (repeat' split) <;> simp
@[simp] theorem stdEnded_points_ring (s : State) : (s.stdEnded).points.ring = s.points.ring := by
  simp only [State.stdEnded] <;> (repeat' split) <;> simp
@[simp] theorem arriveParked_points_ring (s : State) : (s.arriveParked).points.ring = s.points.ring := by
  simp only [State.arriveParked] <;> (repeat' split) <;> simp
@[simp] theorem beginReturning_points_ring (s : State) (g : Grant) : (s.beginReturning g).points.ring = s.points.ring := by
  simp only [State.beginReturning] <;> (repeat' split) <;> simp
@[simp] theorem stdAtCompletion_points_ring (s : State) (dir : ScanDir) (a : Bool) : (s.stdAtCompletion dir a).points.ring = s.points.ring := by
  simp only [State.stdAtCompletion] <;> (repeat' split) <;> simp
@[simp] theorem scanAtCompletion_points_ring (s : State) (dir : ScanDir) (a : Bool) : (s.scanAtCompletion dir a).points.ring = s.points.ring := by
  simp only [State.scanAtCompletion] <;> (repeat' split) <;> simp
@[simp] theorem decideCompletion_points_ring (s : State) (dir : ScanDir) (a : Bool) : (s.decideCompletion dir a).points.ring = s.points.ring := by
  simp only [State.decideCompletion] <;> (repeat' split) <;> simp
@[simp] theorem decidePeriodEnd_points_ring (s : State) : (s.decidePeriodEnd).points.ring = s.points.ring := by
  simp only [State.decidePeriodEnd] <;> (repeat' split) <;> simp
@[simp] theorem homingBegun_points_ring (s : State) : (s.homingBegun).points.ring = s.points.ring := by
  simp only [State.homingBegun] <;> (repeat' split) <;> simp
@[simp] theorem enterHoming_points_ring (s : State) : (s.enterHoming).points.ring = s.points.ring := by
  simp only [State.enterHoming] <;> (repeat' split) <;> simp
@[simp] theorem indexFound_points_ring (s : State) : (s.indexFound).points.ring = s.points.ring := by
  simp only [State.indexFound] <;> (repeat' split) <;> simp
@[simp] theorem scanAbortWith_points_ring (act : State → State) (h : ∀ s, (act s).points.ring = s.points.ring) (s : State) : (s.scanAbortWith act).points.ring = s.points.ring := by
  simp only [State.scanAbortWith] <;> (repeat' split) <;> simp [h]
@[simp] theorem faultEntryWith_points_ring (act : State → State) (c : FaultCause) (h : ∀ s, (act s).points.ring = s.points.ring) (s : State) : (s.faultEntryWith act c).points.ring = s.points.ring := by
  simp only [State.faultEntryWith] <;> (repeat' split) <;> simp [h]
@[simp] theorem claimTakesEffectWith_points_ring (act : State → State) (h : ∀ s, (act s).points.ring = s.points.ring) (s : State) : (s.claimTakesEffectWith act).points.ring = s.points.ring := by
  simp only [State.claimTakesEffectWith] <;> (repeat' split) <;> simp [h]
@[simp] theorem recoveringEntry_points_ring (s : State) : (s.recoveringEntry).points.ring = s.points.ring := by
  simp only [State.recoveringEntry] <;> (repeat' split) <;> simp
@[simp] theorem threadingExpiry_points_ring (s : State) : (s.threadingExpiry).points.ring = s.points.ring := by
  simp only [State.threadingExpiry] <;> (repeat' split) <;> simp
@[simp] theorem threadingEntry_points_ring (s : State) : (s.threadingEntry).points.ring = s.points.ring := by
  simp only [State.threadingEntry] <;> (repeat' split) <;> simp
@[simp] theorem judgeThreading_points_ring (s : State) : (s.judgeThreading).points.ring = s.points.ring := by
  simp only [State.judgeThreading] <;> (repeat' split) <;> simp
@[simp] theorem breakEntryWith_points_ring (act : State → State) (x : Bool) (h : ∀ s, (act s).points.ring = s.points.ring) (s : State) : (s.breakEntryWith act x).points.ring = s.points.ring := by
  simp only [State.breakEntryWith] <;> (repeat' split) <;> simp [h]
@[simp] theorem judgeDetectorsWith_points_ring (entry : State → State) (t c : PerDetector Bool) (h : ∀ s, (entry s).points.ring = s.points.ring) (s : State) : (s.judgeDetectorsWith entry t c).points.ring = s.points.ring := by
  simp only [State.judgeDetectorsWith] <;> (repeat' split) <;> simp [h]
@[simp] theorem judgeActivationWith_points_ring (entry : State → State) (t c : PerDetector Bool) (h : ∀ s, (entry s).points.ring = s.points.ring) (s : State) : (s.judgeActivationWith entry t c).points.ring = s.points.ring := by
  simp only [State.judgeActivationWith] <;> (repeat' split) <;> simp [h]
@[simp] theorem activateWith_points_ring (judge : PerDetector Bool → PerDetector Bool → State → State) (i : SlotNo) (h : ∀ a b s, (judge a b s).points.ring = s.points.ring) (s : State) : (s.activateWith judge i).points.ring = s.points.ring := by
  simp only [State.activateWith] <;> (repeat' split) <;> simp [h]
@[simp] theorem activate_points_ring (s : State) (i : SlotNo) : (s.activate i).points.ring = s.points.ring :=
  activateWith_points_ring _ i (fun t c s => judgeActivationWith_points_ring _ t c (breakEntryWith_points_ring id false (fun _ => rfl)) s) s
@[simp] theorem activatePending_points_ring (s : State) : (s.activatePending).points.ring = s.points.ring := by
  simp only [State.activatePending] <;> (repeat' split) <;> simp
@[simp] theorem activateInEntry_points_ring (s : State) : (s.activateInEntry).points.ring = s.points.ring := by
  simp only [State.activateInEntry] <;> (repeat' split) <;> simp
@[simp] theorem breakEntry_points_ring (s : State) (x : Bool) : (s.breakEntry x).points.ring = s.points.ring := by
  simp only [State.breakEntry] <;> (repeat' split) <;> simp
@[simp] theorem faultEntry_points_ring (s : State) (c : FaultCause) : (s.faultEntry c).points.ring = s.points.ring := by
  simp only [State.faultEntry] <;> (repeat' split) <;> simp
@[simp] theorem parkTakesEffect_points_ring (s : State) : (s.parkTakesEffect).points.ring = s.points.ring := by
  simp only [State.parkTakesEffect] <;> (repeat' split) <;> simp
@[simp] theorem judgeDetectors_points_ring (s : State) (t c : PerDetector Bool) : (s.judgeDetectors t c).points.ring = s.points.ring := by
  simp only [State.judgeDetectors] <;> (repeat' split) <;> simp
@[simp] theorem faultUnlessFaulted_points_ring (s : State) (c : FaultCause) : (s.faultUnlessFaulted c).points.ring = s.points.ring := by
  simp only [State.faultUnlessFaulted] <;> (repeat' split) <;> simp
@[simp] theorem completeScan_points_ring (s : State) (dir : ScanDir) : (s.completeScan dir).points.ring = s.points.ring := by
  simp only [State.completeScan] <;> (repeat' split) <;> simp
@[simp] theorem handOn_points_ring (s : State) (x : Sample) : (s.handOn x).points.ring = s.points.ring := by
  simp only [State.handOn] <;> (repeat' split) <;> simp
@[simp] theorem absentWindowEnd_points_ring (s : State) : (s.absentWindowEnd).points.ring = s.points.ring := by
  simp only [State.absentWindowEnd] <;> (repeat' split) <;> simp
@[simp] theorem withdrawEnd_points_ring (s : State) : (s.withdrawEnd).points.ring = s.points.ring := by
  simp only [State.withdrawEnd] <;> (repeat' split) <;> simp
@[simp] theorem stdSlot_points_ring (s : State) (raw : Option RawSample) : (s.stdSlot raw).points.ring = s.points.ring := by
  simp only [State.stdSlot] <;> (repeat' split) <;> simp
@[simp] theorem linkLost_points_ring (s : State) : (s.linkLost).points.ring = s.points.ring := by
  simp only [State.linkLost] <;> (repeat' split) <;> simp
@[simp] theorem linkWindowEnd_points_ring (s : State) : (s.linkWindowEnd).points.ring = s.points.ring := by
  simp only [State.linkWindowEnd] <;> (repeat' split) <;> simp
@[simp] theorem takeSample_points_ring (s : State) (t : Option SampleTelegram) : (s.takeSample t).points.ring = s.points.ring := by
  simp only [State.takeSample] <;> (repeat' split) <;> simp
@[simp] theorem lossExpiry_points_ring (s : State) : (s.lossExpiry).points.ring = s.points.ring := by
  simp only [State.lossExpiry] <;> (repeat' split) <;> simp
@[simp] theorem debounceExpiry_points_ring (s : State) (d : Detector) : (s.debounceExpiry d).points.ring = s.points.ring := by
  simp only [State.debounceExpiry] <;> (repeat' split) <;> simp
@[simp] theorem modeRelease_points_ring (s : State) (st : Station) (tag : Byte) : (s.modeRelease st tag).points.ring = s.points.ring := by
  simp only [State.modeRelease] <;> (repeat' split) <;> simp
@[simp] theorem modePark_points_ring (s : State) (st : Station) (tag : Byte) : (s.modePark st tag).points.ring = s.points.ring := by
  simp only [State.modePark] <;> (repeat' split) <;> simp
@[simp] theorem modeStandardize_points_ring (s : State) (st : Station) (tag : Byte) : (s.modeStandardize st tag).points.ring = s.points.ring := by
  simp only [State.modeStandardize] <;> (repeat' split) <;> simp
@[simp] theorem modePoint_points_ring (s : State) (st : Station) (tag : Byte) (pos : Nat) : (s.modePoint st tag pos).points.ring = s.points.ring := by
  simp only [State.modePoint] <;> (repeat' split) <;> simp
@[simp] theorem serveMode_points_ring (s : State) (st : Station) (tag : Byte) (p : List Byte) : (s.serveMode st tag p).points.ring = s.points.ring := by
  simp only [State.serveMode] <;> (repeat' split) <;> simp
@[simp] theorem serveClearFault_points_ring (s : State) (st : Station) (tag : Byte) : (s.serveClearFault st tag).points.ring = s.points.ring := by
  simp only [State.serveClearFault] <;> (repeat' split) <;> simp
@[simp] theorem serveResume_points_ring (s : State) (st : Station) (tag : Byte) : (s.serveResume st tag).points.ring = s.points.ring := by
  simp only [State.serveResume] <;> (repeat' split) <;> simp
@[simp] theorem selectSlot_points_ring (s : State) (st : Station) (tag : Byte) (i : SlotNo) : (s.selectSlot st tag i).points.ring = s.points.ring := by
  simp only [State.selectSlot] <;> (repeat' split) <;> simp
@[simp] theorem serveSelect_points_ring (s : State) (st : Station) (tag : Byte) (p : List Byte) : (s.serveSelect st tag p).points.ring = s.points.ring := by
  simp only [State.serveSelect] <;> (repeat' split) <;> simp
@[simp] theorem serve_points_ring (s : State) (k : RequestKind) (st : Station) (tag : Byte) (p : List Byte) : (s.serve k st tag p).points.ring = s.points.ring := by
  simp only [State.serve] <;> (repeat' split) <;> simp
@[simp] theorem judgeKnown_points_ring (s : State) (k : RequestKind) (st : Station) (tag : Byte) (p : List Byte) : (s.judgeKnown k st tag p).points.ring = s.points.ring := by
  simp only [State.judgeKnown] <;> (repeat' split) <;> simp
@[simp] theorem judgeKind_points_ring (s : State) (st : Station) (kind tag : Byte) (p : List Byte) : (s.judgeKind st kind tag p).points.ring = s.points.ring := by
  simp only [State.judgeKind] <;> (repeat' split) <;> simp
@[simp] theorem telegram_points_ring (s : State) (st : Station) (kind tag : Byte) (p : List Byte) : (s.telegram st kind tag p).points.ring = s.points.ring := by
  simp only [State.telegram] <;> (repeat' split) <;> simp
@[simp] theorem telegramArrival_points_ring (s : State) (st : Station) (k t : Byte) (p : List Byte) : (s.telegramArrival st k t p).points.ring = s.points.ring := by
  simp only [State.telegramArrival] <;> (repeat' split) <;> simp
@[simp] theorem storeChar_points_ring (s : State) (st : Station) (cs : List Byte) (b : Byte) : (s.storeChar st cs b).points.ring = s.points.ring := by
  simp only [State.storeChar] <;> (repeat' split) <;> simp
@[simp] theorem takeChar_points_ring (s : State) (st : Station) (c : Character) : (s.takeChar st c).points.ring = s.points.ring := by
  simp only [State.dropTelegram, State.takeChar] <;> (repeat' split) <;> simp
@[simp] theorem startBit_points_ring (s : State) (st : Station) : (s.startBit st).points.ring = s.points.ring := by
  simp only [State.startBit] <;> (repeat' split) <;> simp
@[simp] theorem takeLine_points_ring (s : State) (st : Station) (e : LineEvent) : (s.takeLine st e).points.ring = s.points.ring := by
  cases e <;> simp [State.takeLine]
@[simp] theorem absence_points_ring (s : State) (st : Station) : (s.absence st).points.ring = s.points.ring := by
  simp only [State.absence] <;> (repeat' split) <;> simp
@[simp] theorem arrival_points_ring (s : State) : (s.arrival).points.ring = s.points.ring := by
  simp only [State.arrival] <;> (repeat' split) <;> simp

/-! ### What leaves the newest scan number alone -/


/-! ### What leaves the head link receiver alone -/

@[simp] theorem onPort_link_received (s : State) (st : Station) (f : Port → Port) : (s.onPort st f).link.received = s.link.received := by
  simp only [State.onPort] <;> (repeat' split) <;> simp
@[simp] theorem startBit_link_received (s : State) (st : Station) : (s.startBit st).link.received = s.link.received := by
  simp only [State.startBit] <;> (repeat' split) <;> simp
@[simp] theorem onPorts_link_received (s : State) (f : Port → Port) : (s.onPorts f).link.received = s.link.received := by
  simp only [State.onPorts] <;> (repeat' split) <;> simp
@[simp] theorem reply_link_received (s : State) (st : Station) (k : RequestKind) (tag : Byte) (b : ReplyBody) : (s.reply st k tag b).link.received = s.link.received := by
  simp only [State.reply] <;> (repeat' split) <;> simp
@[simp] theorem offer_link_received (s : State) (n : Notice) : (s.offer n).link.received = s.link.received := by
  simp only [State.offer] <;> (repeat' split) <;> simp
@[simp] theorem settle_link_received (s : State) : (s.settle).link.received = s.link.received := by
  simp only [State.settle] <;> (repeat' split) <;> simp
@[simp] theorem serveScan_link_received (s : State) (st : Station) (tag : Byte) (q : ScanQuery) (i : Nat) : (s.serveScan st tag q i).link.received = s.link.received := by
  simp only [State.serveScan] <;> (repeat' split) <;> simp
@[simp] theorem endPending_link_received (s : State) (st : Station) (b : ReplyBody) : (s.endPending st b).link.received = s.link.received := by
  simp only [State.endPending] <;> (repeat' split) <;> simp
@[simp] theorem endPendingByBreak_link_received (s : State) : (s.endPendingByBreak).link.received = s.link.received := by
  simp only [State.endPendingByBreak] <;> (repeat' split) <;> simp
@[simp] theorem servePending_link_received (s : State) (i : Nat) (st : Station) : (s.servePending i st).link.received = s.link.received := by
  simp only [State.servePending] <;> (repeat' split) <;> simp
@[simp] theorem serveAllPending_link_received (s : State) (i : Nat) : (s.serveAllPending i).link.received = s.link.received := by
  simp only [State.serveAllPending] <;> (repeat' split) <;> simp
@[simp] theorem endStretch_link_received (s : State) : (s.endStretch).link.received = s.link.received := by
  simp only [State.endStretch] <;> (repeat' split) <;> simp
@[simp] theorem stopAssessment_link_received (s : State) : (s.stopAssessment).link.received = s.link.received := by
  simp only [State.stopAssessment] <;> (repeat' split) <;> simp
@[simp] theorem absentTake_link_received (s : State) (x : Sample) : (s.absentTake x).link.received = s.link.received := by
  simp only [State.absentTake] <;> (repeat' split) <;> simp
@[simp] theorem absentNextWindow_link_received (s : State) : (s.absentNextWindow).link.received = s.link.received := by
  simp only [State.absentNextWindow] <;> (repeat' split) <;> simp
@[simp] theorem holeTake_link_received (s : State) (x : Sample) : (s.holeTake x).link.received = s.link.received := by
  simp only [State.holeTake] <;> (repeat' split) <;> simp
@[simp] theorem holeTransfer_link_received (s : State) (src : ReportSource) : (s.holeTransfer src).link.received = s.link.received := by
  simp only [State.holeTransfer] <;> (repeat' split) <;> simp
@[simp] theorem updateEdges_link_received (s : State) (e : EdgeTracker) : (s.updateEdges e).link.received = s.link.received := by
  simp only [State.updateEdges] <;> (repeat' split) <;> simp
@[simp] theorem edgeTake_link_received (s : State) (x : Sample) : (s.edgeTake x).link.received = s.link.received := by
  simp only [State.edgeTake] <;> (repeat' split) <;> simp
@[simp] theorem binTake_link_received (s : State) (x : Sample) : (s.binTake x).link.received = s.link.received := by
  simp only [State.binTake] <;> (repeat' split) <;> simp
@[simp] theorem profileRestart_link_received (s : State) : (s.profileRestart).link.received = s.link.received := by
  simp only [State.profileRestart] <;> (repeat' split) <;> simp
@[simp] theorem clearContinuity_link_received (s : State) : (s.clearContinuity).link.received = s.link.received := by
  simp only [State.clearContinuity] <;> (repeat' split) <;> simp
@[simp] theorem deferredAtAbort_link_received (s : State) : (s.deferredAtAbort).link.received = s.link.received := by
  simp only [State.deferredAtAbort] <;> (repeat' split) <;> simp
@[simp] theorem profileActivation_link_received (s : State) (l : Layout) : (s.profileActivation l).link.received = s.link.received := by
  simp only [State.profileActivation] <;> (repeat' split) <;> simp
@[simp] theorem adopt_link_received (s : State) : (s.adopt).link.received = s.link.received := by
  simp only [State.adopt] <;> (repeat' split) <;> simp
@[simp] theorem dropPendingSet_link_received (s : State) : (s.dropPendingSet).link.received = s.link.received := by
  simp only [State.dropPendingSet] <;> (repeat' split) <;> simp
@[simp] theorem startRecord_link_received (s : State) (dir : ScanDir) : (s.startRecord dir).link.received = s.link.received := by
  simp only [State.startRecord] <;> (repeat' split) <;> simp
@[simp] theorem voidRecord_link_received (s : State) : (s.voidRecord).link.received = s.link.received := by
  simp only [State.voidRecord] <;> (repeat' split) <;> simp
@[simp] theorem markLinkGaps_link_received (s : State) : (s.markLinkGaps).link.received = s.link.received := by
  simp only [State.markLinkGaps] <;> (repeat' split) <;> simp
@[simp] theorem markTachHeld_link_received (s : State) : (s.markTachHeld).link.received = s.link.received := by
  simp only [State.markTachHeld] <;> (repeat' split) <;> simp
@[simp] theorem closeAt_link_received (s : State) (i : Nat) : (s.closeAt i).link.received = s.link.received := by
  simp only [State.closeAt] <;> (repeat' split) <;> simp
@[simp] theorem startPeriod_link_received (s : State) : (s.startPeriod).link.received = s.link.received := by
  simp only [State.startPeriod] <;> (repeat' split) <;> simp
@[simp] theorem dropPeriod_link_received (s : State) : (s.dropPeriod).link.received = s.link.received := by
  simp only [State.dropPeriod] <;> (repeat' split) <;> simp
@[simp] theorem periodSlot_link_received (s : State) : (s.periodSlot).link.received = s.link.received := by
  simp only [State.periodSlot] <;> (repeat' split) <;> simp
@[simp] theorem pointTake_link_received (s : State) (x : Sample) : (s.pointTake x).link.received = s.link.received := by
  simp only [State.pointTake] <;> (repeat' split) <;> simp
@[simp] theorem recordPeriod_link_received (s : State) (p : PointPeriod) : (s.recordPeriod p).link.received = s.link.received := by
  simp only [State.recordPeriod] <;> (repeat' split) <;> simp
@[simp] theorem raise_link_received (s : State) (c : HeadCommand) : (s.raise c).link.received = s.link.received := by
  simp only [State.raise] <;> (repeat' split) <;> simp
@[simp] theorem consumeStd_link_received (s : State) : (s.consumeStd).link.received = s.link.received := by
  simp only [State.consumeStd] <;> (repeat' split) <;> simp
@[simp] theorem stdNotice_link_received (s : State) : (s.stdNotice).link.received = s.link.received := by
  simp only [State.stdNotice] <;> (repeat' split) <;> simp
@[simp] theorem stdCommit_link_received (s : State) : (s.stdCommit).link.received = s.link.received := by
  simp only [State.stdCommit] <;> (repeat' split) <;> simp
@[simp] theorem stdFail_link_received (s : State) : (s.stdFail).link.received = s.link.received := by
  simp only [State.stdFail] <;> (repeat' split) <;> simp
@[simp] theorem stdNoRecord_link_received (s : State) : (s.stdNoRecord).link.received = s.link.received := by
  simp only [State.stdNoRecord] <;> (repeat' split) <;> simp
@[simp] theorem abortRefOut_link_received (s : State) : (s.abortRefOut).link.received = s.link.received := by
  simp only [State.abortRefOut] <;> (repeat' split) <;> simp
@[simp] theorem stdAbort_link_received (s : State) : (s.stdAbort).link.received = s.link.received := by
  simp only [State.stdAbort] <;> (repeat' split) <;> simp
@[simp] theorem enterReference_link_received (s : State) : (s.enterReference).link.received = s.link.received := by
  simp only [State.enterReference] <;> (repeat' split) <;> simp
@[simp] theorem enterWithdraw_link_received (s : State) : (s.enterWithdraw).link.received = s.link.received := by
  simp only [State.enterWithdraw] <;> (repeat' split) <;> simp
@[simp] theorem zeroEnd_link_received (s : State) : (s.zeroEnd).link.received = s.link.received := by
  simp only [State.zeroEnd] <;> (repeat' split) <;> simp
@[simp] theorem referenceEnd_link_received (s : State) : (s.referenceEnd).link.received = s.link.received := by
  simp only [State.referenceEnd] <;> (repeat' split) <;> simp
@[simp] theorem collectionSlot_link_received (s : State) (raw : Option RawSample) : (s.collectionSlot raw).link.received = s.link.received := by
  simp only [State.collectionSlot] <;> (repeat' split) <;> simp
@[simp] theorem tileSeen_link_received (s : State) : (s.tileSeen).link.received = s.link.received := by
  simp only [State.tileSeen] <;> (repeat' split) <;> simp
@[simp] theorem tileExpired_link_received (s : State) : (s.tileExpired).link.received = s.link.received := by
  simp only [State.tileExpired] <;> (repeat' split) <;> simp
@[simp] theorem stuckTile_link_received (s : State) : (s.stuckTile).link.received = s.link.received := by
  simp only [State.stuckTile] <;> (repeat' split) <;> simp
@[simp] theorem toHead_link_received (s : State) (h : HeadState) : (s.toHead h).link.received = s.link.received := by
  simp only [State.toHead] <;> (repeat' split) <;> simp
@[simp] theorem headNotice_link_received (s : State) : (s.headNotice).link.received = s.link.received := by
  simp only [State.headNotice] <;> (repeat' split) <;> simp
@[simp] theorem grantTo_link_received (s : State) (g : Grant) : (s.grantTo g).link.received = s.link.received := by
  simp only [State.grantTo] <;> (repeat' split) <;> simp
@[simp] theorem driveOff_link_received (s : State) : (s.driveOff).link.received = s.link.received := by
  simp only [State.driveOff] <;> (repeat' split) <;> simp
@[simp] theorem drive_link_received (s : State) (d : Bool) (n : Nat) : (s.drive d n).link.received = s.link.received := by
  simp only [State.drive] <;> (repeat' split) <;> simp
@[simp] theorem startScan_link_received (s : State) (dir : ScanDir) (a : Bool) : (s.startScan dir a).link.received = s.link.received := by
  simp only [State.startScan] <;> (repeat' split) <;> simp
@[simp] theorem enterHead_link_received (s : State) (h : HeadState) (g : Grant) : (s.enterHead h g).link.received = s.link.received := by
  simp only [State.enterHead] <;> (repeat' split) <;> simp
@[simp] theorem arriveApproach_link_received (s : State) : (s.arriveApproach).link.received = s.link.received := by
  simp only [State.arriveApproach] <;> (repeat' split) <;> simp
@[simp] theorem arrivePoint_link_received (s : State) : (s.arrivePoint).link.received = s.link.received := by
  simp only [State.arrivePoint] <;> (repeat' split) <;> simp
@[simp] theorem faultStill_link_received (s : State) (c : FaultCause) : (s.faultStill c).link.received = s.link.received := by
  simp only [State.faultEntryWith, State.scanAbortWith, State.faultStill] <;> (repeat' split) <;> simp
@[simp] theorem beginApproach_link_received (s : State) (g : Grant) : (s.beginApproach g).link.received = s.link.received := by
  simp only [State.beginApproach] <;> (repeat' split) <;> simp
@[simp] theorem beginPositioning_link_received (s : State) (st : Station) (p : Nat) : (s.beginPositioning st p).link.received = s.link.received := by
  simp only [State.beginPositioning] <;> (repeat' split) <;> simp
@[simp] theorem stayParked_link_received (s : State) (g : Grant) : (s.stayParked g).link.received = s.link.received := by
  simp only [State.stayParked] <;> (repeat' split) <;> simp
@[simp] theorem decideParkedOther_link_received (s : State) (g : Grant) : (s.decideParkedOther g).link.received = s.link.received := by
  simp only [State.decideParkedOther] <;> (repeat' split) <;> simp
@[simp] theorem startStd_link_received (s : State) : (s.startStd).link.received = s.link.received := by
  simp only [State.startStd] <;> (repeat' split) <;> simp
@[simp] theorem decideParked_link_received (s : State) : (s.decideParked).link.received = s.link.received := by
  simp only [State.decideParked] <;> (repeat' split) <;> simp
@[simp] theorem redecideIfParked_link_received (s : State) : (s.redecideIfParked).link.received = s.link.received := by
  simp only [State.redecideIfParked] <;> (repeat' split) <;> simp
@[simp] theorem stdEnded_link_received (s : State) : (s.stdEnded).link.received = s.link.received := by
  simp only [State.stdEnded] <;> (repeat' split) <;> simp
@[simp] theorem arriveParked_link_received (s : State) : (s.arriveParked).link.received = s.link.received := by
  simp only [State.arriveParked] <;> (repeat' split) <;> simp
@[simp] theorem beginReturning_link_received (s : State) (g : Grant) : (s.beginReturning g).link.received = s.link.received := by
  simp only [State.beginReturning] <;> (repeat' split) <;> simp
@[simp] theorem stdAtCompletion_link_received (s : State) (dir : ScanDir) (a : Bool) : (s.stdAtCompletion dir a).link.received = s.link.received := by
  simp only [State.stdAtCompletion] <;> (repeat' split) <;> simp
@[simp] theorem scanAtCompletion_link_received (s : State) (dir : ScanDir) (a : Bool) : (s.scanAtCompletion dir a).link.received = s.link.received := by
  simp only [State.scanAtCompletion] <;> (repeat' split) <;> simp
@[simp] theorem decideCompletion_link_received (s : State) (dir : ScanDir) (a : Bool) : (s.decideCompletion dir a).link.received = s.link.received := by
  simp only [State.decideCompletion] <;> (repeat' split) <;> simp
@[simp] theorem decidePeriodEnd_link_received (s : State) : (s.decidePeriodEnd).link.received = s.link.received := by
  simp only [State.decidePeriodEnd] <;> (repeat' split) <;> simp
@[simp] theorem beginSearch_link_received (s : State) : (s.beginSearch).link.received = s.link.received := by
  simp only [State.beginSearch] <;> (repeat' split) <;> simp
@[simp] theorem homingBegun_link_received (s : State) : (s.homingBegun).link.received = s.link.received := by
  simp only [State.homingBegun] <;> (repeat' split) <;> simp
@[simp] theorem enterHoming_link_received (s : State) : (s.enterHoming).link.received = s.link.received := by
  simp only [State.enterHoming] <;> (repeat' split) <;> simp
@[simp] theorem indexFound_link_received (s : State) : (s.indexFound).link.received = s.link.received := by
  simp only [State.indexFound] <;> (repeat' split) <;> simp
@[simp] theorem scanAbortWith_link_received (act : State → State) (h : ∀ s, (act s).link.received = s.link.received) (s : State) : (s.scanAbortWith act).link.received = s.link.received := by
  simp only [State.scanAbortWith] <;> (repeat' split) <;> simp [h]
@[simp] theorem faultEntryWith_link_received (act : State → State) (c : FaultCause) (h : ∀ s, (act s).link.received = s.link.received) (s : State) : (s.faultEntryWith act c).link.received = s.link.received := by
  simp only [State.faultEntryWith] <;> (repeat' split) <;> simp [h]
@[simp] theorem claimTakesEffectWith_link_received (act : State → State) (h : ∀ s, (act s).link.received = s.link.received) (s : State) : (s.claimTakesEffectWith act).link.received = s.link.received := by
  simp only [State.claimTakesEffectWith] <;> (repeat' split) <;> simp [h]
@[simp] theorem breakNotice_link_received (s : State) : (s.breakNotice).link.received = s.link.received := by
  simp only [State.breakNotice] <;> (repeat' split) <;> simp
@[simp] theorem recoveringEntry_link_received (s : State) : (s.recoveringEntry).link.received = s.link.received := by
  simp only [State.recoveringEntry] <;> (repeat' split) <;> simp
@[simp] theorem threadingExpiry_link_received (s : State) : (s.threadingExpiry).link.received = s.link.received := by
  simp only [State.threadingExpiry] <;> (repeat' split) <;> simp
@[simp] theorem threadingEntry_link_received (s : State) : (s.threadingEntry).link.received = s.link.received := by
  simp only [State.threadingEntry] <;> (repeat' split) <;> simp
@[simp] theorem judgeThreading_link_received (s : State) : (s.judgeThreading).link.received = s.link.received := by
  simp only [State.judgeThreading] <;> (repeat' split) <;> simp
@[simp] theorem breakEntryWith_link_received (act : State → State) (x : Bool) (h : ∀ s, (act s).link.received = s.link.received) (s : State) : (s.breakEntryWith act x).link.received = s.link.received := by
  simp only [State.breakEntryWith] <;> (repeat' split) <;> simp [h]
@[simp] theorem addCauses_link_received (s : State) (t : PerDetector Bool) : (s.addCauses t).link.received = s.link.received := by
  simp only [State.addCauses] <;> (repeat' split) <;> simp
@[simp] theorem judgeDetectorsWith_link_received (entry : State → State) (t c : PerDetector Bool) (h : ∀ s, (entry s).link.received = s.link.received) (s : State) : (s.judgeDetectorsWith entry t c).link.received = s.link.received := by
  simp only [State.judgeDetectorsWith] <;> (repeat' split) <;> simp [h]
@[simp] theorem judgeActivationWith_link_received (entry : State → State) (t c : PerDetector Bool) (h : ∀ s, (entry s).link.received = s.link.received) (s : State) : (s.judgeActivationWith entry t c).link.received = s.link.received := by
  simp only [State.judgeActivationWith] <;> (repeat' split) <;> simp [h]
@[simp] theorem judgeInEntry_link_received (s : State) (t c : PerDetector Bool) : (s.judgeInEntry t c).link.received = s.link.received := by
  simp only [State.judgeInEntry] <;> (repeat' split) <;> simp
@[simp] theorem clearLimits_link_received (s : State) : (s.clearLimits).link.received = s.link.received := by
  simp only [State.clearLimits] <;> (repeat' split) <;> simp
@[simp] theorem recipeNotice_link_received (s : State) (c : RecipeCause) : (s.recipeNotice c).link.received = s.link.received := by
  simp only [State.recipeNotice] <;> (repeat' split) <;> simp
@[simp] theorem reaim_link_received (s : State) : (s.reaim).link.received = s.link.received := by
  simp only [State.reaim] <;> (repeat' split) <;> simp
@[simp] theorem activateWith_link_received (judge : PerDetector Bool → PerDetector Bool → State → State) (i : SlotNo) (h : ∀ a b s, (judge a b s).link.received = s.link.received) (s : State) : (s.activateWith judge i).link.received = s.link.received := by
  simp only [State.activateWith] <;> (repeat' split) <;> simp [h]
@[simp] theorem activate_link_received (s : State) (i : SlotNo) : (s.activate i).link.received = s.link.received :=
  activateWith_link_received _ i (fun t c s => judgeActivationWith_link_received _ t c (breakEntryWith_link_received id false (fun _ => rfl)) s) s
@[simp] theorem activatePending_link_received (s : State) : (s.activatePending).link.received = s.link.received := by
  simp only [State.activatePending] <;> (repeat' split) <;> simp
@[simp] theorem activateInEntry_link_received (s : State) : (s.activateInEntry).link.received = s.link.received := by
  simp only [State.activateInEntry] <;> (repeat' split) <;> simp
@[simp] theorem breakEntry_link_received (s : State) (x : Bool) : (s.breakEntry x).link.received = s.link.received := by
  simp only [State.breakEntry] <;> (repeat' split) <;> simp
@[simp] theorem faultEntry_link_received (s : State) (c : FaultCause) : (s.faultEntry c).link.received = s.link.received := by
  simp only [State.faultEntry] <;> (repeat' split) <;> simp
@[simp] theorem parkTakesEffect_link_received (s : State) : (s.parkTakesEffect).link.received = s.link.received := by
  simp only [State.parkTakesEffect] <;> (repeat' split) <;> simp
@[simp] theorem judgeDetectors_link_received (s : State) (t c : PerDetector Bool) : (s.judgeDetectors t c).link.received = s.link.received := by
  simp only [State.judgeDetectors] <;> (repeat' split) <;> simp
@[simp] theorem faultUnlessFaulted_link_received (s : State) (c : FaultCause) : (s.faultUnlessFaulted c).link.received = s.link.received := by
  simp only [State.faultUnlessFaulted] <;> (repeat' split) <;> simp
@[simp] theorem completeEdges_link_received (s : State) (e : Option Edges) : (s.completeEdges e).link.received = s.link.received := by
  simp only [State.completeEdges] <;> (repeat' split) <;> simp
@[simp] theorem closeFilling_link_received (s : State) : (s.closeFilling).link.received = s.link.received := by
  simp only [State.closeFilling] <;> (repeat' split) <;> simp
@[simp] theorem completeRecord_link_received (s : State) (dir : ScanDir) : (s.completeRecord dir).link.received = s.link.received := by
  simp only [State.completeRecord] <;> (repeat' split) <;> simp
@[simp] theorem completeStd_link_received (s : State) : (s.completeStd).link.received = s.link.received := by
  simp only [State.completeStd] <;> (repeat' split) <;> simp
@[simp] theorem completeRecovery_link_received (s : State) : (s.completeRecovery).link.received = s.link.received := by
  simp only [State.completeRecovery] <;> (repeat' split) <;> simp
@[simp] theorem evaluateLimits_link_received (s : State) (r : ScanRecord) : (s.evaluateLimits r).link.received = s.link.received := by
  simp only [State.evaluateLimits] <;> (repeat' split) <;> simp
@[simp] theorem reportHoles_link_received (s : State) (src : ReportSource) : (s.reportHoles src).link.received = s.link.received := by
  simp only [State.reportHoles] <;> (repeat' split) <;> simp
@[simp] theorem completeHoles_link_received (s : State) : (s.completeHoles).link.received = s.link.received := by
  simp only [State.completeHoles] <;> (repeat' split) <;> simp
@[simp] theorem completeLimits_link_received (s : State) : (s.completeLimits).link.received = s.link.received := by
  simp only [State.completeLimits] <;> (repeat' split) <;> simp
@[simp] theorem completeScan_link_received (s : State) (dir : ScanDir) : (s.completeScan dir).link.received = s.link.received := by
  simp only [State.completeScan] <;> (repeat' split) <;> simp
@[simp] theorem handOn_link_received (s : State) (x : Sample) : (s.handOn x).link.received = s.link.received := by
  simp only [State.handOn] <;> (repeat' split) <;> simp
@[simp] theorem absentWindowEnd_link_received (s : State) : (s.absentWindowEnd).link.received = s.link.received := by
  simp only [State.absentWindowEnd] <;> (repeat' split) <;> simp
@[simp] theorem withdrawEnd_link_received (s : State) : (s.withdrawEnd).link.received = s.link.received := by
  simp only [State.withdrawEnd] <;> (repeat' split) <;> simp
@[simp] theorem stdSlot_link_received (s : State) (raw : Option RawSample) : (s.stdSlot raw).link.received = s.link.received := by
  simp only [State.stdSlot] <;> (repeat' split) <;> simp
@[simp] theorem linkLost_link_received (s : State) : (s.linkLost).link.received = s.link.received := by
  simp only [State.linkLost] <;> (repeat' split) <;> simp
@[simp] theorem pointPeriodEnd_link_received (s : State) : (s.pointPeriodEnd).link.received = s.link.received := by
  simp only [State.pointPeriodEnd] <;> (repeat' split) <;> simp
@[simp] theorem takeSample_link_received (s : State) (t : Option SampleTelegram) : (s.takeSample t).link.received = s.link.received := by
  simp only [State.takeSample] <;> (repeat' split) <;> simp
@[simp] theorem rejudgeAtSpeed_link_received (s : State) : (s.rejudgeAtSpeed).link.received = s.link.received := by
  simp only [State.rejudgeAtSpeed] <;> (repeat' split) <;> simp
@[simp] theorem gateEnd_link_received (s : State) : (s.gateEnd).link.received = s.link.received := by
  simp only [State.gateEnd] <;> (repeat' split) <;> simp
@[simp] theorem lossExpiry_link_received (s : State) : (s.lossExpiry).link.received = s.link.received := by
  simp only [State.lossExpiry] <;> (repeat' split) <;> simp
@[simp] theorem debounceExpiry_link_received (s : State) (d : Detector) : (s.debounceExpiry d).link.received = s.link.received := by
  simp only [State.debounceExpiry] <;> (repeat' split) <;> simp
@[simp] theorem levelChange_link_received (s : State) (d : Detector) (h : Bool) : (s.levelChange d h).link.received = s.link.received := by
  simp only [State.levelChange] <;> (repeat' split) <;> simp
@[simp] theorem serveStatus_link_received (s : State) (st : Station) (tag : Byte) : (s.serveStatus st tag).link.received = s.link.received := by
  simp only [State.serveStatus] <;> (repeat' split) <;> simp
@[simp] theorem answer_link_received (s : State) (st : Station) (k : RequestKind) (tag : Byte) (c : Status) : (s.answer st k tag c).link.received = s.link.received := by
  simp only [State.answer] <;> (repeat' split) <;> simp
@[simp] theorem serveFound_link_received (s : State) (st : Station) (tag : Byte) (q : ScanQuery) (i : Option Nat) : (s.serveFound st tag q i).link.received = s.link.received := by
  simp only [State.serveFound] <;> (repeat' split) <;> simp
@[simp] theorem makePending_link_received (s : State) (st : Station) (tag : Byte) (q : ScanQuery) (m : BitVec 16) (wait : Nat) : (s.makePending st tag q m wait).link.received = s.link.received := by
  simp only [State.makePending] <;> (repeat' split) <;> simp
@[simp] theorem serveMinimum_link_received (s : State) (st : Station) (tag : Byte) (q : ScanQuery) (m : BitVec 16) (wait : Nat) : (s.serveMinimum st tag q m wait).link.received = s.link.received := by
  simp only [State.serveMinimum] <;> (repeat' split) <;> simp
@[simp] theorem serveReadScan_link_received (s : State) (st : Station) (tag : Byte) (p : List Byte) : (s.serveReadScan st tag p).link.received = s.link.received := by
  simp only [State.serveReadScan] <;> (repeat' split) <;> simp
@[simp] theorem serveReadTrend_link_received (s : State) (st : Station) (tag : Byte) : (s.serveReadTrend st tag).link.received = s.link.received := by
  simp only [State.serveReadTrend] <;> (repeat' split) <;> simp
@[simp] theorem serveReadPoints_link_received (s : State) (st : Station) (tag : Byte) (p : List Byte) : (s.serveReadPoints st tag p).link.received = s.link.received := by
  simp only [State.serveReadPoints] <;> (repeat' split) <;> simp
@[simp] theorem serveReadStandardization_link_received (s : State) (st : Station) (tag : Byte) : (s.serveReadStandardization st tag).link.received = s.link.received := by
  simp only [State.serveReadStandardization] <;> (repeat' split) <;> simp
@[simp] theorem serveCancel_link_received (s : State) (st : Station) (tag : Byte) : (s.serveCancel st tag).link.received = s.link.received := by
  simp only [State.serveCancel] <;> (repeat' split) <;> simp
@[simp] theorem setSlot_link_received (s : State) (st : Station) (m : ModeSlot) : (s.setSlot st m).link.received = s.link.received := by
  simp only [State.setSlot] <;> (repeat' split) <;> simp
@[simp] theorem modeReply_link_received (s : State) (st : Station) (tag : Byte) (c : Status) : (s.modeReply st tag c).link.received = s.link.received := by
  simp only [State.modeReply] <;> (repeat' split) <;> simp
@[simp] theorem modeRelease_link_received (s : State) (st : Station) (tag : Byte) : (s.modeRelease st tag).link.received = s.link.received := by
  simp only [State.modeRelease] <;> (repeat' split) <;> simp
@[simp] theorem modePark_link_received (s : State) (st : Station) (tag : Byte) : (s.modePark st tag).link.received = s.link.received := by
  simp only [State.modePark] <;> (repeat' split) <;> simp
@[simp] theorem modeStandardize_link_received (s : State) (st : Station) (tag : Byte) : (s.modeStandardize st tag).link.received = s.link.received := by
  simp only [State.modeStandardize] <;> (repeat' split) <;> simp
@[simp] theorem modePoint_link_received (s : State) (st : Station) (tag : Byte) (pos : Nat) : (s.modePoint st tag pos).link.received = s.link.received := by
  simp only [State.modePoint] <;> (repeat' split) <;> simp
@[simp] theorem serveMode_link_received (s : State) (st : Station) (tag : Byte) (p : List Byte) : (s.serveMode st tag p).link.received = s.link.received := by
  simp only [State.serveMode] <;> (repeat' split) <;> simp
@[simp] theorem serveClearFault_link_received (s : State) (st : Station) (tag : Byte) : (s.serveClearFault st tag).link.received = s.link.received := by
  simp only [State.serveClearFault] <;> (repeat' split) <;> simp
@[simp] theorem serveResume_link_received (s : State) (st : Station) (tag : Byte) : (s.serveResume st tag).link.received = s.link.received := by
  simp only [State.serveResume] <;> (repeat' split) <;> simp
@[simp] theorem takeCountReply_link_received (s : State) (st : Station) (tag : Byte) (m : HoleMode) : (s.takeCountReply st tag m).link.received = s.link.received := by
  simp only [State.takeCountReply] <;> (repeat' split) <;> simp
@[simp] theorem serveTakeCount_link_received (s : State) (st : Station) (tag : Byte) : (s.serveTakeCount st tag).link.received = s.link.received := by
  simp only [State.serveTakeCount] <;> (repeat' split) <;> simp
@[simp] theorem serveRestart_link_received (s : State) (st : Station) (tag : Byte) : (s.serveRestart st tag).link.received = s.link.received := by
  simp only [State.serveRestart] <;> (repeat' split) <;> simp
@[simp] theorem writeRecipe_link_received (s : State) (st : Station) (tag : Byte) (p : List Byte) (i : SlotNo) (g : Group) : (s.writeRecipe st tag p i g).link.received = s.link.received := by
  simp only [State.writeRecipe] <;> (repeat' split) <;> simp
@[simp] theorem serveRecipeWrite_link_received (s : State) (st : Station) (tag : Byte) (p : List Byte) : (s.serveRecipeWrite st tag p).link.received = s.link.received := by
  simp only [State.serveRecipeWrite] <;> (repeat' split) <;> simp
@[simp] theorem serveRecipeRead_link_received (s : State) (st : Station) (tag : Byte) (p : List Byte) : (s.serveRecipeRead st tag p).link.received = s.link.received := by
  simp only [State.serveRecipeRead] <;> (repeat' split) <;> simp
@[simp] theorem validateSlot_link_received (s : State) (st : Station) (tag : Byte) (i : SlotNo) : (s.validateSlot st tag i).link.received = s.link.received := by
  simp only [State.validateSlot] <;> (repeat' split) <;> simp
@[simp] theorem serveValidate_link_received (s : State) (st : Station) (tag : Byte) (p : List Byte) : (s.serveValidate st tag p).link.received = s.link.received := by
  simp only [State.serveValidate] <;> (repeat' split) <;> simp
@[simp] theorem selectReply_link_received (s : State) (st : Station) (tag : Byte) (t : Timing) : (s.selectReply st tag t).link.received = s.link.received := by
  simp only [State.selectReply] <;> (repeat' split) <;> simp
@[simp] theorem selectSlot_link_received (s : State) (st : Station) (tag : Byte) (i : SlotNo) : (s.selectSlot st tag i).link.received = s.link.received := by
  simp only [State.selectSlot] <;> (repeat' split) <;> simp
@[simp] theorem serveSelect_link_received (s : State) (st : Station) (tag : Byte) (p : List Byte) : (s.serveSelect st tag p).link.received = s.link.received := by
  simp only [State.serveSelect] <;> (repeat' split) <;> simp
@[simp] theorem handMachine_link_received (s : State) (old : MachineRecord) : (s.handMachine old).link.received = s.link.received := by
  simp only [State.handMachine] <;> (repeat' split) <;> simp
@[simp] theorem machineReply_link_received (s : State) (st : Station) (k : RequestKind) (tag : Byte) (c : Status) : (s.machineReply st k tag c).link.received = s.link.received := by
  simp only [State.machineReply] <;> (repeat' split) <;> simp
@[simp] theorem acceptMachine_link_received (s : State) (st : Station) (tag : Byte) (c : Status) (m : MachineRecord) : (s.acceptMachine st tag c m).link.received = s.link.received := by
  simp only [State.acceptMachine] <;> (repeat' split) <;> simp
@[simp] theorem judgeMachine_link_received (s : State) (st : Station) (tag : Byte) (m : MachineRecord) : (s.judgeMachine st tag m).link.received = s.link.received := by
  simp only [State.judgeMachine] <;> (repeat' split) <;> simp
@[simp] theorem serveMachineWrite_link_received (s : State) (st : Station) (tag : Byte) (p : List Byte) : (s.serveMachineWrite st tag p).link.received = s.link.received := by
  simp only [State.serveMachineWrite] <;> (repeat' split) <;> simp
@[simp] theorem serveMachineRead_link_received (s : State) (st : Station) (tag : Byte) : (s.serveMachineRead st tag).link.received = s.link.received := by
  simp only [State.serveMachineRead] <;> (repeat' split) <;> simp
@[simp] theorem serveSubscribe_link_received (s : State) (st : Station) (tag : Byte) (p : List Byte) : (s.serveSubscribe st tag p).link.received = s.link.received := by
  simp only [State.serveSubscribe] <;> (repeat' split) <;> simp
@[simp] theorem serve_link_received (s : State) (k : RequestKind) (st : Station) (tag : Byte) (p : List Byte) : (s.serve k st tag p).link.received = s.link.received := by
  simp only [State.serve] <;> (repeat' split) <;> simp
@[simp] theorem judgeKnown_link_received (s : State) (k : RequestKind) (st : Station) (tag : Byte) (p : List Byte) : (s.judgeKnown k st tag p).link.received = s.link.received := by
  simp only [State.judgeKnown] <;> (repeat' split) <;> simp
@[simp] theorem answerUnknown_link_received (s : State) (st : Station) (tag : Byte) : (s.answerUnknown st tag).link.received = s.link.received := by
  simp only [State.answerUnknown] <;> (repeat' split) <;> simp
@[simp] theorem judgeKind_link_received (s : State) (st : Station) (kind tag : Byte) (p : List Byte) : (s.judgeKind st kind tag p).link.received = s.link.received := by
  simp only [State.judgeKind] <;> (repeat' split) <;> simp
@[simp] theorem telegram_link_received (s : State) (st : Station) (kind tag : Byte) (p : List Byte) : (s.telegram st kind tag p).link.received = s.link.received := by
  simp only [State.telegram] <;> (repeat' split) <;> simp
@[simp] theorem telegramArrival_link_received (s : State) (st : Station) (k t : Byte) (p : List Byte) : (s.telegramArrival st k t p).link.received = s.link.received := by
  simp only [State.telegramArrival] <;> (repeat' split) <;> simp
@[simp] theorem storeChar_link_received (s : State) (st : Station) (cs : List Byte) (b : Byte) : (s.storeChar st cs b).link.received = s.link.received := by
  simp only [State.storeChar] <;> (repeat' split) <;> simp
@[simp] theorem takeChar_link_received (s : State) (st : Station) (c : Character) : (s.takeChar st c).link.received = s.link.received := by
  simp only [State.dropTelegram, State.takeChar] <;> (repeat' split) <;> simp
@[simp] theorem takeLine_link_received (s : State) (st : Station) (e : LineEvent) : (s.takeLine st e).link.received = s.link.received := by
  cases e <;> simp [State.takeLine]
@[simp] theorem absence_link_received (s : State) (st : Station) : (s.absence st).link.received = s.link.received := by
  simp only [State.absence] <;> (repeat' split) <;> simp
@[simp] theorem transmitted_link_received (s : State) (st : Station) : (s.transmitted st).link.received = s.link.received := by
  simp only [State.transmitted] <;> (repeat' split) <;> simp
@[simp] theorem arrival_link_received (s : State) : (s.arrival).link.received = s.link.received := by
  simp only [State.arrival] <;> (repeat' split) <;> simp

end

end Sys2Proof.Machine
end

