-- ==== Sys2Proof/Laws/Ports.lean ====
section
/-! SUPPORT. What the operations on the ports do to one port, and the transmitters' choice. -/

namespace Sys2Proof.Machine

open Sys2Proof

@[simp] theorem State.onPort_get (s : State) (st : Station) (f : Port → Port) :
    (s.onPort st f).ports.get st = f (s.ports.get st) := by
  simp [State.onPort]

theorem State.onPort_get_ne (s : State) {st j : Station} (f : Port → Port) (h : j ≠ st) :
    (s.onPort st f).ports.get j = s.ports.get j := by
  simp [State.onPort, Four.get_set_ne _ _ h]

@[simp] theorem State.onPorts_get (s : State) (f : Port → Port) (st : Station) :
    (s.onPorts f).ports.get st = f (s.ports.get st) := by
  simp [State.onPorts]

/-- Two changes of one port are one change. -/
@[simp] theorem State.onPort_onPort (s : State) (st : Station) (f g : Port → Port) :
    (s.onPort st f).onPort st g = s.onPort st (fun p => g (f p)) := by
  simp [State.onPort, State.setPorts]

@[simp] theorem State.offer_get (s : State) (n : Notice) (st : Station) :
    (s.offer n).ports.get st = Port.offer n (s.ports.get st) := by
  simp [State.offer]

@[simp] theorem State.settle_get (s : State) (st : Station) :
    s.settle.ports.get st = Port.choose (s.ports.get st) := by
  simp [State.settle]

theorem State.reply_eq (s : State) (st : Station) (k : RequestKind) (tag : Byte) (b : ReplyBody) :
    s.reply st k tag b = s.onPort st (fun p => p.queueReply ⟨some k, tag, b⟩) := rfl

/-- Choosing twice is choosing once. -/
@[simp] theorem Port.choose_choose (p : Port) : p.choose.choose = p.choose := by
  cases p with
  | mk rx gap present timer pend replies dropped tx sub notices =>
    cases tx <;> cases replies <;> cases notices <;> rfl

@[simp] theorem State.settle_settle (s : State) : s.settle.settle = s.settle := by
  simp [State.settle, State.onPorts, State.setPorts]

/-- The queues, the subscription and the request a choice leaves are those it found. -/
theorem Port.choose_kept (p : Port) :
    p.choose.replies = p.replies ∧ p.choose.notices = p.notices ∧ p.choose.pending = p.pending
      ∧ p.choose.present = p.present ∧ p.choose.sub = p.sub ∧ p.choose.rx = p.rx := by
  cases p with
  | mk rx gap present timer pend replies dropped tx sub notices =>
    cases tx <;> cases replies <;> cases notices <;> simp [Port.choose]

/-- A notice changes nothing of a port but its notice queue. -/
theorem Port.offer_kept (n : Notice) (p : Port) :
    (Port.offer n p).replies = p.replies ∧ (Port.offer n p).pending = p.pending ∧ (Port.offer n p).tx = p.tx
      ∧ (Port.offer n p).present = p.present ∧ (Port.offer n p).sub = p.sub ∧ (Port.offer n p).rx = p.rx := by
  simp only [Port.offer]
  split
  · simp only [Port.enqueue]; split <;> (try split) <;> simp
  · simp

/-- The bytes of a telegram that is sent are its bytes (R175, R176). -/
@[simp] theorem sentCharacters_data (bytes : List Byte) : (sentCharacters bytes).map (fun c => c.data) = bytes := by
  cases bytes <;> simp [sentCharacters, Function.comp_def]

/-- A character that is sent has its stop bit, and its mark bit is set exactly if it is the first (R175). -/
theorem sentCharacters_mark (bytes : List Byte) (k : Nat) (c : Character) (h : (sentCharacters bytes)[k]? = some c) :
    c.framingError = false ∧ (c.mark = true ↔ k = 0) := by
  cases bytes with
  | nil => simp [sentCharacters] at h
  | cons b rest =>
    cases k with
    | zero => simp [sentCharacters] at h; subst h; simp
    | succ k =>
      simp [sentCharacters] at h
      obtain ⟨x, -, rfl⟩ := h
      simp

/-- A start bit stops the gap timer of its port and changes nothing else (R178). -/
theorem State.startBit_eq (s : State) (st : Station) :
    s.startBit st = s.onPort st (fun p => { p with gapTimer := .stopped }) := rfl

/-- Every command answers a next state, by the two ways a meaning ends. -/
theorem State.done_eq (s : State) : s.done = .next s.settle := rfl

end Sys2Proof.Machine
end

