-- ==== Sys2Proof/Laws/Requests.lean ====
section
/-! SUPPORT. How a request reaches its owner: what State.request does in each case of R182. -/

namespace Sys2Proof.Machine

open Sys2Proof Sys2Proof.Safety

theorem Port.hear_hunt (p : Port) : Port.hear (Port.hunt p) = heardPort p := rfl

theorem RequestKind.ofCode_code (k : RequestKind) : RequestKind.ofCode (byte1 k.code) = some k := by
  cases k <;> rfl

/-- A reply after a good telegram is a reply in the state after it. -/
theorem answered_eq (s : State) (st : Station) (k : RequestKind) (tag : Byte) (b : ReplyBody) :
    answered s st k tag b = (heard s st).reply st k tag b := by
  simp only [answered, heard, State.reply, State.onPort_onPort]
  rfl

/-- A telegram that fits is judged in the state after it. -/
theorem State.telegramArrival_eq (s : State) (st : Station) (kind tag : Byte) (p : List Byte) (hp : p.length ≤ 1100) :
    s.telegramArrival st kind tag p =
      if (heardPort (s.ports.get st)).hasRoom then (heard s st).judgeKind st kind tag p
      else s.onPort st (fun q => { heardPort q with dropped := true }) := by
  have h : (s.onPort st Port.hunt).onPort st Port.hear = heard s st := by
    rw [State.onPort_onPort]; rfl
  simp only [State.telegramArrival, Config.maxPayload, hp, if_true, State.telegram, h]
  have h2 : (heard s st).ports.get st = heardPort (s.ports.get st) := by simp [heard]
  rw [h2]
  split
  · rfl
  · simp only [heard, State.onPort_onPort]

/-- A request from a ready station, of the right length, is served by its owner. -/
theorem State.request_ready (k : RequestKind) (s : State) (st : Station) (tag : Byte) (p : List Byte)
    (hr : Ready s st) (hp : p.length ≤ 1100) (hl : lengthOk k p = true) :
    s.request k st tag p = .next ((heard s st).serve k st tag p).settle := by
  have h2 : (heardPort (s.ports.get st)).hasRoom = true := by
    obtain ⟨a, b⟩ := hr
    simp [Port.hasRoom, heardPort, Port.count, b, Config.replyRoom]; omega
  have h3 : ((heard s st).ports.get st).pending = none := by
    have : (heard s st).ports.get st = heardPort (s.ports.get st) := by simp [heard]
    rw [this]; exact hr.2
  simp [State.request, State.telegramArrival_eq s st _ tag p hp, h2, State.judgeKind, RequestKind.ofCode_code,
    State.judgeKnown, hl, h3, State.done]

/-- A request that finds the reply queue full is discarded and flagged (R184). -/
theorem State.request_full (k : RequestKind) (s : State) (st : Station) (tag : Byte) (p : List Byte)
    (hp : p.length ≤ 1100) (hc : 4 ≤ (s.ports.get st).count) :
    s.request k st tag p = .next (s.onPort st (fun q => { heardPort q with dropped := true })).settle := by
  have h2 : (heardPort (s.ports.get st)).hasRoom = false := by
    have : (heardPort (s.ports.get st)).count = (s.ports.get st).count := rfl
    simp [Port.hasRoom, this, Config.replyRoom]; omega
  simp [State.request, State.telegramArrival_eq s st _ tag p hp, h2, State.done]

end Sys2Proof.Machine
end

