-- ==== Sys2Proof/Laws/Slots.lean ====
section
/-! SUPPORT. What a declared slot does to the head link receiver, and the declaration of a slot that is not the 64th
of its window. -/

namespace Sys2Proof.Machine

open Sys2Proof

theorem State.linkWindowEnd_of_lt {s : State} (h : s.link.slotCount < 64) : s.linkWindowEnd = s := by
  have h' : ¬Config.windowSlots ≤ s.link.slotCount := by simp only [Config.windowSlots]; omega
  simp [State.linkWindowEnd, h']

@[simp] theorem HeadLink.firstArrival_received (l : HeadLink) : l.firstArrival.received = l.received := by
  simp only [HeadLink.firstArrival]; split <;> simp

theorem HeadLink.declare_slotCount (l : HeadLink) (d : SlotDecl) : (l.declare d).slotCount = l.slotCount + 1 := by
  cases d with
  | arrival t =>
    have h := HeadLink.received_eq (HeadLink.firstArrival_received l)
    simp [HeadLink.declare, HeadLink.arrive, h]
  | missing => rfl

/-- A slot that is not the 64th of its window: the sample, the standardization unit, the period's end. -/
theorem State.declareSlot_plain {s : State} (d : SlotDecl) (h : s.link.slotCount < 63) :
    s.declareSlot d =
      (((s.setLink (s.link.declare d)).periodSlot.takeSample (s.link.acceptedOf d)).stdSlot
        ((s.link.acceptedOf d).map sampleRaw)).pointPeriodEnd := by
  simp only [State.declareSlot]
  rw [State.linkWindowEnd_of_lt]
  have e : (((s.setLink (s.link.declare d)).periodSlot.takeSample (s.link.acceptedOf d)).stdSlot
      ((s.link.acceptedOf d).map sampleRaw)).link.received = (s.link.declare d).received := by simp
  rw [(HeadLink.received_eq e).2.2.2.2.1, HeadLink.declare_slotCount]; omega

/-- What the receiver holds after such a slot is what the declaration makes of it. -/
theorem State.declareSlot_received {s : State} (d : SlotDecl) (h : s.link.slotCount < 63) :
    (s.declareSlot d).link.received = (s.link.declare d).received := by
  rw [State.declareSlot_plain d h]; simp

/-- An idle standardization unit takes nothing from a slot. -/
theorem State.stdSlot_idle {s : State} (raw : Option RawSample) (h : s.std.phase = .idle) : s.stdSlot raw = s := by
  simp [State.stdSlot, h]

end Sys2Proof.Machine
end

