-- ==== Sys2Proof/Laws/Wire.lean ====
section
/-! SUPPORT. The fields of a telegram as `wire` lays them out, against the byte forms of the operands (R196). -/

namespace Sys2Proof.Safety

open Sys2Proof Sys2Proof.Machine

@[simp] theorem wire_nil : wire [] = [] := rfl

theorem wire_cons (f : Nat × Int) (l : List (Nat × Int)) : wire (f :: l) = wire [f] ++ wire l := by
  simp [wire]

@[simp] theorem wire_append (l m : List (Nat × Int)) : wire (l ++ m) = wire l ++ wire m := by
  simp [wire]

/-- The low byte of an integer depends on the integer modulo 256 alone. -/
theorem ofInt_eq_of_emod {x y : Int} (h : x % 256 = y % 256) : BitVec.ofInt 8 x = BitVec.ofInt 8 y := by
  apply BitVec.eq_of_toNat_eq
  simp only [BitVec.toNat_ofInt]
  have : ((2 ^ 8 : Nat) : Int) = 256 := rfl
  rw [this, h]

@[simp] theorem wire_w8 (n : Nat) : wire [w8 n] = [byte1 n] := by
  simp [wire, w8, byte1, List.range_succ]

@[simp] theorem wire_w16 (n : Nat) : wire [w16 n] = le16 n := by
  simp [wire, w16, le16, List.range_succ]
  rfl

@[simp] theorem wire_w32 (n : Nat) : wire [w32 n] = le32 n := by
  simp [wire, w32, le32, List.range_succ]
  refine ⟨?_, ?_, ?_⟩ <;> rfl

/-- A signed field in two's complement. -/
theorem wire_w16_int (x : Int) : wire [w16 x] = leInt16 x := by
  simp only [leInt16, ← wire_w16]
  simp only [wire, w16, List.range_succ, List.flatMap_cons]
  simp
  constructor
  · apply ofInt_eq_of_emod; omega
  · apply ofInt_eq_of_emod; omega

@[simp] theorem wire_orVoid (v : Val) : wire [w16 (orVoid v)] = leVal v := wire_w16_int _

/-- A field of a literal value. -/
@[simp] theorem wire_w8_zero : wire [w8 0] = [0] := rfl

@[simp] theorem wire_w8_one : wire [w8 1] = [1] := rfl

@[simp] theorem wire_w16_zero : wire [w16 0] = [0, 0] := rfl

/-- The fields of a list's items, one after another. -/
theorem wire_flatMap {α : Type} (f : α → List (Nat × Int)) (l : List α) :
    wire (l.flatMap f) = l.flatMap (fun x => wire (f x)) := by
  induction l <;> simp_all

@[simp] theorem wire_bit (b : Bool) : wire [w8 (bit b)] = [flagByte b] := by cases b <;> rfl

end Sys2Proof.Safety
end

