-- ==== Sys2Proof/WellFormed.lean ====
section
/-! DEFINITION. Which commands can come about on the links at all. -/

namespace Sys2Proof

/-- The kind code of a request lies in 0x01..0x12 (12.1). -/
def isRequestKindCode (kind : Byte) : Bool := decide (1 ≤ kind.toNat) && decide (kind.toNat ≤ 0x12)

/-- A telegram whose payload is longer than 1100 bytes never arrives (R177). -/
def payloadFits (payload : List Byte) : Bool := decide (payload.length ≤ Config.maxPayload)

/-- The payload bytes a station telegram command carries. -/
def Instr.payload? : Instr → Option (List Byte)
  | .unknownKind _ _ _ p => some p
  | .status _ _ p => some p
  | .readScan _ _ p => some p
  | .readTrend _ _ p => some p
  | .readPoints _ _ p => some p
  | .readStandardization _ _ p => some p
  | .cancel _ _ p => some p
  | .mode _ _ p => some p
  | .clearFault _ _ p => some p
  | .resume _ _ p => some p
  | .takeCount _ _ p => some p
  | .restartProfiles _ _ p => some p
  | .recipeWrite _ _ p => some p
  | .recipeRead _ _ p => some p
  | .validate _ _ p => some p
  | .select _ _ p => some p
  | .machineWrite _ _ p => some p
  | .machineRead _ _ p => some p
  | .subscribe _ _ p => some p
  | .deviceReset => none
  | .sampleTelegramArrival _ => none
  | .missingSlot => none
  | .windowEnd _ => none
  | .headCommandSent => none
  | .stdSlotLimit _ => none
  | .tileTimerExpiry => none
  | .withdrawTimerExpiry => none
  | .encoderCount _ => none
  | .indexPulse => none
  | .drvRdyLow => none
  | .drvRdyHigh => none
  | .encoderLossTimerExpiry => none
  | .overtravel _ _ => none
  | .homingTimerExpiry => none
  | .pointPeriodEnd _ => none
  | .waitTimerExpiry _ => none
  | .tachPulse => none
  | .speedGateEnd => none
  | .lossTimerExpiry => none
  | .detectorLevelChange _ _ => none
  | .debounceExpiry _ => none
  | .absentWindowEnd _ => none
  | .threadingTimerExpiry => none
  | .gapTimerExpiry _ => none
  | .telegramDropped _ => none
  | .presenceTimerExpiry _ => none
  | .lastCharacterSent _ => none
  | .stationCharacterTaken _ _ => none
  | .headLinkCharacter _ => none

/-- The kind that UNKNOWN_KIND brings is no request kind (R182, step 2). -/
def Instr.kindFits : Instr → Bool
  | .unknownKind _ kind _ _ => !isRequestKindCode kind
  | .status _ _ _ | .readScan _ _ _ | .readTrend _ _ _ | .readPoints _ _ _
  | .readStandardization _ _ _ | .cancel _ _ _ | .mode _ _ _ | .clearFault _ _ _
  | .resume _ _ _ | .takeCount _ _ _ | .restartProfiles _ _ _ | .recipeWrite _ _ _
  | .recipeRead _ _ _ | .validate _ _ _ | .select _ _ _ | .machineWrite _ _ _
  | .machineRead _ _ _ | .subscribe _ _ _ | .deviceReset | .sampleTelegramArrival _
  | .missingSlot | .windowEnd _ | .headCommandSent | .stdSlotLimit _ | .tileTimerExpiry
  | .withdrawTimerExpiry | .encoderCount _ | .indexPulse | .drvRdyLow | .drvRdyHigh
  | .encoderLossTimerExpiry | .overtravel _ _ | .homingTimerExpiry | .pointPeriodEnd _
  | .waitTimerExpiry _ | .tachPulse | .speedGateEnd | .lossTimerExpiry
  | .detectorLevelChange _ _ | .debounceExpiry _ | .absentWindowEnd _ | .threadingTimerExpiry
  | .gapTimerExpiry _ | .telegramDropped _ | .presenceTimerExpiry _ | .lastCharacterSent _
  | .stationCharacterTaken _ _ | .headLinkCharacter _ => true

/-- A command is well formed when its payload fits a telegram and its kind fits its row. -/
def Instr.wellFormed (i : Instr) : Bool :=
  (match i.payload? with
   | some p => payloadFits p
   | none => true) && i.kindFits

end Sys2Proof
end

