-- ==== Sys2Proof/Tests/Slice0.lean ====
section
/-! SUPPORT. The model's own tests: ill-formed commands refused, worked values of the manual, one small step for
commands of each family, and for each statement a state and operands that meet its hypotheses. -/

namespace Sys2Proof.Tests

open Sys2Proof Sys2Proof.Machine Sys2Proof.Safety

section

set_option Elab.async false

/-! ## Fixtures -/

/-- A recipe with every detector enabled. -/
def recipe1 : Recipe :=
  { Recipe.default with
    geometry := ⟨400, 1000, 400, 20, 30, 0⟩
    brk := ⟨⟨true, true, true, true⟩, ⟨10, 10, 10, 10⟩, .confirmed, true, 60, 3⟩ }

/-- A machine record. -/
def machine1 : MachineRecord :=
  ⟨10000, 167772, ⟨5000, 2500, 3000⟩, ⟨50, 50, 50⟩, 200, 64, 100, ⟨.high, .high, .high, .high⟩⟩

/-- A store with slot 0 in a state and the others empty. -/
def storeOf (st : SlotState) (r : Recipe) : Store :=
  ⟨true, machine1, ⟨⟨st, 1, r⟩, ⟨.empty, 0, .default⟩, ⟨.empty, 0, .default⟩, ⟨.empty, 0, .default⟩⟩⟩

/-- A part at work: link SYNC, standardized, at speed, RUNNING, PARKED, slot 0 ACTIVE. -/
def work : State :=
  { State.reset with
    pins := { Pins.low with drvRdy := true }
    link := { HeadLink.reset with state := .sync, resync := false, missingTimer := .running 750 }
    conv := { Conversion.reset with epoch := 1 }
    head := { Head.reset with state := .parked, homingTimer := .stopped }
    speed := { Speed.reset with speed := 900, atSpeed := true, watch := .pulsing }
    brk := { (Supervisor.reset Pins.low.det) with state := .running }
    profile := { Profile.reset with layout := some ⟨30, 20, 400⟩ }
    store := storeOf .active recipe1 }

/-- The part at work, scanning toward B one count before its limit. -/
def scan1 : State :=
  { work with
    head := { work.head with
      state := .scanning .fwd, scan := some ⟨.fwd, 400, 1000⟩, position := 999, drvEn := true, drvDir := true,
      drvSpd := 3, encTimer := .running 100000 }
    ring := { Ring.reset with
      records := { ScanRecord.free with status := .filling } :: List.replicate 7 ScanRecord.free }
    bins := List.replicate 30 ⟨.zero, .zero, .zero⟩ }

/-- The part at work in SINGLE_POINT at 700 with a period in progress. -/
def point1 : State :=
  { work with
    head := { work.head with state := .singlePoint, position := 700, pointPos := 700 }
    points := ⟨some ⟨700, 2000, 0, ⟨.zero, .zero, .zero⟩, 0, 1, 0, false, false⟩, [], 0⟩ }

/-- The part standardizing in a phase. -/
def std1 (ph : StdPhase) (collecting : Bool) : State :=
  { work with
    head := { work.head with state := .standardizing, grant := .standardize }
    std := { StdUnit.reset with
      phase := ph, collecting := collecting, params := ⟨64, ⟨5000, 2500, 3000⟩, ⟨50, 50, 50⟩, 200⟩ } }

/-- A sample telegram with its check. -/
def tg (seq flags bw water gap : Nat) : SampleTelegram :=
  let t : SampleTelegram :=
    ⟨BitVec.ofNat 8 seq, BitVec.ofNat 8 flags, BitVec.ofNat 16 bw, BitVec.ofNat 16 water, BitVec.ofNat 16 gap, 0⟩
  { t with check := crc16 (sampleCovered t) }

/-- The state after a command. -/
def after (c : Instr) (s : State) : State :=
  match exec c s with
  | .next t => t
  | .fault _ => s
  | .refused _ => s

/-- A pending READ SCAN. -/
def pend1 : PendingRead := ⟨5, ⟨.bw, .profile, 0, 10⟩, 1, .running 1000000⟩

/-- A state with one port changed. -/
def onS0 (s : State) (f : Port → Port) : State := s.onPort .n0 f

/-- A queue of replies of a length. -/
def replies (n : Nat) : List Reply := List.replicate n ⟨some .mode, 0, .status .ok⟩

/-! ## WellFormed refuses ill-formed commands -/

theorem test_payload_of_1100_is_well_formed :
    (Instr.status .n0 0 (List.replicate 1100 0)).wellFormed = true := by decide +kernel

theorem test_payload_of_1101_is_refused :
    (Instr.status .n0 0 (List.replicate 1101 0)).wellFormed = false := by decide +kernel

theorem test_unknown_kind_with_a_request_kind_is_refused :
    (Instr.unknownKind .n0 0x12 0 []).wellFormed = false ∧ (Instr.unknownKind .n0 0x01 0 []).wellFormed = false := by
  decide +kernel

theorem test_unknown_kind_outside_the_kinds_is_well_formed :
    (Instr.unknownKind .n0 0x13 0 []).wellFormed = true ∧ (Instr.unknownKind .n0 0 0 []).wellFormed = true := by
  decide +kernel

/-! ## Values -/

theorem test_rounding_half_up : roundHalfUp 5 2 = 3 ∧ roundHalfUp 4 2 = 2 ∧ roundHalfUp 1 3 = 0 := by decide +kernel

theorem test_rounding_half_away_from_zero : roundHalfAway 5 2 = 3 ∧ roundHalfAway (-5) 2 = -3 := by decide +kernel

theorem test_numbers_wrap : aheadBy 3 65534 = 5 ∧ aheadBy 65534 3 = -5 := by decide +kernel

theorem test_crc_of_the_check_string :
    crc16 [0x31, 0x32, 0x33, 0x34, 0x35, 0x36, 0x37, 0x38, 0x39] = 0x29B1#16 := by decide +kernel

theorem test_worked_conversion_of_sample_1 :
    convertChannel 1000 18000 5000 true = some 4395 ∧ convertChannel 100 16000 450 true = some 342
      ∧ convertChannel 200 16384 3000 true = some 2800 ∧ moistureOf 500 (some 4395) (some 342) = some 778
      ∧ presentOf 500 (some 4395) = true := by decide +kernel

theorem test_worked_conversion_of_sample_2 :
    convertChannel 1000 18000 1300 true = some 330 ∧ convertChannel 100 16000 80 true = some 0
      ∧ convertChannel 200 16384 2950 false = none ∧ moistureOf 500 (some 330) (some 0) = none
      ∧ presentOf 500 (some 330) = false := by decide +kernel

theorem test_worked_gain_checks :
    gainCheck true 5000 50 200 980 17950 1000 5552 = (17996, .pass)
      ∧ gainCheck true 2500 50 200 90 16100 100 1900 = (22756, .gainDrift)
      ∧ gainCheck true 3000 50 200 200 16384 300 3250 = (16662, .zeroDrift) := by decide +kernel

theorem test_full_scale_saturates : convertChannel 0 32768 65535 true = some 32767 := by decide +kernel

theorem test_epoch_zero_is_kept_for_reset : nextEpoch 0xFFFFFFFF = 1 ∧ nextEpoch 0 = 1 ∧ nextEpoch 1 = 2 := by
  decide +kernel

theorem test_voided_average : scanAverage [some 10, none, none] 3 = none ∧ scanAverage [some 10, some 13, none] 3 = some 12 := by
  decide +kernel

theorem test_speed_of_a_gate : computedSpeed 300 167772 = 1800 := by decide +kernel

theorem test_table_gives_no_bits : decodeTableWord 8 0 = none ∧ State.reset.withFetchWord 8 0 = State.reset := by
  decide +kernel

/-! ## States and operands that meet the hypotheses of the statements -/

theorem test_wit_FrontCommandRuns :
    ({ work with pending := [.tachPulse, .missingSlot] } : State).pending = .tachPulse :: [.missingSlot] := by
  decide +kernel

theorem test_wit_LevelsAndTheirAges :
    work.pins.det.get .wet = false ∧ work.pins.det.get .reel ≠ true ∧ work.pending = [] := by
  decide +kernel

theorem test_wit_EveryCommandAnswersNext :
    movesPin .deviceReset = false ∧ movesPin (.encoderCount .towardB) = false ∧ movesPin .drvRdyLow = true := by
  decide +kernel

/-- A link at a slot count and a bad count. -/
def linkAt (n bad : Nat) : State := { work with link := { work.link with slotCount := n, badCount := bad } }

theorem test_wit_SlotsAndWindowsJudged_good :
    (linkAt 62 3).link.slotCount < 63 ∧ crc16 (sampleCovered (tg 0 7 1 1 1)) = (tg 0 7 1 1 1).check
      ∧ (tg 0 7 1 1 1).seq = (linkAt 62 3).link.expected ∧ (linkAt 62 3).link.missingTimer.isRunning = true := by
  decide +kernel

theorem test_wit_SlotsAndWindowsJudged_bad :
    (tg 1 7 1 1 1).seq ≠ (linkAt 62 3).link.expected ∧ (linkAt 62 3).link.resync = false
      ∧ crc16 (sampleCovered { tg 0 7 1 1 1 with seq := 1 }) ≠ (tg 0 7 1 1 1).check := by
  decide +kernel

theorem test_wit_SlotsAndWindowsJudged_window :
    (linkAt 63 4).link.slotCount = 63 ∧ (linkAt 63 4).link.missingTimer.isRunning = true
      ∧ (linkAt 63 4).link.state = .sync ∧ 4 ≤ (linkAt 63 4).link.badCount ∧ (linkAt 63 4).std.phase = .idle
      ∧ (linkAt 63 4).head.state ≠ .singlePoint ∧ (linkAt 63 3).link.badCount + 1 < 5 := by
  decide +kernel

/-- A link LOST at a slot count, its next good arrival a resync. -/
def lostAt (n : Nat) : State :=
  { work with link := { work.link with state := .lost, resync := true, slotCount := n } }

/-- A state with S0 PRESENT and every notice in its mask, its edge options as given. -/
def hears (s : State) (every : Bool) : State :=
  onS0 s (fun p => { p with present := true, sub := ⟨0xFF, every, every⟩ })

theorem test_wit_SlotsAndWindowsJudged_arrival :
    (closedLink (linkAt 63 4) (.arrival (tg 0 7 1 1 1))).state = .sync ∧ badAtEnd (linkAt 63 4) (.arrival (tg 0 7 1 1 1)) = 4
      ∧ goodSlot (linkAt 63 4) (.arrival (tg 9 7 1 1 1)) = false
      ∧ (closedLink (linkAt 63 4) (.arrival (tg 9 7 1 1 1))).state = .lost
      ∧ (lostAt 63).link.slotCount = 63 ∧ (lostAt 63).link.state = .lost
      ∧ (closedLink (lostAt 63) (.arrival (tg 9 7 1 1 1))).state = .sync := by
  decide +kernel

theorem test_window_of_good_slots_resynchronizes :
    (after (.windowEnd (.arrival (tg 9 7 1 1 1))) (hears (lostAt 63) true)).link.state = .sync
      ∧ (after (.windowEnd (.arrival (tg 9 7 1 1 1))) (hears (lostAt 63) true)).link.expected = 10
      ∧ ((after (.windowEnd (.arrival (tg 9 7 1 1 1))) (hears (lostAt 63) true)).ports.get .n0).notices
        = [⟨.headLink .sync 0, none⟩]
      ∧ ((after (.windowEnd (.arrival (tg 9 7 1 1 1))) (hears (lostAt 63) false)).ports.get .n0).notices = [] := by
  decide +kernel

/-- Every notice of a statement is one that some port takes, and the edge options turn two away. -/
theorem test_wit_notices_taken :
    TakesNotice ((hears work false).ports.get .n0) (.headLink .lost 5)
      ∧ TakesNotice ((hears work true).ports.get .n0) (.headLink .sync 0)
      ∧ ¬TakesNotice ((hears work false).ports.get .n0) (.headLink .sync 0)
      ∧ TakesNotice ((hears work false).ports.get .n0) (.scanDone 1 .fwd .clear ⟨none, none, none⟩)
      ∧ TakesNotice ((hears work false).ports.get .n0) (recipeNews work .activated)
      ∧ TakesNotice ((hears work false).ports.get .n0) (.limit [] 0 true 1)
      ∧ TakesNotice ((hears work true).ports.get .n0) (.limit [] 0 false 1)
      ∧ ¬TakesNotice ((hears work false).ports.get .n0) (.limit [] 0 false 1)
      ∧ ¬TakesNotice (work.ports.get .n0) (.scanDone 1 .fwd .clear ⟨none, none, none⟩) := by
  unfold TakesNotice recipeNews
  simp only [admittedBy]
  decide +kernel

/-- The link before its first arrival, as device reset leaves it, at a slot count. -/
def untimed (n : Nat) : State := { State.reset with link := { State.reset.link with slotCount := n } }

theorem test_wit_HeadCommandsOneAtATime :
    work.link.sending = none ∧ (work.link.raise .refIn).sending ≠ none
      ∧ (untimed 62).link.missingTimer = .stopped ∧ (untimed 62).link.state = .lost ∧ (untimed 62).link.sending = none
      ∧ (untimed 62).link.slotCount < 63 ∧ (untimed 62).std.phase = .idle
      ∧ (untimed 0).link.missingTimer = .stopped ∧ (untimed 0).link.state = .lost := by
  decide +kernel

theorem test_first_arrival_raises_ref_out :
    (after (.sampleTelegramArrival (tg 0 7 1 1 1)) (untimed 62)).link.sending = some .refOut := by
  decide +kernel

theorem test_head_command_is_three_characters :
    work.headTx = none
      ∧ ({ work with link := { work.link with sending := some .refIn } } : State).headTx
        = some [⟨true, false, 0xA1⟩, ⟨false, false, (crc16 [0xA1]).setWidth 8⟩, ⟨false, false, (crc16 [0xA1] >>> 8).setWidth 8⟩] := by
  decide +kernel

theorem test_wit_HeadCharactersMakeArrival_characters :
    (⟨false, true, 0⟩ : Character).framingError = true ∧ (⟨true, false, 0⟩ : Character).mark = true
      ∧ (⟨false, false, 0⟩ : Character).framingError = false ∧ work.link.rx = none
      ∧ ({ work with link := { work.link with rx := some (List.replicate 8 0) } } : State).link.rx = some (List.replicate 8 0)
      ∧ (List.replicate 8 (0 : Byte)).length < 9 := by
  decide +kernel

theorem test_wit_HeadCharactersMakeArrival_ten :
    work.settle = work ∧ (Instr.headLinkCharacter ⟨true, false, 0⟩
      :: (List.replicate 9 (0 : Byte)).map (fun b => Instr.headLinkCharacter ⟨false, false, b⟩)).length = 10 := by
  decide +kernel

theorem test_plain_work : PlainSlot work := ⟨by decide, fun _ h => by cases h⟩

theorem test_plain_scan1 : PlainSlot scan1 := ⟨by decide, fun _ h => by cases h⟩

theorem test_plain_point1 : PlainSlot point1 := ⟨by decide, fun p h => by cases h; decide⟩

theorem test_plain_point1_at_the_last_plain_slot :
    PlainSlot { point1 with
      link := { point1.link with slotCount := 62 }
      points := ⟨some ⟨700, 2000, 1998, ⟨.zero, .zero, .zero⟩, 0, 1, 0, false, false⟩, [], 0⟩ } :=
  ⟨by decide, fun p h => by cases h; decide⟩

theorem test_wit_ConversionAndClass :
    point1.head.state = .singlePoint ∧ point1.points.period.isSome = true ∧ point1.edges.locked = false
      ∧ point1.std.phase = .idle ∧ crc16 (sampleCovered (tg 0 7 5000 450 3000)) = (tg 0 7 5000 450 3000).check
      ∧ (tg 0 7 5000 450 3000).seq = point1.link.expected ∧ point1.link.state = .sync
      ∧ (point1.convert (tg 0 7 5000 450 3000)).present = true := by
  decide +kernel

/-- A state with its edge lock LOCKED on an interval, the absence window at a count. -/
def lockedAt (s : State) (a b n : Nat) : State :=
  { s with edges := ⟨.clear, true, some ⟨a, b⟩, none, 0, 0⟩, absent := ⟨true, n, 0, false⟩ }

theorem test_wit_ConversionAndClass_locked :
    (lockedAt point1 450 900 62).edges.locked = true ∧ (lockedAt point1 450 900 62).absent.assessed < 63
      ∧ (lockedAt point1 450 900 62).assesses 700 = true ∧ (lockedAt point1 450 900 62).head.state = .singlePoint := by
  decide +kernel

theorem test_wit_CollectionEndJudged_checks :
    roundHalfUp (5000 * 16384) 10001 < 8192 ∧ roundHalfUp (5000 * 16384) 10000 = 8192
      ∧ roundHalfUp (5000 * 16384) 2500 = 32768 ∧ 32768 < roundHalfUp (5000 * 16384) 2499
      ∧ (50 : Int) < |(51 : Int) - 0| ∧ |(50 : Int) - 0| ≤ 50 := by
  decide +kernel

theorem test_wit_CollectionEndJudged_zero :
    (std1 .zero true).link.slotCount < 63 ∧ (std1 .zero true).link.missingTimer.isRunning = true
      ∧ (std1 .zero true).head.state = .standardizing ∧ (std1 .zero true).std.collecting = true ∧ (std1 .zero true).std.phase = .zero
      ∧ 4 * ({ (std1 .zero true).std with slotCount := 255 } : StdUnit).params.samples ≤ 255 + 1 := by
  decide +kernel

theorem test_wit_CollectionEndJudged_reference :
    (std1 .reference true).std.phase = .reference ∧ (std1 .reference true).std.collecting = true
      ∧ (std1 .reference true).link.sending = none ∧ (std1 .reference true).std.reasons.bw = .none
      ∧ (std1 .reference true).std.sums.bw.count < (std1 .reference true).std.params.samples
      ∧ shortFails 64 .none ⟨1000, 64⟩ = .none ∧ shortFails 64 .none ⟨1000, 63⟩ ≠ .none := by
  decide +kernel

/-- A REFERENCE collection at its slot limit whose three channels pass. -/
def refPass : State :=
  { std1 .reference true with
    std := { (std1 .reference true).std with
      slotCount := 255, sums := ⟨⟨320000, 64⟩, ⟨160000, 64⟩, ⟨192000, 64⟩⟩ } }

theorem test_wit_CollectionEndJudged_pass :
    4 * refPass.std.params.samples ≤ refPass.std.slotCount + 1
      ∧ (referenceJudged refPass 5000 50 0 16384 refPass.std.reasons.bw refPass.std.sums.bw refPass.std.cand.bw).2 = .pass
      ∧ (referenceJudged refPass 2500 50 0 16384 refPass.std.reasons.water refPass.std.sums.water refPass.std.cand.water).2 = .pass
      ∧ (referenceJudged refPass 3000 50 0 16384 refPass.std.reasons.gap refPass.std.sums.gap refPass.std.cand.gap).2 = .pass
      ∧ (after (.stdSlotLimit .missing) refPass).conv.pendingSet = some ⟨⟨0, 0, 0⟩, ⟨16384, 16384, 16384⟩⟩ := by
  decide +kernel

/-- A REFERENCE collection one sample short on every channel, its slot limit far off. -/
def refLast : State :=
  { std1 .reference true with
    std := { (std1 .reference true).std with
      slotCount := 62, sums := ⟨⟨315000, 63⟩, ⟨157500, 63⟩, ⟨189000, 63⟩⟩ } }

theorem test_wit_CollectionEndJudged_arrival :
    acceptedSlot refLast (.arrival (tg 0 15 5000 2500 3000)) = some (tg 0 15 5000 2500 3000)
      ∧ sumsAfter refLast (some (tg 0 15 5000 2500 3000)) = ⟨⟨320000, 64⟩, ⟨160000, 64⟩, ⟨192000, 64⟩⟩
      ∧ sumsAfter refLast (some (tg 0 14 5000 2500 3000)) = ⟨⟨315000, 63⟩, ⟨160000, 64⟩, ⟨192000, 64⟩⟩
      ∧ sumsAfter refLast (some (tg 0 7 5000 2500 3000)) = refLast.std.sums
      ∧ sumsAfter refLast none = refLast.std.sums ∧ refLast.std.slotCount + 1 < 4 * refLast.std.params.samples := by
  decide +kernel

theorem test_wit_CollectionEndJudged_over :
    CollectionOver refLast (sumsAfter refLast (some (tg 0 15 5000 2500 3000)))
      ∧ ¬CollectionOver refLast (sumsAfter refLast (some (tg 0 14 5000 2500 3000))) := by
  unfold CollectionOver; decide +kernel

theorem test_collection_ends_at_the_last_sample :
    (after (.sampleTelegramArrival (tg 0 15 5000 2500 3000)) refLast).conv.pendingSet
        = some ⟨⟨0, 0, 0⟩, ⟨16384, 16384, 16384⟩⟩
      ∧ (after (.sampleTelegramArrival (tg 0 15 5000 2500 3000)) refLast).std.phase = .withdraw := by
  decide +kernel

theorem test_wit_CollectionEndJudged_tile :
    acceptedSlot (std1 .reference false) (.arrival (tg 0 15 1 1 1)) = some (tg 0 15 1 1 1)
      ∧ (tg 0 15 1 1 1).flags.getLsbD 3 = true ∧ (tg 0 7 1 1 1).flags.getLsbD 3 = false
      ∧ (after (.sampleTelegramArrival (tg 0 15 1 1 1)) (std1 .reference false)).std.collecting = true
      ∧ (after (.sampleTelegramArrival (tg 0 15 1 1 1)) (std1 .reference false)).std.slotCount = 1 := by
  decide +kernel

theorem test_wit_StdTimersExpire :
    (std1 .reference false).std.phase = .reference ∧ (std1 .reference false).std.collecting = false
      ∧ (std1 .withdraw false).std.phase = .withdraw ∧ (std1 .withdraw false).head.state = .standardizing
      ∧ (std1 .withdraw false).head.scan = none := by
  decide +kernel

/-- WITHDRAW with every channel PASS and a pending set. -/
def std2 : State :=
  { std1 .withdraw false with
    std := { (std1 .withdraw false).std with reasons := ⟨.pass, .pass, .pass⟩ }
    conv := { work.conv with pendingSet := some ⟨⟨1000, 100, 200⟩, ⟨18000, 16000, 16384⟩⟩ } }

theorem test_plain_std2 : PlainSlot std2 := ⟨by decide, fun _ h => by cases h⟩

theorem test_wit_TileClearingCommits :
    std2.head.state = .standardizing ∧ std2.std.phase = .withdraw ∧ std2.std.reasons = ⟨.pass, .pass, .pass⟩
      ∧ std2.conv.pendingSet.isSome = true ∧ std2.link.state = .sync ∧ (tg 0 7 1 1 1).flags.getLsbD 3 = false
      ∧ (tg 0 7 1 1 1).seq = std2.link.expected := by
  decide +kernel

theorem test_wit_TileClearingCommits_fail :
    (std1 .withdraw false).std.reasons ≠ ⟨.pass, .pass, .pass⟩ ∧ (std1 .withdraw false).head.scan = none
      ∧ (std1 .withdraw false).std.failCount + 1 < 3
      ∧ 3 ≤ ({ (std1 .withdraw false).std with failCount := 2 } : StdUnit).failCount + 1 := by
  decide +kernel

theorem test_wit_ReadsReplyFromState :
    ((onS0 work (fun p => { p with replies := replies 2, pending := some pend1 })).ports.get .n0).replies.length + 1 < 4
      ∧ ((onS0 work (fun p => { p with replies := replies 3 })).ports.get .n0).replies.length < 4
      ∧ (work.ports.get .n0).pending = none := by
  decide +kernel

theorem test_wit_CountMovesPosition :
    moveTarget scan1 = some 1000 ∧ moveTarget scan1 ≠ some (counted scan1.head .towardA).position.toNat
      ∧ moveTarget work ≠ some (counted work.head .towardB).position.toNat := by
  decide +kernel

/-- The part at work in a moving state. -/
def moving (h : HeadState) (pos : BitVec 16) (p : Nat) : State :=
  { work with head := { work.head with
      state := h, position := pos, pointPos := p, drvEn := true, drvSpd := 3, encTimer := .running 100000 } }

theorem test_wit_MovesArrive :
    moveTarget (moving (.scanning .approach) 399 0) = some (counted (moving (.scanning .approach) 399 0).head .towardB).position.toNat
      ∧ (moving (.scanning .approach) 399 0).conv.pendingSet = none
      ∧ moveTarget (moving .positioning 701 700) = some (counted (moving .positioning 701 700).head .towardA).position.toNat
      ∧ moveTarget (moving .returning 1 0) = some (counted (moving .returning 1 0).head .towardA).position.toNat := by
  decide +kernel

/-- RETURNING one count before park with mode slots. -/
def back1 (slots : Four ModeSlot) : State :=
  { moving .returning 1 0 with head := { (moving .returning 1 0).head with slots := slots } }

theorem test_wit_MovesArrive_hold : ¬NoHold { moving .returning 1 0 with brk := { work.brk with state := .break_ } } :=
  fun h => h.1 rfl

theorem test_no_hold_at_work (slots : Four ModeSlot) : NoHold work ∧ NoHold scan1 ∧ NoHold (back1 slots) :=
  ⟨⟨by decide, by decide⟩, ⟨by decide, by decide⟩, (nofun : work.brk.state ≠ .break_), (nofun : work.brk.state ≠ .threading)⟩

theorem test_lowest_park : LowestWith ⟨.none, .park, .standardize, .park⟩ (fun m => m = .park) .n1 := by
  refine ⟨rfl, fun j h => ?_⟩
  cases j <;> revert h <;> decide

theorem test_lowest_point : LowestWith ⟨.none, .none, .point 700, .point 500⟩ (fun m => ∃ p, m = .point p) .n2 := by
  refine ⟨⟨700, rfl⟩, fun j h => ?_⟩
  cases j
  · obtain ⟨_, h⟩ := h; cases h
  · obtain ⟨_, h⟩ := h; cases h
  · decide
  · decide

theorem test_wit_MovesArrive_claims :
    (∀ j, (back1 ⟨.none, .standardize, .none, .none⟩).head.slots.get j ≠ .park)
      ∧ (∀ j, (back1 ⟨.none, .none, .point 700, .point 500⟩).head.slots.get j ≠ .standardize)
      ∧ (back1 ⟨.none, .standardize, .none, .none⟩).store.machineSet = true
      ∧ (back1 ⟨.none, .none, .none, .none⟩).std.stdDue = false ∧ (back1 ⟨.none, .none, .none, .none⟩).pins.drvRdy = true
      ∧ max recipe1.geometry.a (min recipe1.geometry.b 700) ≠ 0
      ∧ (back1 ⟨.none, .none, .none, .none⟩).store.active.isSome = true
      ∧ (back1 ⟨.none, .none, .none, .none⟩).brk.state = .running ∧ recipe1.geometry.a ≠ 0 := by
  refine ⟨fun j => ?_, fun j => ?_, by decide, by decide, by decide, by decide, by decide, by decide, by decide⟩
  · cases j <;> decide
  · cases j <;> decide

theorem test_wit_CompletionNumbersAndDecides :
    measuringLeg scan1.head.state = true ∧ scan1.head.scan = some ⟨.fwd, 400, 1000⟩ ∧ scan1.ring.filling = some 0
      ∧ scan1.brk.state = .running ∧ scan1.store.pendingSlot = none ∧ scan1.store.active.isSome = true
      ∧ scan1.recipe.measure.stdInterval = 0 ∧ scan1.head.slots = ⟨.none, .none, .none, .none⟩
      ∧ (counted scan1.head .towardB).position ≠ 0 ∧ (counted scan1.head .towardB).position.toNat = 1000 := by
  decide +kernel

theorem test_wit_CompletionNumbersAndDecides_rev :
    (counted { scan1.head with state := .scanning .rev, scan := some ⟨.rev, 400, 1000⟩, position := 401 } .towardA).position.toNat = 400
      ∧ measuringLeg (.scanning .rev) = true := by
  decide +kernel

theorem test_wit_CompletesScan : CompletesScan .towardB scan1 ⟨.fwd, 400, 1000⟩ 0 :=
  ⟨by decide, rfl, by decide, by decide⟩

theorem test_wit_PickBeside_open : PickBeside scan1.ring 0 := ⟨1, .free, by decide, rfl, Or.inl rfl⟩

/-- The scan one count before its limit, RECOVERING with a recovery count. -/
def recovering1 (n : Nat) : State := { scan1 with brk := { scan1.brk with state := .recovering, recoveryCount := n } }

theorem test_wit_CompletionNumbersAndDecides_recovering :
    min 8 ((recovering1 1).brk.recoveryCount + 1) < (recovering1 1).recipe.brk.recoveryScans
      ∧ (recovering1 2).recipe.brk.recoveryScans ≤ min 8 ((recovering1 2).brk.recoveryCount + 1) := by
  decide +kernel

theorem test_wit_dueAfter :
    ¬dueAfter scan1
      ∧ dueAfter { scan1 with store := storeOf .active { recipe1 with measure := { recipe1.measure with stdInterval := 1 } } } := by
  unfold dueAfter; decide +kernel

/-- The scan one count before its limit with slot 1 PENDING. -/
def pending1 : State := { scan1 with store := { scan1.store with slots := { scan1.store.slots with x1 := ⟨.pending, 7, recipe1⟩ } } }

theorem test_quiet_under_recipe1 : QuietUnder recipe1 work ∧ QuietUnder recipe1 pending1 :=
  ⟨fun d => by cases d <;> decide, fun d => by cases d <;> decide⟩

theorem test_wit_CompletionNumbersAndDecides_pending :
    pending1.store.pendingSlot = some .n1 ∧ (∀ j, pending1.head.slots.get j ≠ .park)
      ∧ (counted pending1.head .towardB).position.toNat ≠ recipe1.geometry.a := by
  refine ⟨by decide, fun j => ?_, by decide⟩
  cases j <;> decide

theorem test_completion_tells_what_it_did :
    ((after (.encoderCount .towardB) (hears scan1 false)).ports.get .n0).notices.map (fun e => e.content.kind)
        = [.scanDone, .holeReport]
      ∧ ((after (.encoderCount .towardB) (hears pending1 false)).ports.get .n0).notices.map (fun e => e.content.kind)
        = [.scanDone, .holeReport, .recipe]
      ∧ (after (.encoderCount .towardB) pending1).store.active = some .n1 := by
  decide +kernel

theorem test_wit_HomingSearchAndIndex :
    State.reset.head.state = .homing ∧ State.reset.head.drvEn = false ∧ work.head.state ≠ .homing ∧ State.reset.winner = .none := by
  decide +kernel

theorem test_wit_FaultEventsEnterFault :
    work.head.state ≠ .fault ∧ work.store.pendingSlot = none ∧ scan1.head.drvEn = true
      ∧ scan1.head.encTimer.isRunning = true ∧ State.reset.head.state = .homing ∧ scan1.head.scan.isSome = true
      ∧ (moving .fault 5 0).head.state = .fault ∧ work.head.drvEn = false
      ∧ pending1.store.pendingSlot = some .n1 ∧ pending1.head.scan.isSome = true ∧ pending1.head.state ≠ .fault := by
  decide +kernel

theorem test_wit_ClearFaultEntersHoming :
    (moving .fault 5 0).pins.drvRdy = true ∧ (moving .fault 5 0).pins.otA = false ∧ (moving .fault 5 0).pins.otB = false
      ∧ (work.ports.get .n0).replies.length < 4 ∧ (work.ports.get .n0).pending = none
      ∧ State.reset.pins.drvRdy = false := by
  decide +kernel

theorem test_wit_ModeSetsStationSlot :
    scan1.head.state ≠ .parked ∧ scan1.activeRecipe = some recipe1 ∧ State.reset.activeRecipe = none ∧ 3 < (4 : Byte).toNat
      ∧ max recipe1.geometry.a (min recipe1.geometry.b 399) = 400 ∧ max recipe1.geometry.a (min recipe1.geometry.b 1000) = 1000 := by
  decide +kernel

/-- The worked sequence of chapter 2, step 12: S0 releases PARK while PARKED, S3 holds POINT. -/
def step12 : State := { work with head := { work.head with slots := ⟨.park, .none, .none, .point 700⟩, grant := .park .n0 } }

theorem test_release_while_parked_grants_the_point :
    (after (.mode .n0 1 [0, 0, 0, 0]) step12).head.state = .positioning
      ∧ (after (.mode .n0 1 [0, 0, 0, 0]) step12).head.grant = .point .n3 700 := by
  decide +kernel

theorem test_wit_ModeSetsStationSlot_parked :
    step12.head.state = .parked ∧ step12.head.scan = none ∧ step12.pins.drvRdy = true ∧ step12.std.stdDue = false
      ∧ step12.head.slots.set .n0 .none = ⟨.none, .none, .none, .point 700⟩
      ∧ step12.head.position.toNat ≠ max recipe1.geometry.a (min recipe1.geometry.b 700)
      ∧ step12.head.position.toNat ≠ recipe1.geometry.a ∧ step12.activeRecipe = some recipe1
      ∧ step12.store.machineSet = true ∧ step12.brk.state = .running
      ∧ ({ step12 with pins := Pins.low } : State).pins.drvRdy = false
      ∧ ({ work with brk := Supervisor.reset Pins.low.det, store := .reset } : State).store.active.isSome = false := by
  decide +kernel

theorem test_lowest_point_of_step12 :
    LowestWith (step12.head.slots.set .n0 .none) (fun m => ∃ p, m = .point p) .n3 := by
  refine ⟨⟨700, rfl⟩, fun j h => ?_⟩
  cases j
  · obtain ⟨_, h⟩ := h; cases h
  · obtain ⟨_, h⟩ := h; cases h
  · obtain ⟨_, h⟩ := h; cases h
  · decide

theorem test_wit_ParkTakesEffectAtOnce :
    scan1.head.position ≠ 0 ∧ scan1.brk.state ≠ .break_ ∧ scan1.brk.state ≠ .threading ∧ scan1.store.pendingSlot = none
      ∧ point1.head.scan = none ∧ point1.pins.drvRdy = true ∧ (moving .positioning 5 9).head.scan = none
      ∧ (std1 .zero true).std.phase ≠ .idle ∧ (moving .returning 5 0).head.state = .returning
      ∧ State.reset.head.state = .homing ∧ (moving (.scanning .approach) 5 0).head.scan = none
      ∧ (moving .positioning 0 9).head.position = 0 ∧ pending1.head.position ≠ 0
      ∧ ({ point1 with pins := Pins.low } : State).pins.drvRdy = false
      ∧ ({ scan1 with profile := { scan1.profile with deferred := true } } : State).profile.deferred = true := by
  decide +kernel

theorem test_wit_AcceptedSampleInScan :
    measuringLeg scan1.head.state = true ∧ scan1.head.scan.isSome = true ∧ scan1.std.phase = .idle ∧ scan1.edges.locked = false
      ∧ scan1.link.state = .sync ∧ scan1.link.missingTimer.isRunning = true ∧ (tg 0 7 5000 450 3000).seq = scan1.link.expected := by
  decide +kernel

theorem test_wit_AcceptedSampleInScan_locked :
    (lockedAt scan1 450 999 62).edges.locked = true ∧ (lockedAt scan1 450 999 62).absent.assessed < 63
      ∧ (lockedAt scan1 450 999 62).assesses 999 = true ∧ (lockedAt scan1 450 999 62).head.scan.isSome = true := by
  decide +kernel

/-- A scan one count before its limit with an edge tracker whose scan has found the edges 450 and 950. -/
def lockAt (locked : Bool) (prev : Option Edges) (nin nout : Nat) : State :=
  { scan1 with edges := ⟨⟨8, 450, some 450, some 950⟩, locked, if locked then prev else none, prev, nin, nout⟩ }

theorem test_hit_within_the_window : ScanInWindow (lockAt false (some ⟨650, 750⟩) 2 0).edges (some ⟨450, 950⟩) 200 :=
  ⟨⟨650, 750⟩, ⟨450, 950⟩, rfl, rfl, by decide, by decide⟩

theorem test_no_hit_beyond_the_window :
    ¬ScanInWindow (lockAt true (some ⟨651, 950⟩) 0 0).edges (some ⟨450, 950⟩) 200 := by
  rintro ⟨x, y, hx, hy, h, -⟩
  cases hx; cases hy; revert h; decide

theorem test_no_hit_without_edges : ¬ScanInWindow (lockAt false none 0 0).edges (some ⟨450, 950⟩) 200 := by
  rintro ⟨x, y, hx, -⟩
  cases hx

theorem test_wit_EdgeLockFollowsWindow :
    (lockAt false (some ⟨650, 750⟩) 2 0).recipe.edges = ⟨200, 3, 3⟩ ∧ (lockAt false none 0 0).profile.deferred = false
      ∧ (lockAt false none 0 0).store.pendingSlot = none ∧ (lockAt false none 0 0).ring.filling = some 0
      ∧ (3 ≤ 2 + 1 ∧ 1 + 1 < 3) ∧ (lockAt true (some ⟨651, 950⟩) 0 2).edges.locked = true
      ∧ (lockAt true (some ⟨651, 950⟩) 0 2).edges.outCount + 1 = 3
      ∧ ({ lockAt true none 0 0 with profile := { scan1.profile with deferred := true } } : State).profile.deferred = true := by
  decide +kernel

theorem test_wit_BinCoversItsPositions :
    0 < recipe1.geometry.w ∧ recipe1.geometry.binOf 419 = some 0 ∧ recipe1.geometry.binOf 420 = some 1
      ∧ recipe1.geometry.binOf 999 = some 29 ∧ recipe1.geometry.binOf 1000 = none ∧ recipe1.geometry.binOf 399 = none
      ∧ scan1.head.scan.isSome = true ∧ work.store.failedCheck recipe1 = none
      ∧ (GroupBody.geometry ⟨0, 0, 0, 19, 513, 9⟩).clamped = .geometry ⟨0, 0, 0, 20, 512, 8⟩ := by
  decide +kernel

theorem test_wit_AverageOfValidMeans :
    (validOf (List.replicate 49 (some 7))).length = 49 ∧ (validOf (List.replicate 48 (some 7))).length = 48
      ∧ scanAverage [some 3, some 4] 2 = some 4 ∧ ∀ x ∈ validOf [some 3, some 4], (3 : Int) ≤ x ∧ x ≤ 4 := by
  decide +kernel

theorem test_wit_CorrectionOfEachBin :
    orderOf .fwd 5 2 = 2 ∧ 2 * orderOf .fwd 5 2 = 5 - 1 ∧ orderOf .rev 4 3 = 0 ∧ orderOf .rev 4 0 = 4 - 1
      ∧ correction .fwd 4 32767 3 = 16384 ∧ correction .fwd 5 32767 2 = 0 := by
  decide +kernel

theorem test_wit_FilterFollowsTable :
    (⟨some 10, .plus, 14⟩ : FilterBin).update ⟨4, 5, 15⟩ none = ⟨none, .none, 15⟩
      ∧ (⟨some 10, .plus, 0⟩ : FilterBin).update ⟨4, 5, 3⟩ (some 16) = ⟨some 16, .none, 0⟩
      ∧ (⟨some 10, .minus, 0⟩ : FilterBin).update ⟨4, 5, 3⟩ (some 16) = ⟨some 12, .plus, 0⟩
      ∧ (⟨some 10, .plus, 0⟩ : FilterBin).update ⟨4, 5, 3⟩ (some 15) = ⟨some 11, .none, 0⟩
      ∧ (⟨some 10, .plus, 0⟩ : FilterBin).update ⟨16, 0, 3⟩ (some 99) = ⟨some 99, .none, 0⟩ := by
  decide +kernel

theorem test_wit_SpreadOfValidValues :
    spreadOf [none, none] = none ∧ spreadOf [some 5, none] = some 0 ∧ spreadOf [some (-5), some 20, some 3] = some 25
      ∧ spreadOf [some (-32767), some 32767] = some 32767 ∧ validOf [some 5, none] = [5] := by
  decide +kernel

theorem test_wit_ProfileWorkAtCompletion :
    measuringLeg scan1.head.state = true ∧ scan1.ring.filling = some 0 ∧ scan1.store.pendingSlot = none
      ∧ (counted scan1.head .towardB).position.toNat = 1000 ∧ (counted scan1.head .towardB).position ≠ 0 := by
  decide +kernel

/-- Scan 7 of chapter 3: its edges, its layout and its trim give the in-sheet bins 4 to 98. -/
theorem test_in_sheet_bins_of_scan_7 :
    (List.range 108).filter (inSheetBin ⟨2400, 45600, 2400, 400, 108, 2⟩ (some ⟨3080, 42950⟩)) = List.range' 4 95
      ∧ inSheetBin ⟨2400, 45600, 2400, 400, 108, 2⟩ none 50 = false
      ∧ inSheetBin recipe1.geometry (some ⟨400, 419⟩) 0 = true ∧ inSheetBin recipe1.geometry (some ⟨401, 419⟩) 0 = false
      ∧ inSheetBin recipe1.geometry (some ⟨400, 418⟩) 0 = false := by
  decide +kernel

theorem test_wit_RestartProfilesActsOrWaits :
    work.ring.filling = none ∧ scan1.ring.filling = some 0 ∧ (scan1.ports.get .n0).pending = none := by
  decide +kernel

/-- A COMPLETE record of a number. -/
def done1 (n : BitVec 16) (held : Bool) : ScanRecord :=
  { ScanRecord.free with status := .complete, number := some n, holds := ⟨held, false, false, false⟩ }

/-- A ring of eight COMPLETE records, newest 2, the record of 65534 held by S0. -/
def ring1 : Ring :=
  ⟨[done1 2 false, done1 1 false, done1 65535 false, done1 65534 true, done1 65533 false, done1 0 false, done1 65532 false,
    done1 65531 true], 2⟩

theorem test_wit_PickTakesOpenElseOldest :
    Ring.reset.pick = 0 ∧ Ring.reset.records[0]? = some .free ∧ ring1.pick = 6
      ∧ (∀ r ∈ ring1.records, r.status ≠ .free ∧ r.status ≠ .void) ∧ work.store.active = some .n0
      ∧ (∃ r ∈ ring1.records, r.status = .complete ∧ r.holds = ⟨false, false, false, false⟩) := by
  decide +kernel

theorem test_wit_PickBeside_oldest : PickBeside ring1 0 :=
  ⟨6, done1 65532 false, by decide, rfl, Or.inr (Or.inr ⟨rfl, rfl, by decide⟩)⟩

theorem test_fresh_record_is_void :
    (scan1.freshRecord .fwd).meas.bw
      = ⟨none, List.replicate 30 none, List.replicate 30 none, List.replicate 30 none, [], none, none⟩ := by
  decide +kernel

/-- A ring whose first record is a COMPLETE record of thirty bins and no zones. -/
def wide1 : Ring :=
  { Ring.reset with
    records := { work.freshRecord .fwd with status := .complete, number := some 5 } :: List.replicate 7 ScanRecord.free }

theorem test_wit_ReadScanServedOrWaits_reply :
    wide1.records[0]? = some { work.freshRecord .fwd with status := .complete, number := some 5 }
      ∧ (work.freshRecord .fwd).zoneCount = 0 ∧ (work.freshRecord .fwd).layout.n = 30
      ∧ ((work.freshRecord .fwd).meas.get .bw).means.length = 30
      ∧ ((ReplyBody.scan 0 ⟨.bw, .means, 29, 29⟩).bytes wide1).drop 42 = wire [w16 29, w16 29, w16 1, w16 (-32768)]
      ∧ ((ReplyBody.scan 0 ⟨.bw, .means, 28, 35⟩).bytes wide1).drop 42
        = wire [w16 28, w16 29, w16 2, w16 (-32768), w16 (-32768)]
      ∧ ((ReplyBody.scan 0 ⟨.bw, .means, 30, 35⟩).bytes wide1).drop 42 = wire [w16 29, w16 29, w16 1, w16 (-32768)]
      ∧ ((ReplyBody.scan 0 ⟨.bw, .zones, 3, 5⟩).bytes wide1).drop 42 = wire [w16 0, w16 0, w16 0] := by
  decide +kernel

/-- A READ SCAN payload: selector, number, minimum given, minimum, wait limit. -/
def readScan1 (sel number given minimum wait : Nat) : List Byte :=
  [byte1 sel] ++ le16 number ++ [0, 2] ++ le16 0 ++ le16 10 ++ [byte1 given] ++ le16 minimum ++ le16 wait

/-- The part at work with the ring of eight records, station S1 holding nothing. -/
def reads1 : State := { work with ring := ring1 }

theorem test_wit_ReadScanServedOrWaits_found :
    (readScan1 1 2 0 0 5).length = 14 ∧ (∃ r ∈ reads1.ring.records, r.holds.get .n0 = true)
      ∧ (∀ r ∈ reads1.ring.records, r.holds.get .n1 = false)
      ∧ readScanOf? (readScan1 1 2 0 0 5) = some (.number 2, ⟨.bw, .profile, 0, 10⟩)
      ∧ 0 ≤ aheadBy reads1.ring.newest 2 ∧ aheadBy reads1.ring.newest 65474 = 64
      ∧ readScanOf? (readScan1 0 0 0 0 5) = some (.newest none 5, ⟨.bw, .profile, 0, 10⟩) := by
  decide +kernel

theorem test_wit_ReadScanServedOrWaits_minimum :
    readScanOf? (readScan1 0 0 1 3 0) = some (.newest (some 3) 1, ⟨.bw, .profile, 0, 10⟩)
      ∧ aheadBy 2 reads1.ring.newest ≤ 0 ∧ 1 ≤ aheadBy 3 reads1.ring.newest ∧ aheadBy 66 reads1.ring.newest = 64
      ∧ 64 < aheadBy 67 reads1.ring.newest ∧ reads1.brk.state ≠ .break_ ∧ reads1.brk.state ≠ .threading
      ∧ readScanOf? (readScan1 1 0 1 3 0) = none ∧ readScanOf? (readScan1 2 0 0 3 0) = none := by
  decide +kernel

theorem test_wit_PendingReadEnds :
    ((onS0 work (fun p => { p with replies := replies 2, pending := some pend1 })).ports.get .n0).pending = some pend1
      ∧ ((onS0 work (fun p => { p with replies := replies 2, pending := some pend1 })).ports.get .n0).replies.length < 3
      ∧ (work.ports.get .n0).pending = none := by
  decide +kernel

theorem test_wit_PendingReadEnds_completion :
    ((onS0 scan1 (fun p => { p with pending := some pend1 })).ports.get .n0).pending = some pend1
      ∧ aheadBy pend1.minimum (scan1.ring.newest + 1) ≤ 0
      ∧ 0 < aheadBy ({ pend1 with minimum := 2 } : PendingRead).minimum (scan1.ring.newest + 1) := by
  decide +kernel

theorem test_wit_PointPeriodMakesRecord :
    point1.head.state = .singlePoint ∧ point1.points.period.isSome = true ∧ (2000 : Nat) ≤ 1999 + 1
      ∧ point1.link.slotCount < 63 ∧ point1.link.missingTimer.isRunning = true ∧ point1.std.phase = .idle := by
  decide +kernel

/-- The last slot of a point period of 700 comes next, with mode slots and the drive as given. -/
def lastSlot (slots : Four ModeSlot) (ready : Bool) : State :=
  { point1 with
    head := { point1.head with slots := slots }
    pins := { point1.pins with drvRdy := ready }
    points := ⟨some ⟨700, 2000, 1999, ⟨.zero, .zero, .zero⟩, 999, 1, 0, false, false⟩, [], 0⟩ }

theorem test_wit_PointPeriodMakesRecord_arrival :
    acceptedSlot (lastSlot ⟨.none, .none, .none, .none⟩ true) (.arrival (tg 0 7 5000 450 3000)) = some (tg 0 7 5000 450 3000)
      ∧ (lastSlot ⟨.none, .none, .none, .none⟩ true).store.active.isSome = true
      ∧ (lastSlot ⟨.none, .none, .none, .none⟩ true).brk.state = .running
      ∧ (lastSlot ⟨.none, .none, .none, .none⟩ true).head.position.toNat ≠ recipe1.geometry.a
      ∧ (lastSlot ⟨.none, .none, .none, .none⟩ true).edges.locked = false
      ∧ max recipe1.geometry.a (min recipe1.geometry.b 700) = 700 ∧ max recipe1.geometry.a (min recipe1.geometry.b 500) ≠ 700
      ∧ (lastSlot ⟨.none, .none, .none, .none⟩ false).pins.drvRdy = false
      ∧ (lastSlot ⟨.none, .none, .none, .none⟩ true).conv.pendingSet = none := by
  decide +kernel

theorem test_period_end_decides :
    (after (.pointPeriodEnd (.arrival (tg 0 7 5000 450 3000))) (lastSlot ⟨.none, .point 700, .none, .none⟩ false)).head.state = .singlePoint
      ∧ (after (.pointPeriodEnd (.arrival (tg 0 7 5000 450 3000))) (lastSlot ⟨.none, .point 700, .none, .none⟩ true)).points.ring.map
        (fun r => (r.accepted, r.avg.bw)) = [(1000, some 5000)]
      ∧ (after (.pointPeriodEnd .missing) (lastSlot ⟨.none, .point 500, .none, .none⟩ true)).head.state = .positioning
      ∧ (after (.pointPeriodEnd .missing) (lastSlot ⟨.none, .none, .standardize, .none⟩ true)).head.state = .returning
      ∧ (after (.pointPeriodEnd .missing) (lastSlot ⟨.none, .none, .none, .none⟩ true)).head.state = .scanning .approach
      ∧ (after (.pointPeriodEnd .missing) (lastSlot ⟨.none, .none, .none, .none⟩ false)).head.cause = .drive := by
  decide +kernel

theorem test_wit_ReadTrendReplies :
    ((onS0 work (fun p => { p with replies := replies 2, pending := some pend1 })).ports.get .n0).pending ≠ none
      ∧ (replies 2).length < 3 ∧ (replies 3).length < 4 := by
  decide +kernel

theorem test_wit_SpeedUnitEvents :
    work.speed.lossTimer = .stopped ∧ ({ work.speed with lossTimer := .running 500000 } : Speed).lossTimer.isRunning = true
      ∧ work.store.machineSet = true ∧ ({ work.speed with increment := 1 } : Speed).increment ≠ 0
      ∧ work.store.machine.minRunSpeed ≤ 100 ∧ 99 < work.store.machine.minRunSpeed := by
  decide +kernel

/-- A state with one detector's level and state. -/
def detAt (s : State) (d : Detector) (asserted tripped : Bool) (b : BreakState) : State :=
  { s with brk := { s.brk with state := b, det := s.brk.det.set d ⟨asserted, 0, tripped⟩ } }

theorem test_wit_TripEntersBreak :
    (detAt scan1 .press true false .running).activeRecipe = some recipe1 ∧ recipe1.brk.enables.get .press = true
      ∧ ((detAt scan1 .press true false .running).brk.det.get .press).asserted = true
      ∧ ((detAt scan1 .press true false .running).brk.det.get .press).tripped = false
      ∧ (detAt scan1 .press true false .running).store.pendingSlot = none ∧ measuringLeg scan1.head.state = true
      ∧ scan1.head.position ≠ 0 ∧ (detAt point1 .press true false .threading).head.state = .singlePoint
      ∧ (detAt scan1 .press true false .break_).brk.state = .break_ ∧ (detAt scan1 .press true false .recovering).brk.state = .recovering := by
  decide +kernel

theorem test_wit_TripEntersBreak_heads :
    (detAt (std1 .zero true) .press true false .running).std.phase ≠ .idle
      ∧ (detAt (moving .positioning 5 9) .press true false .running).head.state = .positioning
      ∧ (detAt (moving (.scanning .approach) 0 0) .press true false .recovering).head.position = 0
      ∧ (detAt State.reset .press true false .running).head.state = .homing
      ∧ ({ detAt point1 .press true false .running with pins := Pins.low } : State).pins.drvRdy = false
      ∧ (detAt pending1 .press true false .running).store.pendingSlot = some .n1
      ∧ (detAt pending1 .press true false .running).activeRecipe = some recipe1 := by
  decide +kernel

theorem test_wit_TripEntersBreak_told :
    Told (onS0 work (fun p => { p with present := true, notices := [⟨.breakState .break_ ⟨⟨false, true, false, false⟩, false⟩ 1, none⟩] }))
      (.breakState .break_ ⟨⟨false, true, false, false⟩, false⟩ 1) := by
  intro st h
  cases st
  · exact ⟨_, List.mem_singleton.mpr rfl, Or.inl rfl⟩
  all_goals cases h

theorem test_wit_LastClearEntersThreading_others :
    ∀ e, e ≠ Detector.press → ((detAt work .press false true .break_).brk.det.get e).tripped = false := by
  intro e h
  cases e <;> first | rfl | exact absurd rfl h

theorem test_wit_LastClearEntersThreading :
    ((detAt work .press false true .break_).brk.det.get .press).asserted = false
      ∧ ((detAt work .press false true .break_).brk.det.get .press).tripped = true ∧ recipe1.brk.threadingHold ≠ 0
      ∧ ({ (detAt work .press false false .threading).brk with threadingTimer := .running 60000000 } : Supervisor).threadingTimer.isRunning = true
      ∧ recipe1.brk.autoResume = true ∧ Recipe.default.brk.autoResume = false ∧ scan1.head.state ≠ .parked
      ∧ work.brk.threadingTimer = .stopped := by
  decide +kernel

/-- The part at work with a threading hold of 0 and an auto-resume option, one detector TRIPPED and deasserted. -/
def hold0 (auto : Bool) : State :=
  let s := detAt work .press false true .break_
  { s with store := storeOf .active { recipe1 with brk := { recipe1.brk with threadingHold := 0, autoResume := auto } } }

theorem test_wit_LastClearEntersThreading_hold_0 :
    (hold0 true).recipe.brk.threadingHold = 0 ∧ (hold0 true).recipe.brk.autoResume = true
      ∧ (hold0 false).recipe.brk.autoResume = false ∧ (hold0 true).head.state = .parked ∧ (hold0 true).head.scan = none
      ∧ (hold0 true).store.machineSet = true ∧ (hold0 true).store.active = some .n0
      ∧ ((hold0 true).brk.det.get .press).tripped = true := by
  decide +kernel

theorem test_wit_ResumeEntersRecovering :
    (work.brk.state ≠ .threading ∧ (detAt scan1 .wet false false .threading).brk.state = .threading
      ∧ scan1.head.state ≠ .parked ∧ (detAt work .wet false false .threading).head.state = .parked
      ∧ work.head.scan = none ∧ work.store.machineSet = true ∧ Store.reset.machineSet = false)
      ∧ ∀ j, work.head.slots.get j ≠ .park := by
  refine ⟨by decide, fun j => ?_⟩
  cases j <;> decide

/-- A locked scan with an absence window one assessed sample short. -/
def absent1 (present : Nat) (short : Bool) : State :=
  { scan1 with
    edges := ⟨.clear, true, some ⟨450, 999⟩, none, 0, 0⟩, absent := ⟨true, 63, present, short⟩ }

theorem test_plain_absent1 (present : Nat) (short : Bool) : PlainSlot (absent1 present short) :=
  ⟨by simp [absent1, scan1, work, HeadLink.reset], fun _ h => by cases h⟩

theorem test_wit_AbsentWindowJudged :
    (absent1 2 true).std.phase = .idle ∧ (absent1 2 true).activeRecipe = some recipe1
      ∧ (absent1 2 true).head.state = .scanning .fwd ∧ (absent1 2 true).link.state = .sync
      ∧ (absent1 2 true).edges.lockedEdges = some ⟨450, 999⟩ ∧ (absent1 2 true).speed.atSpeed = true
      ∧ 450 ≤ (absent1 2 true).head.position.toNat ∧ (absent1 2 true).head.position.toNat ≤ 999
      ∧ (absent1 2 true).absent.assessed = 63 ∧ (tg 0 7 0 0 0).seq = (absent1 2 true).link.expected
      ∧ ((absent1 2 true).convert (tg 0 7 0 0 0)).present = false ∧ ((absent1 2 true).convert (tg 0 7 5000 1 1)).present = true
      ∧ (absent1 2 true).brk.det.map (fun x => x.tripped) = ⟨false, false, false, false⟩ ∧ recipe1.brk.absentMode = .confirmed
      ∧ recipe1.brk.threadingHold ≠ 0 ∧ (absent1 2 true).brk.state = .running := by
  decide +kernel

theorem test_wit_AbsentWindowJudged_forms :
    AssessedArrival (absent1 2 true) (tg 0 7 0 0 0)
      ∧ AssessedArrival { point1 with edges := ⟨.clear, true, some ⟨450, 700⟩, none, 0, 0⟩, absent := ⟨true, 63, 0, true⟩ } (tg 0 7 0 0 0)
      ∧ AssessedArrival { absent1 0 true with head := { scan1.head with state := .scanning .approach, scan := none } } (tg 0 7 0 0 0)
      ∧ (detAt (absent1 0 true) .dry true true .running).brk.det.map (fun x => x.tripped) ≠ ⟨false, false, false, false⟩
      ∧ ({ absent1 0 true with store := pending1.store } : State).store.pendingSlot = some .n1 := by
  refine ⟨⟨⟨by decide, fun _ h => by cases h⟩, by decide, by decide, by decide, by decide, by decide +kernel,
      by decide +kernel, ⟨450, 999⟩, rfl, Or.inl ⟨⟨.fwd, rfl⟩, by decide, by decide⟩⟩,
    ⟨⟨by decide, fun p h => by cases h; decide⟩, by decide, by decide, by decide, by decide, by decide +kernel,
      by decide +kernel, ⟨450, 700⟩, rfl, Or.inr ⟨rfl, by decide, by decide⟩⟩,
    ⟨⟨by decide, fun _ h => by cases h⟩, by decide, by decide, by decide, by decide, by decide +kernel,
      by decide +kernel, ⟨450, 999⟩, rfl, Or.inl ⟨⟨.approach, rfl⟩, by decide, by decide⟩⟩, by decide, by decide⟩

/-- Samples assessed in a window, the hole detector at a run length. -/
def hole1 (n run counter : Nat) (marker : Bool) : State :=
  { absent1 0 false with absent := ⟨true, n, 0, false⟩, hole := { Hole.reset with run := run, marker := marker, counter := counter } }

theorem test_wit_HoleRunFollowsTable :
    AssessedArrival (hole1 62 33 65535 true) (tg 0 7 5000 1 1) ∧ (hole1 62 33 65535 true).absent.assessed < 63
      ∧ (hole1 62 33 65535 true).hole.run ≤ 33 ∧ (hole1 62 33 65535 true).hole.counter ≤ 65535 := by
  refine ⟨⟨⟨by decide, fun _ h => by cases h⟩, by decide, by decide, by decide, by decide, by decide +kernel, by decide +kernel,
    ⟨450, 999⟩, by decide, Or.inl ⟨⟨.fwd, by decide⟩, by decide, by decide⟩⟩, by decide, by decide, by decide⟩

theorem test_wit_HoleRunFollowsTable_single_point :
    AssessedArrival { point1 with edges := ⟨.clear, true, some ⟨700, 999⟩, none, 0, 0⟩ } (tg 0 7 5000 1 1) := by
  refine ⟨⟨by decide, fun p h => by cases h; decide⟩, by decide, by decide, by decide, by decide, by decide +kernel,
    by decide +kernel, ⟨700, 999⟩, by decide, Or.inr ⟨by decide, by decide, by decide⟩⟩

theorem test_wit_HoleRunFollowsTable_outside :
    OutsideArrival { absent1 0 false with edges := ⟨.clear, true, some ⟨450, 998⟩, none, 0, 0⟩ } (tg 0 7 0 0 0)
      ∧ OutsideArrival { point1 with edges := ⟨.clear, true, some ⟨701, 999⟩, none, 0, 0⟩ } (tg 0 7 0 0 0) := by
  refine ⟨⟨⟨by decide, fun _ h => by cases h⟩, by decide, by decide, by decide, by decide, by decide +kernel,
      by decide +kernel, ⟨450, 998⟩, rfl, Or.inl ⟨⟨.fwd, rfl⟩, by decide⟩⟩,
    ⟨⟨by decide, fun p h => by cases h; decide⟩, by decide, by decide, by decide, by decide, by decide +kernel,
      by decide +kernel, ⟨701, 999⟩, rfl, Or.inr ⟨rfl, by decide⟩⟩⟩

theorem test_wit_HoleReportsTransfer :
    scan1.recipe.holes.mode = .auto ∧ State.reset.activeRecipe = none ∧ scan1.activeRecipe = some recipe1
      ∧ ({ work with store := storeOf .active { recipe1 with holes := ⟨4, .manual⟩ } } : State).recipe.holes.mode = .manual
      ∧ scan1.ring.filling = some 0 := by
  decide +kernel

theorem test_wit_LimitEntryJudged :
    (scan1.limits.states.length = 16 ∧ scan1.recipe.limits.length = 16 ∧ scan1.store.pendingSlot = none
      ∧ scan1.brk.state ≠ .recovering ∧ scan1.store.machine.minRunSpeed ≤ scan1.speed.speed
      ∧ (∃ r, scan1.ring.records[0]? = some r ∧ r.quality.provisional = false))
      ∧ ∀ (j : Nat) (r : ScanRecord), scan1.ring.records[j]? = some r → r.status = .complete →
          r.number ≠ some (scan1.ring.newest + 1) := by
  refine ⟨⟨by decide, by decide, by decide, by decide, by decide, _, rfl, by decide⟩, fun j r h hc => ?_⟩
  have hm : r ∈ scan1.ring.records := List.mem_of_getElem? h
  have : ∀ x ∈ scan1.ring.records, x.status ≠ .complete := by decide
  exact absurd hc (this r hm)

theorem test_wit_LimitEntryJudged_band :
    (⟨.avg, .bw, .high, .quiet, true, 100, 10⟩ : LimitEntry).judge (some 101) .clear = .exceeded
      ∧ (⟨.avg, .bw, .high, .quiet, true, 100, 10⟩ : LimitEntry).judge (some 91) .exceeded = .exceeded
      ∧ (⟨.avg, .bw, .high, .quiet, true, 100, 10⟩ : LimitEntry).judge (some 90) .exceeded = .clear
      ∧ (⟨.avg, .bw, .low, .signal, true, 100, 10⟩ : LimitEntry).judge none .clear = .unknown := by
  decide +kernel

theorem test_zone_values_checked :
    ChecksValue ⟨.zoneMax, .bw, .high, .quiet, true, 100, 10⟩ ⟨none, [], [], [], [some 3, none, some 5], none, none⟩ (some 5)
      ∧ ChecksValue ⟨.zoneMin, .bw, .high, .quiet, true, 100, 10⟩ ⟨none, [], [], [], [some 3, none, some 5], none, none⟩ (some 3)
      ∧ ChecksValue ⟨.zoneMin, .bw, .high, .quiet, true, 100, 10⟩ ⟨none, [], [], [], [none], none, none⟩ none
      ∧ ChecksValue ⟨.spread, .bw, .high, .quiet, true, 100, 10⟩ ⟨none, [], [], [], [], some 7, none⟩ (some 7) := by
  simp [ChecksValue]

/-- The scan one count before its limit, its first limit entry a SIGNAL check of an average that comes out void. -/
def limit1 : State :=
  hears { scan1 with store := storeOf .active { recipe1 with
    limits := ⟨.avg, .bw, .low, .signal, true, 100, 10⟩ :: List.replicate 15 LimitEntry.end_ } } false

theorem test_changed_entry_is_told :
    limit1.limits.states[0]? = some .clear ∧ limit1.recipe.limits.length = 16
      ∧ (after (.encoderCount .towardB) limit1).limits.states[0]? = some .unknown
      ∧ (((after (.encoderCount .towardB) limit1).ports.get .n0).notices.map (fun e => e.content)).take 2
        = [.scanDone 1 .fwd ⟨false, false, false, true, false, true⟩ ⟨none, none, none⟩,
          .limit (.unknown :: List.replicate 15 .clear) 0 true 1] := by
  decide +kernel

/-- A machine body of a frame length and a samples value. -/
def machineBody (len samples : Nat) : List Byte :=
  le16 len ++ le32 167772 ++ le16 5000 ++ le16 2500 ++ le16 3000 ++ le16 50 ++ le16 50 ++ le16 50 ++ le16 200
    ++ le16 samples ++ le16 100 ++ [0, 1, 0, 1]

theorem test_wit_MachineWriteReplacesRecord :
    (machineBody 4000 64).length = 28 ∧ (machineOf? (machineBody 4000 64)).isSome = true
      ∧ machineOf? (machineBody 4000 64 |>.set 27 2) = none ∧ scan1.head.state ≠ .parked ∧ scan1.head.state ≠ .homing
      ∧ scan1.head.state ≠ .fault ∧ work.head.state = .parked ∧ (64 : Nat) ∈ [64, 128, 256, 512, 1024]
      ∧ (63 : Nat) ∉ [64, 128, 256, 512, 1024] := by
  decide +kernel

theorem test_wit_MachineWriteReplacesRecord_frame :
    frameBelowB { work with store := storeOf .active { recipe1 with geometry := ⟨400, 4001, 400, 20, 30, 0⟩ } } 4000 :=
  ⟨.n0, by decide, by decide⟩

theorem test_wit_MachineWriteReplacesRecord_no_frame : ¬frameBelowB work 4000 := by
  rintro ⟨i, hs, hb⟩
  cases i <;> revert hs hb <;> decide

theorem test_machine_body_by_offsets : machineOf? (machineBody 4000 64) = some (machineAt (machineBody 4000 64)) := by
  decide +kernel

theorem test_wit_RecipeWriteStoresClamped :
    lengthOk .recipeWrite [1, 1, 0, 0, 0, 0] = true ∧ ix4? 3 = some .n3 ∧ ix4? 4 = none ∧ groupOf? 8 = some .limits
      ∧ groupOf? 9 = none ∧ (work.store.slots.get .n0).state = .active ∧ (work.store.slots.get .n1).state ≠ .active
      ∧ groupBodyOf? .motion [1, 1, 0, 0, 0, 0] 2 = some (.motion ⟨0, 0⟩) ∧ groupInRange (.motion ⟨0, 0⟩) = .motion ⟨1, 100⟩
      ∧ lengthOk .recipeWrite [1, 7, 4, 2] = true ∧ groupBodyOf? .holes [1, 7, 4, 2] 2 = none := by
  decide +kernel

theorem test_wit_RecipeWriteStoresClamped_codes :
    groupListed [1, 5, 128] .zones ∧ ¬groupListed [1, 5, 129] .zones ∧ groupListed [1, 7, 4, 1] .holes
      ∧ ¬groupListed [1, 7, 4, 2] .holes ∧ ¬groupListed [1, 6, 2] .brk
      ∧ groupBodyOf? .holes [1, 7, 4, 1] 2 = some (groupAt [1, 7, 4, 1] .holes) := by
  unfold groupListed; decide +kernel

theorem test_wit_RecipeWriteStoresClamped_limits :
    groupListed (List.replicate 162 0) .limits ∧ ¬groupListed ((List.replicate 162 0).set 152 5) .limits := by
  unfold groupListed
  refine ⟨?_, fun h => ?_⟩
  · decide +kernel
  · exact absurd (h 15 (by decide)).1 (by decide +kernel)

/-- Slot 1 in a state with a recipe, slot 0 ACTIVE. -/
def slot1 (st : SlotState) (r : Recipe) : State :=
  { work with store := { work.store with slots := { work.store.slots with x1 := ⟨st, 7, r⟩ } } }

theorem test_all_checks_pass : ∀ m, 1 ≤ m → m ≤ 5 → checkPasses (slot1 .editing recipe1) recipe1 m := by
  intro m h h'
  interval_cases m
  · rfl
  · exact ⟨by decide, by decide, by decide⟩
  · exact ⟨by decide, by decide⟩
  · refine ⟨fun z hz => ?_, fun k y z hy => ?_⟩
    · cases hz
    · have h0 : recipe1.zones = [] := rfl
      rw [h0] at hy
      simp at hy
  · intro _ e he; revert e; decide

theorem test_second_check_fails :
    ¬checkPasses (slot1 .editing recipe1) { recipe1 with geometry := ⟨399, 1000, 400, 20, 30, 0⟩ } 2 := by
  rintro ⟨h, -⟩; revert h; decide

theorem test_wit_ValidateRunsChecks :
    ix4? 1 = some .n1 ∧ ((slot1 .editing recipe1).store.slots.get .n1).state = .editing
      ∧ (work.store.slots.get .n0).state = .active ∧ (work.store.slots.get .n3).state = .empty ∧ 3 < (4 : Byte).toNat := by
  decide +kernel

theorem test_wit_SelectBySlotState :
    ((slot1 .valid recipe1).store.slots.get .n1).state = .valid ∧ (slot1 .valid recipe1).head.scan = none
      ∧ ({ slot1 .valid recipe1 with head := scan1.head } : State).head.scan.isSome = true
      ∧ ((slot1 .pending recipe1).store.slots.get .n1).state = .pending
      ∧ (work.store.slots.get .n0).state = .active
      ∧ (slot1 .valid recipe1).brk.det.map (fun y => y.tripped) = ⟨false, false, false, false⟩
      ∧ Recipe.default.brk.enables = ⟨false, false, false, false⟩ ∧ ix4? 0 = some .n0 := by
  decide +kernel

/-- Slot 1 VALID with no slot ACTIVE, the break state IDLE, one detector's unit as given. -/
def idle1 (u : DetectorUnit) : State :=
  { work with
    brk := { work.brk with state := .idle, det := work.brk.det.set .press u }
    store := { storeOf .valid recipe1 with slots := { (storeOf .valid recipe1).slots with x1 := ⟨.valid, 7, recipe1⟩ } } }

theorem test_wit_SelectBySlotState_idle :
    ((idle1 ⟨true, 100, false⟩).store.slots.get .n1).state = .valid ∧ (idle1 ⟨true, 100, false⟩).head.scan = none
      ∧ (idle1 ⟨true, 100, false⟩).brk.state = .idle ∧ QuietUnder recipe1 (idle1 ⟨true, 99, false⟩)
      ∧ ¬QuietUnder recipe1 (idle1 ⟨true, 100, false⟩) := by
  refine ⟨by decide, by decide, by decide, fun d => by cases d <;> decide, fun h => absurd (h .press) (by decide)⟩

/-- The part at work with slot 1 VALID and the limit entries 2 and 5 not clear. -/
def exceeded1 : State :=
  hears { slot1 .valid recipe1 with
    limits := ⟨[.clear, .clear, .exceeded, .clear, .clear, .unknown] ++ List.replicate 10 .clear, true⟩ } true

theorem test_activation_clears_limits_and_tells :
    exceeded1.limits.states.length = 16 ∧ exceeded1.limits.states[5]? = some .unknown
      ∧ (exceeded1.limits.states.drop 6).all (fun z => z == .clear) = true
      ∧ (((after (.select .n0 1 [1]) exceeded1).ports.get .n0).notices.map (fun e => e.content)).take 2
        = [.limit (List.replicate 16 .clear) 5 false 0, recipeNews (after (.select .n0 1 [1]) exceeded1) .activated] := by
  decide +kernel

theorem test_wit_SelectBySlotState_pending : ∃ j, ((slot1 .pending recipe1).store.slots.get j).state = .pending := ⟨.n1, rfl⟩

theorem test_wit_SelectBySlotState_none_pending : ∀ j, (work.store.slots.get j).state ≠ .pending := by
  intro j; cases j <;> decide

theorem test_wit_RequestsJudgedInOrder :
    4 ≤ (replies 4).length ∧ (replies 3).length < 4 ∧ lengthOk .status [0] = false ∧ lengthOk .select [0] = true
      ∧ (RequestKind.select ≠ .status ∧ RequestKind.select ≠ .cancel) ∧ (List.replicate 1100 (0 : Byte)).length ≤ 1100
      ∧ 0x12 < (0x13 : Byte).toNat ∧ (0 : Byte).toNat = 0 ∧ fixedLength .readScan = some 14 := by
  decide +kernel

theorem test_recipe_write_lengths :
    recipeWriteFits [1, 1, 0, 0, 0, 0] ∧ ¬recipeWriteFits [1, 1, 0, 0, 0] ∧ ¬recipeWriteFits [1]
      ∧ recipeWriteFits [1, 9] ∧ recipeWriteFits [1, 5, 0, 0] ∧ ¬recipeWriteFits [1, 5, 1, 0, 0, 0, 0]
      ∧ recipeWriteFits [1, 5, 1, 0, 0, 0, 0, 0] ∧ ¬recipeWriteFits [1, 5, 0] := by
  simp [recipeWriteFits, b8]

theorem test_bytes_of_worked_payloads :
    (ReplyBody.mode .clamped (.point 400)).bytes ring1 = [1, 3, 0, 0x90, 0x01]
      ∧ (ReplyBody.machine .ok true machine1).bytes ring1 = wire ([w8 0, w8 1] ++ machineFields machine1)
      ∧ (Notice.scanDone 0x0102 .rev ⟨true, false, false, false, false, true⟩ ⟨some (-2), none, some 3⟩).bytes
        = [0x02, 0x01, 0x01, 0x21, 0xFE, 0xFF, 0x00, 0x80, 0x03, 0x00] := by
  decide +kernel

theorem test_wit_StationReceiver :
    (work.ports.get .n0).rx = .hunt
      ∧ ((onS0 work (fun p => { p with rx := .receiving [1, 0, 0x4C], gapTimer := .running 50 })).ports.get .n0).rx = .receiving [1, 0, 0x4C]
      ∧ ([1, 0, 0x4C] ++ [4] : List Byte).length = 4 ∧ (0x4C : Byte).toNat + 256 * (4 : Byte).toNat = 1100
      ∧ 1100 < (0x4D : Byte).toNat + 256 * (4 : Byte).toNat
      ∧ ((onS0 work (fun p => { p with gapTimer := .running 50 })).ports.get .n0).gapTimer.isRunning = true
      ∧ (work.ports.get .n0).gapTimer = .stopped := by
  decide +kernel

theorem test_wit_TelegramArrives :
    work.settle = work ∧ ([] : List Byte).length ≤ 1100 ∧ (wireCharacters .n0 [1, 5, 0, 0, 0x12, 0x34]).length = 6
      ∧ (le16 (crc16 [1, 5, 0, 0]).toNat).length = 2 ∧ (1 : Byte) = BitVec.ofNat 8 RequestKind.status.code := by
  decide +kernel

theorem test_wit_AbsenceTearsPortDown :
    ((onS0 scan1 (fun p => { p with present := true, presenceTimer := .running 2000000 })).ports.get .n0).presenceTimer.isRunning = true
      ∧ scan1.head.state ≠ .parked ∧ (work.ports.get .n0).presenceTimer = .stopped ∧ work.head.state = .parked
      ∧ ({ work with brk := Supervisor.reset Pins.low.det, store := .reset } : State).store.active = none
      ∧ work.std.stdDue = false ∧ work.head.scan = none ∧ work.store.machineSet = true ∧ work.pins.drvRdy = true
      ∧ work.head.position.toNat ≠ work.recipe.geometry.a ∧ (Four.set ⟨.park, .none, .none, .none⟩ .n0 .none : Four ModeSlot) = ⟨.none, .none, .none, .none⟩ := by
  decide +kernel

theorem test_wit_AbsenceTearsPortDown_park :
    LowestWith (Four.set ⟨.park, .none, .park, .park⟩ .n0 .none) (fun m => m = .park) .n2 := by
  refine ⟨rfl, fun j h => ?_⟩
  cases j <;> revert h <;> decide

theorem test_wit_LastCharacterLeavesQueue :
    (work.ports.get .n0).tx = .idle
      ∧ ((onS0 work (fun p => { p with tx := .reply, replies := [⟨some .readScan, 1, .scan 0 ⟨.bw, .means, 0, 0⟩⟩] })).ports.get .n0).tx = .reply
      ∧ ((onS0 work (fun p => { p with tx := .notice, notices := [⟨.headLink .lost 5, some (.headLink .sync 0)⟩] })).ports.get .n0).tx = .notice := by
  decide +kernel

theorem test_only_the_first_character_sent_is_marked :
    (onS0 work (fun p => { p with tx := .reply, replies := [⟨some .mode, 9, .status .ok⟩] })).txTelegram .n0
        = some (sentCharacters ([0x47, 9, 1, 0, 0] ++ le16 (crc16 [0x47, 9, 1, 0, 0]).toNat))
      ∧ sentCharacters [0x47, 9, 1] = [⟨true, false, 0x47⟩, ⟨false, false, 9⟩, ⟨false, false, 1⟩]
      ∧ work.txTelegram .n0 = none := by
  decide +kernel

theorem test_wit_SubscribeAndOffers :
    (1 : Byte) ≠ 0 ∧ 1 < (2 : Byte).toNat ∧ (1 : Byte).toNat ≤ 1
      ∧ (Port.reset.sub.mask.getLsbD 5 = false ∧ (Notice.headLink .lost 5).kind ≠ .breakState)
      ∧ ({ Port.reset with present := true, sub := ⟨0xFF, true, true⟩ } : Port).takes (.headLink .lost 5) = true
      ∧ ({ Port.reset with present := true } : Port).takes (.breakState .break_ ⟨⟨true, false, false, false⟩, false⟩ 1) = true := by
  decide +kernel

theorem test_wit_DeviceResetState :
    work.pins.otA = false ∧ work.pins.otB = false ∧ ({ work.pins with otB := true } : Pins).otB = true := by
  decide +kernel

theorem test_wit_invariants_hold_at_work :
    CounterBounds scan1 ∧ BreakRelay scan1 ∧ RecipeSlots scan1 ∧ HoldKeepsHead scan1 ∧ ScansFillOneRecord scan1 := by
  refine ⟨?_, ?_, ?_, ?_, ?_⟩
  · unfold CounterBounds; decide
  · unfold BreakRelay; decide
  · unfold RecipeSlots; decide
  · unfold HoldKeepsHead; decide
  · unfold ScansFillOneRecord; decide

/-- The ring with one record held, by S0, which is PRESENT. -/
def held1 : State :=
  onS0 { work with ring := { ring1 with records := ring1.records.set 7 (done1 65531 false) } }
    (fun p => { p with present := true, presenceTimer := .running 2000000 })

theorem test_only_record_3_held : ∀ k < 8, ∀ r, held1.ring.records[k]? = some r → ∀ st, r.holds.get st = true → k = 3 ∧ st = .n0 := by
  intro k hk r hr st h
  interval_cases k <;> cases st <;> cases hr <;> revert h <;> decide

theorem test_wit_KeepsHeldRecordsComplete : HoldsKept held1 ∧ ScansFillOneRecord held1
    ∧ held1.ring.records[3]? = some (done1 65534 true) ∧ (done1 65534 true).holds.get .n0 = true
    ∧ Instr.lastCharacterSent .n1 ≠ .lastCharacterSent .n0 := by
  refine ⟨⟨by unfold HeldAreComplete; decide +kernel, fun st => ⟨?_, ?_, ?_⟩⟩, by unfold ScansFillOneRecord; decide, rfl, rfl, by decide⟩
  · intro i j a b hi hj ha hb
    have hi8 : i < 8 := (List.getElem?_eq_some_iff.mp hi).1
    have hj8 : j < 8 := (List.getElem?_eq_some_iff.mp hj).1
    rw [(test_only_record_3_held i hi8 a hi st ha).1, (test_only_record_3_held j hj8 b hj st hb).1]
  · cases st
    · intro h; revert h; decide
    all_goals exact fun _ => by decide +kernel
  · cases st <;> decide

theorem test_wit_UntimedLinkIsLost :
    (untimed 0).link.missingTimer = .stopped ∧ UntimedLinkIsLost (untimed 0) ∧ UntimedLinkIsLost work := by
  unfold UntimedLinkIsLost; decide

theorem test_wit_held_records_and_ports : HeldAreComplete reads1 ∧ PortQueues reads1 := by
  refine ⟨by unfold HeldAreComplete; decide +kernel, fun st => ?_⟩
  cases st <;> exact ⟨by decide, by decide, by decide, by decide, by decide⟩

/-- The premise of every statement about a served request, MACHINE_READ's among them, at its boundary too. -/
theorem test_wit_Ready : Ready work .n0 ∧ Ready (onS0 work (fun p => { p with replies := replies 3 })) .n0 := by
  unfold Ready; decide +kernel

/-! ## One small step for each command -/

theorem test_device_reset_starts_homing :
    (after .deviceReset work).head.state = .homing ∧ (after .deviceReset work).head.drvEn = true
      ∧ (after .deviceReset work).brk.state = .idle ∧ (after .deviceReset work).pins = work.pins := by
  decide +kernel

theorem test_device_reset_under_overtravel_faults :
    (after .deviceReset { work with pins := { work.pins with otA := true } }).head.state = .fault
      ∧ (after .deviceReset { work with pins := { work.pins with otA := true } }).head.cause = .overtravel := by
  decide +kernel

theorem test_good_arrival_moves_expected :
    (after (.sampleTelegramArrival (tg 0 7 1 1 1)) work).link.expected = 1
      ∧ (after (.sampleTelegramArrival (tg 0 7 1 1 1)) work).link.badCount = 0 := by
  decide +kernel

theorem test_arrival_out_of_sequence_is_bad :
    (after (.sampleTelegramArrival (tg 9 7 1 1 1)) work).link.expected = 0
      ∧ (after (.sampleTelegramArrival (tg 9 7 1 1 1)) work).link.badCount = 1 := by
  decide +kernel

theorem test_missing_slot_is_bad :
    (after .missingSlot work).link.badCount = 1 ∧ (after .missingSlot work).link.missingTimer = .running 500 := by
  decide +kernel

theorem test_window_of_five_bad_slots_is_lost :
    (after (.windowEnd .missing) (linkAt 63 4)).link.state = .lost ∧ (after (.windowEnd .missing) (linkAt 63 4)).link.resync = true := by
  decide +kernel

theorem test_window_of_four_bad_slots_is_sync :
    (after (.windowEnd .missing) (linkAt 63 3)).link.state = .sync ∧ (after (.windowEnd .missing) (linkAt 63 3)).link.slotCount = 0 := by
  decide +kernel

theorem test_waiting_head_command_follows :
    (after .headCommandSent { work with link := { work.link with sending := some .refIn, waiting := some .refOut } }).link.sending = some .refOut := by
  decide +kernel

theorem test_slot_limit_fails_with_no_data :
    (after (.stdSlotLimit .missing) { std1 .zero true with std := { (std1 .zero true).std with slotCount := 255 } }).std.reasons
        = ⟨.noData, .noData, .noData⟩
      ∧ (after (.stdSlotLimit .missing) { std1 .zero true with std := { (std1 .zero true).std with slotCount := 255 } }).std.phase = .withdraw := by
  decide +kernel

theorem test_tile_timer_expiry_withdraws :
    (after .tileTimerExpiry (std1 .reference false)).std.phase = .withdraw
      ∧ (after .tileTimerExpiry (std1 .reference false)).std.reasons = ⟨.tile, .tile, .tile⟩ := by
  decide +kernel

theorem test_withdraw_timer_expiry_faults :
    (after .withdrawTimerExpiry std2).head.state = .fault ∧ (after .withdrawTimerExpiry std2).head.cause = .tile
      ∧ (after .withdrawTimerExpiry std2).conv.pendingSet = none := by
  decide +kernel

theorem test_stuck_tile_notices_in_order :
    ((after .withdrawTimerExpiry (onS0 std2 (fun p => { p with
      present := true, tx := .reply, replies := replies 1, sub := ⟨0xFF, true, true⟩ }))).ports.get .n0).notices.map
        (fun e => e.content.kind) = [.standardize, .headState] := by
  decide +kernel

theorem test_tile_clearing_commits :
    (after (.sampleTelegramArrival (tg 0 7 1 1 1)) std2).conv.epoch = 2
      ∧ (after (.sampleTelegramArrival (tg 0 7 1 1 1)) std2).std.outcome = .commit := by
  decide +kernel

theorem test_count_toward_b_raises_the_position :
    (after (.encoderCount .towardB) work).head.position = 1 ∧ (after (.encoderCount .towardA) work).head.position = 65535 := by
  decide +kernel

theorem test_scan_completes_at_its_limit :
    (after (.encoderCount .towardB) scan1).ring.newest = 1 ∧ (after (.encoderCount .towardB) scan1).head.state = .scanning .rev
      ∧ (after (.encoderCount .towardB) scan1).trend.length = 1 := by
  decide +kernel

theorem test_index_ends_homing :
    (after .indexPulse State.reset).head.state = .parked ∧ (after .indexPulse work).head = work.head := by
  decide +kernel

theorem test_drive_not_ready_faults_while_driving :
    (after .drvRdyLow scan1).head.cause = .drive ∧ (after .drvRdyLow work).head.state = .parked
      ∧ ((after .drvRdyLow scan1).ring.at 0).status = .void := by
  decide +kernel

theorem test_drive_ready_starts_the_search :
    (after .drvRdyHigh State.reset).head.drvEn = true ∧ (after .drvRdyHigh State.reset).head.drvDir = false
      ∧ (after .drvRdyHigh State.reset).head.drvSpd = 1 := by
  decide +kernel

theorem test_encoder_loss_faults :
    (after .encoderLossTimerExpiry scan1).head.cause = .encoder ∧ (after .encoderLossTimerExpiry work).head.state = .parked := by
  decide +kernel

theorem test_overtravel_faults :
    (after (.overtravel .b true) work).head.cause = .overtravel ∧ (after (.overtravel .b false) work).head.state = .parked := by
  decide +kernel

theorem test_homing_timer_faults :
    (after .homingTimerExpiry State.reset).head.cause = .homing ∧ (after .homingTimerExpiry work).head.state = .parked := by
  decide +kernel

theorem test_point_period_end_makes_a_record :
    (after (.pointPeriodEnd .missing) { point1 with
      points := ⟨some ⟨700, 2000, 1999, ⟨.zero, .zero, .zero⟩, 0, 1, 0, false, false⟩, [], 0⟩ }).points.next = 1
      ∧ (after (.pointPeriodEnd .missing) point1).points.next = 0 := by
  decide +kernel

theorem test_wait_timer_expiry_answers_timeout :
    ((after (.waitTimerExpiry .n0) (onS0 work (fun p => { p with pending := some pend1 }))).ports.get .n0).pending = none
      ∧ ((after (.waitTimerExpiry .n0) (onS0 work (fun p => { p with pending := some pend1 }))).ports.get .n0).replies
          = [⟨some .readScan, 5, .timeout 0⟩] := by
  decide +kernel

theorem test_tach_pulse_counts :
    (after .tachPulse work).speed.gateCount = 1 ∧ (after .tachPulse work).speed.watch = .pulsing := by
  decide +kernel

theorem test_gate_end_computes_the_speed :
    (after .speedGateEnd { work with speed := { work.speed with gateCount := 300, increment := 167772 } }).speed.speed = 1800
      ∧ (after .speedGateEnd { work with speed := { work.speed with gateCount := 300, increment := 167772 } }).speed.atSpeed = true := by
  decide +kernel

theorem test_loss_timer_at_speed_holds :
    (after .lossTimerExpiry { work with speed := { work.speed with increment := 1, lossTimer := .running 500000 } }).speed.watch = .held
      ∧ (after .lossTimerExpiry { work with speed := { work.speed with speed := 99, increment := 1, lossTimer := .running 500000 } }).speed.watch
          = .stopped := by
  decide +kernel

theorem test_level_change_restarts_the_age :
    (after (.detectorLevelChange .dry true) work).brk.det.dry = ⟨true, 0, false⟩
      ∧ after (.detectorLevelChange .dry false) work = work := by
  decide +kernel

theorem test_trip_enters_break :
    (after (.debounceExpiry .press) (detAt scan1 .press true false .running)).brk.state = .break_
      ∧ (after (.debounceExpiry .press) (detAt scan1 .press true false .running)).head.state = .returning
      ∧ (after (.debounceExpiry .press) (detAt scan1 .press true false .running)).brk.relay = true := by
  decide +kernel

theorem test_last_clear_enters_threading :
    (after (.debounceExpiry .press) (detAt work .press false true .break_)).brk.state = .threading
      ∧ (after (.debounceExpiry .press) (detAt work .press false true .break_)).brk.relay = false := by
  decide +kernel

theorem test_second_short_window_declares_sheet_absent :
    (after (.absentWindowEnd (tg 0 7 0 0 0)) (absent1 2 true)).brk.state = .threading
      ∧ (after (.absentWindowEnd (tg 0 7 0 0 0)) (absent1 2 true)).brk.causes.absent = true := by
  decide +kernel

theorem test_first_short_window_sets_the_flag :
    (after (.absentWindowEnd (tg 0 7 0 0 0)) (absent1 2 false)).brk.state = .running
      ∧ (after (.absentWindowEnd (tg 0 7 0 0 0)) (absent1 2 false)).absent = ⟨true, 0, 0, true⟩ := by
  decide +kernel

theorem test_threading_expiry_resumes_by_itself :
    (after .threadingTimerExpiry { work with brk := { work.brk with state := .threading, threadingTimer := .running 1 } }).brk.state = .recovering
      ∧ (after .threadingTimerExpiry { work with brk := { work.brk with state := .threading, threadingTimer := .running 1 } }).head.state
          = .standardizing := by
  decide +kernel

theorem test_gap_timer_drops_a_telegram :
    ((after (.gapTimerExpiry .n0) (onS0 work (fun p => { p with rx := .receiving [1], gapTimer := .running 50 }))).ports.get .n0).rx = .hunt := by
  decide +kernel

theorem test_telegram_dropped_hunts :
    ((after (.telegramDropped .n0) (onS0 work (fun p => { p with rx := .receiving [1], gapTimer := .running 50 }))).ports.get .n0).gapTimer = .stopped := by
  decide +kernel

theorem test_absent_station_loses_its_slot :
    (after (.presenceTimerExpiry .n0) (onS0 { scan1 with head := { scan1.head with slots := ⟨.park, .none, .none, .none⟩ } }
      (fun p => { p with present := true, presenceTimer := .running 2000000 }))).head.slots = ⟨.none, .none, .none, .none⟩ := by
  decide +kernel

theorem test_last_character_starts_the_next_reply :
    ((after (.lastCharacterSent .n0) (onS0 work (fun p => { p with tx := .reply, replies := replies 2 }))).ports.get .n0).replies = replies 1
      ∧ ((after (.lastCharacterSent .n0) (onS0 work (fun p => { p with tx := .reply, replies := replies 2 }))).ports.get .n0).tx = .reply := by
  decide +kernel

theorem test_follow_up_goes_to_the_back :
    ((after (.lastCharacterSent .n0) (onS0 work (fun p => { p with tx := .notice, notices := [⟨.headLink .lost 5, some (.headLink .sync 0)⟩] }))).ports.get .n0).notices
        = [⟨.headLink .sync 0, none⟩] := by
  decide +kernel

theorem test_unknown_kind_is_answered :
    ((after (.unknownKind .n0 0x13 9 [1]) work).ports.get .n0).replies.map (fun r => r.body) = [.status .unknownKind] := by
  decide +kernel

theorem test_unknown_kind_reply_is_kind_0x40 :
    (⟨none, 9, .status .unknownKind⟩ : Reply).kindByte = 0x40 ∧ (⟨some .subscribe, 9, .status .ok⟩ : Reply).kindByte = 0x52 := by
  decide +kernel

theorem test_status_makes_its_station_present :
    ((after (.status .n0 1 []) work).ports.get .n0).present = true ∧ ((after (.status .n0 1 []) work).ports.get .n0).replies.length = 1 := by
  decide +kernel

theorem test_status_of_a_wrong_length_is_refused :
    ((after (.status .n0 1 [0]) work).ports.get .n0).replies.map (fun r => r.body) = [.status .badLength] := by
  decide +kernel

theorem test_read_scan_holds_its_record :
    ((after (.readScan .n1 1 (readScan1 1 2 0 0 5)) reads1).ring.at 0).holds = ⟨false, true, false, false⟩ := by
  decide +kernel

theorem test_read_scan_for_a_scan_to_come_waits :
    ((after (.readScan .n1 1 (readScan1 0 0 1 3 0)) reads1).ports.get .n1).pending = some ⟨1, ⟨.bw, .profile, 0, 10⟩, 3, .running 1000000⟩ := by
  decide +kernel

theorem test_read_trend_replies :
    ((after (.readTrend .n0 1 []) work).ports.get .n0).replies.map (fun r => r.body) = [.trend 0 []] := by
  decide +kernel

theorem test_read_points_of_none_is_refused :
    ((after (.readPoints .n0 1 [0, 0, 0, 0]) work).ports.get .n0).replies.map (fun r => r.body) = [.status .badField] := by
  decide +kernel

theorem test_read_points_clamps_its_count :
    ((after (.readPoints .n0 1 [0, 0, 33, 0]) work).ports.get .n0).replies.map (fun r => r.body) = [.points .clamped 0 []] := by
  decide +kernel

theorem test_read_standardization_replies :
    ((after (.readStandardization .n0 1 []) work).ports.get .n0).replies.map (fun r => r.body) = [.standardization work.stdReport] := by
  decide +kernel

theorem test_cancel_ends_the_pending_read :
    ((after (.cancel .n0 6 []) (onS0 work (fun p => { p with pending := some pend1 }))).ports.get .n0).replies
        = [⟨some .readScan, 5, .status .cancelled⟩, ⟨some .cancel, 6, .status .ok⟩] := by
  decide +kernel

theorem test_cancel_without_a_pending_read :
    ((after (.cancel .n0 6 []) work).ports.get .n0).replies.map (fun r => r.body) = [.status .nothingPending] := by
  decide +kernel

theorem test_mode_park_aborts_the_scan :
    (after (.mode .n0 1 [1, 0, 0, 0]) scan1).head.state = .returning ∧ (after (.mode .n0 1 [1, 0, 0, 0]) scan1).head.grant = .park .n0 := by
  decide +kernel

theorem test_mode_point_is_clamped :
    ((after (.mode .n0 1 [3, 0, 0x8F, 0x01]) scan1).ports.get .n0).replies.map (fun r => r.body) = [.mode .clamped (.point 400)] := by
  decide +kernel

theorem test_clear_fault_homes :
    (after (.clearFault .n0 1 []) (moving .fault 5 0)).head.state = .homing ∧ (after (.clearFault .n0 1 []) work).head = work.head := by
  decide +kernel

theorem test_resume_enters_recovering :
    (after (.resume .n0 1 []) { work with brk := { work.brk with state := .threading } }).brk.state = .recovering
      ∧ (after (.resume .n0 1 []) work).brk.state = .running := by
  decide +kernel

theorem test_take_count_in_auto :
    ((after (.takeCount .n0 1 []) work).ports.get .n0).replies.map (fun r => r.body) = [.takeCount .auto ⟨.none, 0, false, 0, 0⟩ 0 false] := by
  decide +kernel

theorem test_take_count_in_manual :
    ((after (.takeCount .n0 1 []) State.reset).ports.get .n0).replies.map (fun r => r.body) = [.takeCount .manual ⟨.take, 0, false, 0, 0⟩ 0 false] := by
  decide +kernel

theorem test_restart_profiles_waits_for_the_scan :
    ((after (.restartProfiles .n0 1 []) scan1).ports.get .n0).replies.map (fun r => r.body) = [.restart .atCompletion] := by
  decide +kernel

theorem test_restart_profiles_acts_without_a_scan :
    ((after (.restartProfiles .n0 1 []) work).ports.get .n0).replies.map (fun r => r.body) = [.restart .immediate] := by
  decide +kernel

theorem test_recipe_write_stores_clamped :
    ((after (.recipeWrite .n0 1 [1, 1, 0, 0, 0, 0]) work).store.slots.get .n1).recipe.motion = ⟨1, 100⟩
      ∧ ((after (.recipeWrite .n0 1 [1, 1, 0, 0, 0, 0]) work).store.slots.get .n1).state = .editing := by
  decide +kernel

theorem test_recipe_write_to_the_active_slot_is_refused :
    ((after (.recipeWrite .n0 1 [0, 1, 1, 0, 0, 1]) work).ports.get .n0).replies.map (fun r => r.body) = [.status .activeSlot] := by
  decide +kernel

theorem test_recipe_read_gives_the_group :
    ((after (.recipeRead .n0 1 [0, 1]) work).ports.get .n0).replies.map (fun r => r.body) = [.recipeRead .active 1 .n0 (.motion ⟨3, 2000⟩)] := by
  decide +kernel

theorem test_validate_makes_valid :
    ((after (.validate .n0 1 [1]) (slot1 .editing recipe1)).store.slots.get .n1).state = .valid
      ∧ ((after (.validate .n0 1 [0]) work).store.slots.get .n0).state = .active := by
  decide +kernel

theorem test_select_activates_without_a_scan :
    ((after (.select .n0 1 [1]) (slot1 .valid recipe1)).store.slots.get .n1).state = .active
      ∧ ((after (.select .n0 1 [1]) (slot1 .valid recipe1)).store.slots.get .n0).state = .valid
      ∧ ((after (.select .n0 1 [1]) (slot1 .valid recipe1)).store.slots.get .n1).generation = 8 := by
  decide +kernel

theorem test_select_waits_during_a_scan :
    ((after (.select .n0 1 [1]) { slot1 .valid recipe1 with head := scan1.head }).store.slots.get .n1).state = .pending := by
  decide +kernel

theorem test_machine_write_is_taken_at_park :
    (after (.machineWrite .n0 1 (machineBody 3999 64)) work).store.machine.frameLength = 4000
      ∧ (after (.machineWrite .n0 1 (machineBody 3999 64)) work).brk.det.press = ⟨true, 0, false⟩ := by
  decide +kernel

theorem test_machine_write_is_refused_in_a_scan :
    (after (.machineWrite .n0 1 (machineBody 4000 64)) scan1).store = scan1.store := by
  decide +kernel

theorem test_machine_read_replies :
    ((after (.machineRead .n0 1 []) work).ports.get .n0).replies.map (fun r => r.body) = [.machine .ok true machine1] := by
  decide +kernel

theorem test_subscribe_sets_the_mask :
    ((after (.subscribe .n0 1 [0x21, 0, 1, 0]) work).ports.get .n0).sub = ⟨0x21, true, false⟩ := by
  decide +kernel

theorem test_marked_character_begins_a_telegram :
    ((after (.stationCharacterTaken .n0 (.character ⟨true, false, 1⟩)) work).ports.get .n0).rx = .receiving [1]
      ∧ ((after (.stationCharacterTaken .n0 (.character ⟨false, false, 1⟩)) work).ports.get .n0).rx = .hunt := by
  decide +kernel

theorem test_length_of_1101_drops_the_telegram :
    ((after (.stationCharacterTaken .n0 (.character ⟨false, false, 4⟩)) (onS0 work (fun p => { p with rx := .receiving [1, 0, 0x4D] }))).ports.get .n0).rx = .hunt := by
  decide +kernel

theorem test_start_bit_stops_the_gap_timer :
    after (.gapTimerExpiry .n0) (after (.stationCharacterTaken .n0 .startBit)
        (onS0 work (fun p => { p with rx := .receiving [1, 0], gapTimer := .running 50 })))
      = onS0 work (fun p => { p with rx := .receiving [1, 0] }) := by
  decide +kernel

theorem test_head_characters_are_stored :
    (after (.headLinkCharacter ⟨true, false, 7⟩) work).link.rx = some [7]
      ∧ (after (.headLinkCharacter ⟨false, true, 7⟩) { work with link := { work.link with rx := some [1] } }).link.rx = none := by
  decide +kernel

end

end Sys2Proof.Tests
end

section
/-! SUPPORT AND PROOF. The layout of the bins: which positions a bin covers, what a sample adds to, and the ranges that
a stored and a validated GEOMETRY keeps (R59, R60, R164 to R166). -/

namespace Sys2Proof.Machine

open Sys2Proof

/-! ## The bin of a position (R59) -/

/-- The positions from the origin to the end of the last bin. -/
def Geometry.Covers (g : Geometry) (p : Nat) : Prop := g.origin ≤ p ∧ p < g.origin + g.n * g.w

theorem Geometry.binOf_eq_none_iff (g : Geometry) (p : Nat) : g.binOf p = none ↔ ¬g.Covers p := by
  simp only [Geometry.binOf, Geometry.Covers, ite_eq_right_iff, reduceCtorEq, imp_false]

theorem Geometry.binOf_eq_some_iff (g : Geometry) (p i : Nat) :
    g.binOf p = some i ↔ g.Covers p ∧ (p - g.origin) / g.w = i := by
  simp only [Geometry.binOf, Geometry.Covers, Option.ite_none_right_eq_some, Option.some.injEq]

/-- The quotient is i, and i is a bin, exactly on the W positions from origin + i·W on. -/
theorem Geometry.binOf_eq_some_iff_bounds {g : Geometry} (hw : 0 < g.w) (p i : Nat) :
    g.binOf p = some i ↔ i < g.n ∧ g.origin + i * g.w ≤ p ∧ p ≤ g.origin + (i + 1) * g.w - 1 := by
  have hsucc : (i + 1) * g.w = i * g.w + g.w := Nat.succ_mul i g.w
  rw [Geometry.binOf_eq_some_iff]
  constructor
  · rintro ⟨⟨hlo, hhi⟩, hq⟩
    obtain ⟨hl, hu⟩ := (Nat.div_eq_iff hw).mp hq
    have hi : i < g.n := hq ▸ (Nat.div_lt_iff_lt_mul hw).mpr (by omega)
    exact ⟨hi, by omega, by omega⟩
  · rintro ⟨hi, hl, hu⟩
    have hlast : (i + 1) * g.w ≤ g.n * g.w := Nat.mul_le_mul_right g.w hi
    exact ⟨⟨by omega, by omega⟩, (Nat.div_eq_iff hw).mpr ⟨by omega, by omega⟩⟩

/-! ## The bin a sample adds to (R59, R60) -/

/-- A converted sample carries the position latched at its arrival. -/
@[simp] theorem State.convert_pos (s : State) (t : SampleTelegram) : (s.convert t).pos = s.head.position.toNat := rfl

/-- R60 by the bin of the position: outside the bins a present sample adds nothing. -/
theorem State.binTake_bins_of_present {s : State} {x : Sample} (hscan : s.head.scan.isSome = true)
    (hx : x.present = true) :
    (s.binTake x).bins = (s.recipe.geometry.binOf x.pos).elim s.bins (fun i => s.bins.modify i (BinSums.add · x)) := by
  simp only [State.binTake, hscan, hx, Bool.and_self, if_true]
  cases s.recipe.geometry.binOf x.pos with
  | none => rfl
  | some i => rfl

/-! ## The ranges of a stored and of a validated layout (R165, R166) -/

/-- R164's ranges of W and N, whatever the write asked for. -/
theorem GroupBody.clamped_geometry_bounds {g g' : Geometry} (h : (GroupBody.geometry g).clamped = .geometry g') :
    20 ≤ g'.w ∧ g'.w ≤ 2000 ∧ 4 ≤ g'.n ∧ g'.n ≤ 512 := by
  cases h
  exact ⟨le_clampNat _ _ _, clampNat_le _ (by decide), le_clampNat _ _ _, clampNat_le _ (by decide)⟩

/-- Check 3 of R166: a layout outside the limits fails it, unless an earlier check fails. -/
theorem Store.bins_within_limits_of_failedCheck {st : Store} {r : Recipe} (h : st.failedCheck r = none) :
    r.geometry.a ≤ r.geometry.origin ∧ r.geometry.origin + r.geometry.n * r.geometry.w ≤ r.geometry.b := by
  by_contra hbins
  have hcheck : (decide (r.geometry.a ≤ r.geometry.origin)
      && decide (r.geometry.origin + r.geometry.n * r.geometry.w ≤ r.geometry.b)) = false := by
    rw [← Bool.decide_and]; exact decide_eq_false hbins
  simp only [Store.failedCheck, hcheck, Bool.not_false, if_true] at h
  split at h
  · cases h
  · split at h <;> cases h

end Sys2Proof.Machine

namespace Sys2Proof.Safety

open Sys2Proof Sys2Proof.Machine

/-- Settles O22: the cover from the quotient's bounds, then the latched position, the bin sums and the two ranges. -/
theorem binCoversItsPositions : Obligations.BinCoversItsPositions := by
  refine ⟨fun g p i hw => ⟨?cover, ?quotient, ?outside⟩, ?latched, ?taken, ?stored, ?validated⟩
  case cover => exact Geometry.binOf_eq_some_iff_bounds hw p i
  case quotient => exact fun h => ((Geometry.binOf_eq_some_iff g p i).mp h).2.symm
  case outside => exact Geometry.binOf_eq_none_iff g p
  case latched => exact State.convert_pos
  case taken =>
    intro s x hscan hx
    rw [State.binTake_bins_of_present hscan hx]
    cases s.recipe.geometry.binOf x.pos with
    | none => rfl
    | some i => rfl
  case stored => exact fun g g' h => GroupBody.clamped_geometry_bounds h
  case validated => exact fun st r h => Store.bins_within_limits_of_failedCheck h

end Sys2Proof.Safety
end

section
/-! SUPPORT AND PROOF. The scan average: the valid values of a list, their exact sum, and round half up of a quotient
(R67). -/

namespace Sys2Proof.Machine

open Sys2Proof

/-! ## The valid values of a list -/

theorem mem_validOf {x : Int} {l : List Val} : x ∈ validOf l ↔ some x ∈ l := by
  simp only [validOf, List.mem_filterMap, id_eq, exists_eq_right]

theorem validOf_eq_nil_iff (l : List Val) : validOf l = [] ↔ ∀ v ∈ l, v = none := by
  simp only [validOf, List.filterMap_eq_nil_iff, id_eq]

/-- A void value takes no part. -/
theorem validOf_filter_isSome (l : List Val) : validOf (l.filter (fun v => v.isSome)) = validOf l := by
  simp only [validOf, List.filterMap_filter]
  refine List.filterMap_congr fun v _ => ?_
  cases v <;> rfl

/-! ## The exact sum -/

theorem sumInt_eq_sum (l : List Int) : sumInt l = l.sum := List.sum_eq_foldl.symm

/-- A sum lies between its number of terms times their lower and their upper bound. -/
theorem sum_bounds_of_forall_mem {l : List Int} {lo hi : Int} (h : ∀ x ∈ l, lo ≤ x ∧ x ≤ hi) :
    lo * l.length ≤ l.sum ∧ l.sum ≤ hi * l.length := by
  have hlo := List.card_nsmul_le_sum l lo fun x hx => (h x hx).1
  have hhi := List.sum_le_card_nsmul l hi fun x hx => (h x hx).2
  rw [nsmul_eq_mul, mul_comm] at hlo hhi
  exact ⟨hlo, hhi⟩

/-! ## Round half up as an integer quotient -/

/-- Round half up of a sum that is not negative. -/
theorem roundHalfUp_toNat {m : Int} (hm : 0 ≤ m) (d : Nat) : (roundHalfUp m.toNat d : Int) = (2 * m + d) / (2 * d) := by
  simp only [roundHalfUp, Int.natCast_ediv, Int.natCast_add, Int.natCast_mul, Int.toNat_of_nonneg hm, Int.cast_ofNat_Int]

/-- A quotient between two integers stays between them when it is rounded half up. -/
theorem roundHalfUp_quotient_bounds {m lo hi : Int} {d : Nat} (hd : 0 < d) (hlo : lo * d ≤ m) (hhi : m ≤ hi * d) :
    lo ≤ (2 * m + d) / (2 * d) ∧ (2 * m + d) / (2 * d) ≤ hi := by
  have hpos : (0 : Int) < 2 * d := by omega
  constructor
  · rw [Int.le_ediv_iff_mul_le hpos]; linarith
  · rw [← Int.lt_add_one_iff, Int.ediv_lt_iff_lt_mul hpos]; linarith

/-! ## The average (R67) -/

theorem scanAverage_eq_none_iff (means : List Val) (n : Nat) :
    scanAverage means n = none ↔ (validOf means).length = 0 ∨ 2 * (validOf means).length < n := by
  simp only [scanAverage, ite_eq_left_iff, reduceCtorEq, imp_false, not_not]

/-- An average that is valid has a valid mean, and is their rounded mean where none of them is negative. -/
theorem scanAverage_eq_some {means : List Val} {n : Nat} {a : Int} (h : scanAverage means n = some a)
    (hpos : ∀ x ∈ validOf means, 0 ≤ x) :
    0 < (validOf means).length
      ∧ a = (2 * (validOf means).sum + (validOf means).length) / (2 * (validOf means).length) := by
  simp only [scanAverage, Option.ite_none_left_eq_some, Option.some.injEq] at h
  obtain ⟨hcover, rfl⟩ := h
  refine ⟨by omega, ?_⟩
  rw [sumInt_eq_sum, roundHalfUp_toNat (List.sum_nonneg hpos)]

/-- An average that is valid lies in every range that holds the valid means. -/
theorem scanAverage_bounds {means : List Val} {n : Nat} {a lo hi : Int} (h : scanAverage means n = some a) (hlo : 0 ≤ lo)
    (hmem : ∀ x ∈ validOf means, lo ≤ x ∧ x ≤ hi) : lo ≤ a ∧ a ≤ hi := by
  obtain ⟨hv, rfl⟩ := scanAverage_eq_some h fun x hx => hlo.trans (hmem x hx).1
  obtain ⟨hsumLo, hsumHi⟩ := sum_bounds_of_forall_mem hmem
  exact roundHalfUp_quotient_bounds hv hsumLo hsumHi

/-- The average of a completion is taken over its bin means, n being its number of marked bins. -/
theorem measWork_avg (r : Recipe) (dir : ScanDir) (marks : List Bool) (cont : Bool) (prev : Val)
    (filter : List FilterBin) (sums : List SumCount) :
    (measWork r dir marks cont prev filter sums).record.avg
      = scanAverage (meansOf r marks sums) (marks.filter (fun m => m)).length :=
  congrArg (scanAverage (meansOf r marks sums)) List.countP_eq_length_filter

end Sys2Proof.Machine

namespace Sys2Proof.Safety

open Sys2Proof Sys2Proof.Machine

/-- Settles O23: when the average is void, its quotient, the bounds of the sum carried through the rounding, and the
average a completion records. -/
theorem averageOfValidMeans : Obligations.AverageOfValidMeans := by
  refine ⟨fun means n => ⟨?void, ?value, ?range⟩, ?covered, ?uncovered, ?completion⟩
  case void => exact scanAverage_eq_none_iff means n
  case value => exact fun a h hpos => (scanAverage_eq_some h hpos).2
  case range => exact fun a lo hi hlo hmem h => scanAverage_bounds h hlo hmem
  case covered => intro means hv; rw [Ne, scanAverage_eq_none_iff]; omega
  case uncovered => intro means hv; rw [scanAverage_eq_none_iff]; omega
  case completion => exact measWork_avg

end Sys2Proof.Safety
end

section
/-! SUPPORT AND PROOF. The correction of a bin: the order of measurement, round half away from zero under a common
factor, and the correction's symmetry and bound (R70). -/

namespace Sys2Proof.Machine

open Sys2Proof

/-! ## Round half away from zero -/

@[simp] theorem roundHalfAway_zero (d : Nat) : roundHalfAway 0 d = 0 := by
  have hneg := roundHalfAway_neg 0 d
  rw [neg_zero] at hneg
  omega

/-- A common factor of numerator and denominator cancels. -/
theorem roundHalfUp_mul_left {k : Nat} (hk : 0 < k) (n d : Nat) : roundHalfUp (k * n) (k * d) = roundHalfUp n d := by
  simp only [roundHalfUp, Nat.mul_left_comm 2 k, ← Nat.mul_add, Nat.mul_div_mul_left _ _ hk]

theorem roundHalfAway_mul_left {k : Nat} (hk : 0 < k) (n : Int) (d : Nat) :
    roundHalfAway (k * n) (k * d) = roundHalfAway n d := by
  have hsign : (k : Int) * n < 0 ↔ n < 0 := smul_neg_iff_of_pos_left (Int.natCast_pos.mpr hk)
  simp only [roundHalfAway, hsign, Int.natAbs_mul, Int.natAbs_natCast, roundHalfUp_mul_left hk]

/-- A quotient of magnitude at most m / 2 has a rounded magnitude of at most m / 2 rounded up. -/
theorem two_mul_abs_roundHalfAway_le {x : Int} {d m : Nat} (hd : 0 < d) (h : 2 * x.natAbs ≤ m * d) :
    2 * |roundHalfAway x d| ≤ m + 1 := by
  obtain ⟨hround, -⟩ := roundHalfUp_spec x.natAbs hd
  have hscaled : d * (2 * roundHalfUp x.natAbs d) ≤ d * (m + 1) := by linarith
  rw [Int.abs_eq_natAbs, roundHalfAway_natAbs]
  exact_mod_cast Nat.le_of_mul_le_mul_left hscaled hd

/-! ## The order of measurement -/

theorem orderOf_lt (dir : ScanDir) {n i : Nat} (hi : i < n) : orderOf dir n i < n := by
  cases dir <;> simp only [orderOf] <;> omega

/-- The mirrored bin has the mirrored order. -/
theorem orderOf_mirror (dir : ScanDir) (n i : Nat) :
    orderOf dir n (n - 1 - i) = n - 1 - orderOf dir n i := by
  cases dir <;> simp only [orderOf]

/-! ## The correction (R70) -/

theorem correction_slope_zero (dir : ScanDir) (n i : Nat) : correction dir n 0 i = 0 := by
  simp only [correction, zero_mul, roundHalfAway_zero]

theorem correction_rev (n i : Nat) (S : Int) : correction .rev n S i = correction .fwd n S (n - 1 - i) := rfl

theorem correction_middle {dir : ScanDir} {n i : Nat} (S : Int) (hi : i < n) (h : 2 * orderOf dir n i = n - 1) :
    correction dir n S i = 0 := by
  have hcentre : 2 * (orderOf dir n i : Int) - ((n : Int) - 1) = 0 := by omega
  simp only [correction, hcentre, mul_zero, roundHalfAway_zero]

/-- Mirroring the bin changes the sign of its distance from the middle, and so of its correction. -/
theorem correction_mirror (dir : ScanDir) {n i : Nat} (S : Int) (hi : i < n) :
    correction dir n S (n - 1 - i) = -correction dir n S i := by
  have hlt := orderOf_lt dir hi
  have hmirror : 2 * (orderOf dir n (n - 1 - i) : Int) - ((n : Int) - 1)
      = -(2 * (orderOf dir n i : Int) - ((n : Int) - 1)) := by
    rw [orderOf_mirror]; omega
  simp only [correction, hmirror, mul_neg, roundHalfAway_neg]

/-- The last bin measured lies N - 1 half bins after the middle. -/
theorem correction_last {dir : ScanDir} {n i : Nat} (S : Int) (hn : 1 < n) (h : orderOf dir n i = n - 1) :
    correction dir n S i = roundHalfAway S 2 := by
  have hnum : S * (2 * (orderOf dir n i : Int) - ((n : Int) - 1)) = (n - 1 : Nat) * S := by
    rw [h]; push_cast [hn.le]; ring
  rw [correction, hnum, Nat.mul_comm 2, roundHalfAway_mul_left (by omega)]

/-- The first bin measured mirrors the last. -/
theorem correction_first {dir : ScanDir} {n i : Nat} (S : Int) (hn : 1 < n) (hi : i < n) (h : orderOf dir n i = 0) :
    correction dir n S i = roundHalfAway (-S) 2 := by
  have hlast : orderOf dir n (n - 1 - i) = n - 1 := by rw [orderOf_mirror, h, Nat.sub_zero]
  rw [roundHalfAway_neg, ← correction_last S hn hlast, correction_mirror dir S hi, neg_neg]

/-- No bin lies more than N - 1 half bins from the middle, so no correction is above half the slope term. -/
theorem two_mul_abs_correction_le (dir : ScanDir) {n i : Nat} (S : Int) (hn : 1 < n) (hi : i < n) :
    2 * |correction dir n S i| ≤ |S| + 1 := by
  have hlt := orderOf_lt dir hi
  have hdist : (2 * (orderOf dir n i : Int) - ((n : Int) - 1)).natAbs ≤ n - 1 := by omega
  have hnum : 2 * (S * (2 * (orderOf dir n i : Int) - ((n : Int) - 1))).natAbs ≤ S.natAbs * (2 * (n - 1)) := by
    rw [Int.natAbs_mul, Nat.mul_left_comm]
    exact Nat.mul_le_mul_left _ (Nat.mul_le_mul_left 2 hdist)
  rw [Int.abs_eq_natAbs S]
  exact two_mul_abs_roundHalfAway_le (by omega) hnum

/-- Every bin of a scan gets its correction (R71). -/
theorem deviationsOf_getElem? (dir : ScanDir) (n : Nat) (S : Int) (avg : Val) {means : List Val} {i : Nat}
    (hi : i < means.length) :
    (deviationsOf dir n S avg means)[i]? = some (deviation (means.getD i none) avg (correction dir n S i)) := by
  simp only [deviationsOf, List.getElem?_mapIdx, List.getD_eq_getElem?_getD, List.getElem?_eq_getElem hi, Option.map_some,
    Option.getD_some]

end Sys2Proof.Machine

namespace Sys2Proof.Safety

open Sys2Proof Sys2Proof.Machine

/-- Settles O24: the correction's rules, each from its distance to the middle of the scan. -/
theorem correctionOfEachBin : Obligations.CorrectionOfEachBin := by
  intro n i S hn hi
  have hn1 : 1 < n := by omega
  refine ⟨rfl, rfl, fun _ => rfl, ?zero, ?middle, ?mirror, ?reverse, ?first, ?last, ?half, ?saturated, ?everyBin, ?tableOfSix⟩
  case zero => exact fun dir => correction_slope_zero dir n i
  case middle => exact fun dir h => correction_middle S hi h
  case mirror => exact fun dir => correction_mirror dir S hi
  case reverse => exact correction_rev n i S
  case first => exact fun dir h => correction_first S hn1 hi h
  case last => exact fun dir h => correction_last S hn1 h
  case half => exact fun dir => two_mul_abs_correction_le dir S hn1 hi
  case saturated =>
    intro dir hS
    have hhalf := two_mul_abs_correction_le dir S hn1 hi
    omega
  case everyBin => exact fun dir avg means h => deviationsOf_getElem? dir n S avg h
  case tableOfSix => decide

end Sys2Proof.Safety
end

section
/-! SUPPORT AND PROOF. The spread of the filtered values: the largest and the smallest of the valid ones (R78). -/

namespace Sys2Proof.Machine

open Sys2Proof

/-! ## The largest and the smallest value -/

theorem maxInt_eq_iff {x : Int} {l : List Int} {m : Int} : maxInt x l = m ↔ m ∈ x :: l ∧ ∀ y ∈ x :: l, y ≤ m := by
  rw [← List.max?_eq_some_iff, List.max?_cons', Option.some.injEq, maxInt]

theorem minInt_eq_iff {x : Int} {l : List Int} {m : Int} : minInt x l = m ↔ m ∈ x :: l ∧ ∀ y ∈ x :: l, m ≤ y := by
  rw [← List.min?_eq_some_iff, List.min?_cons', Option.some.injEq, minInt]

/-! ## The spread (R78) -/

/-- The valid values of a list are its values between lo and hi, both of them among its values. -/
def ValidExtremes (filt : List Val) (lo hi : Int) : Prop :=
  some lo ∈ filt ∧ some hi ∈ filt ∧ ∀ x : Int, some x ∈ filt → lo ≤ x ∧ x ≤ hi

theorem ValidExtremes.le {filt : List Val} {lo hi : Int} (h : ValidExtremes filt lo hi) : lo ≤ hi := by
  obtain ⟨hlo, -, hall⟩ := h
  exact (hall lo hlo).2

/-- The only valid value is both the smallest and the largest. -/
theorem validExtremes_of_validOf_eq_singleton {filt : List Val} {x : Int} (h : validOf filt = [x]) :
    ValidExtremes filt x x := by
  have hmem : ∀ y : Int, some y ∈ filt ↔ y = x := fun y => by rw [← mem_validOf, h, List.mem_singleton]
  exact ⟨(hmem x).mpr rfl, (hmem x).mpr rfl, fun y hy => by rw [(hmem y).mp hy]; exact ⟨le_rfl, le_rfl⟩⟩

theorem validExtremes_iff_of_validOf_eq_cons {filt : List Val} {x : Int} {l : List Int} (h : validOf filt = x :: l)
    (lo hi : Int) : ValidExtremes filt lo hi ↔ minInt x l = lo ∧ maxInt x l = hi := by
  simp only [ValidExtremes, ← mem_validOf, h, minInt_eq_iff, maxInt_eq_iff, forall_and]
  tauto

theorem spreadOf_eq_none_iff (filt : List Val) : spreadOf filt = none ↔ ∀ v ∈ filt, v = none := by
  rw [← validOf_eq_nil_iff, spreadOf]
  cases validOf filt <;> simp only [reduceCtorEq]

/-- The spread is valid exactly with a largest and a smallest valid value, and is then their saturated difference. -/
theorem spreadOf_eq_some_iff (filt : List Val) (d : Int) :
    spreadOf filt = some d ↔ ∃ lo hi, ValidExtremes filt lo hi ∧ min 32767 (hi - lo) = d := by
  cases hvalid : validOf filt with
  | nil =>
    have hnone : ∀ lo hi, ¬ValidExtremes filt lo hi := fun lo hi hext => by
      have hmem := mem_validOf.mpr hext.1
      rw [hvalid] at hmem
      exact List.not_mem_nil hmem
    simp only [spreadOf, hvalid, hnone, reduceCtorEq, false_and, exists_const]
  | cons x l =>
    simp only [spreadOf, hvalid, validExtremes_iff_of_validOf_eq_cons hvalid, and_assoc, exists_eq_left',
      exists_and_left, Option.some.injEq]

theorem spreadOf_of_validExtremes {filt : List Val} {lo hi : Int} (h : ValidExtremes filt lo hi) :
    spreadOf filt = some (min 32767 (hi - lo)) :=
  (spreadOf_eq_some_iff filt _).mpr ⟨lo, hi, h, rfl⟩

theorem spreadOf_bounds {filt : List Val} {d : Int} (h : spreadOf filt = some d) : 0 ≤ d ∧ d ≤ 32767 := by
  obtain ⟨lo, hi, hext, rfl⟩ := (spreadOf_eq_some_iff filt d).mp h
  have hle := hext.le
  omega

theorem spreadOf_filter_isSome (filt : List Val) : spreadOf (filt.filter (fun v => v.isSome)) = spreadOf filt := by
  simp only [spreadOf, validOf_filter_isSome]

/-- The spread of a completion is taken over its filter after the update. -/
theorem measWork_spread (r : Recipe) (dir : ScanDir) (marks : List Bool) (cont : Bool) (prev : Val)
    (filter : List FilterBin) (sums : List SumCount) :
    (measWork r dir marks cont prev filter sums).record.spread
      = spreadOf ((measWork r dir marks cont prev filter sums).filter.map (fun b => b.value)) := rfl

end Sys2Proof.Machine

namespace Sys2Proof.Safety

open Sys2Proof Sys2Proof.Machine

/-- Settles O26: the spread by the smallest and the largest valid value, and the spread a completion records. -/
theorem spreadOfValidValues : Obligations.SpreadOfValidValues := by
  refine ⟨fun filt => ⟨?void, ?difference, ?single, ?range, ?voidBins⟩, ?completion⟩
  case void => exact spreadOf_eq_none_iff filt
  case difference => exact fun lo hi hlo hhi hall => spreadOf_of_validExtremes ⟨hlo, hhi, hall⟩
  case single =>
    intro x hx
    rw [spreadOf_of_validExtremes (validExtremes_of_validOf_eq_singleton hx), sub_self]
    rfl
  case range => exact fun x h => spreadOf_bounds h
  case voidBins => exact spreadOf_filter_isSome filt
  case completion => exact measWork_spread

end Sys2Proof.Safety
end

section
/-! SUPPORT AND PROOF. READ_TREND: a request that meets a pending one is BUSY (R182, step 4), the reply of its owner, and
the reply's bytes (R105). -/

namespace Sys2Proof.Machine

open Sys2Proof Sys2Proof.Safety

/-! ## A good telegram at a port -/

@[simp] theorem heard_get (s : State) (st : Station) : (heard s st).ports.get st = heardPort (s.ports.get st) :=
  State.onPort_get s st heardPort

/-- A good telegram leaves the reply queue and the pending request, so the room is what it was. -/
@[simp] theorem heardPort_hasRoom (p : Port) : (heardPort p).hasRoom = p.hasRoom := rfl

/-- A pending request takes one of the four places (R184). -/
theorem Port.hasRoom_iff_of_pending {p : Port} (hpend : p.pending ≠ none) : p.hasRoom = true ↔ p.replies.length < 3 := by
  have hsome : p.pending.isSome = true := Option.isSome_iff_ne_none.mpr hpend
  simp only [Port.hasRoom, Port.count, Config.replyRoom, hsome, Bool.toNat_true, decide_eq_true_eq]
  omega

/-! ## A request while another is pending (R182, step 4; R183) -/

/-- A request's own kind byte is known (R182, step 2). -/
theorem State.judgeKind_code (s : State) (st : Station) (k : RequestKind) (tag : Byte) (p : List Byte) :
    s.judgeKind st (byte1 k.code) tag p = s.judgeKnown k st tag p := by
  rw [State.judgeKind, RequestKind.ofCode_code]

theorem State.judgeKnown_busy {k : RequestKind} {s : State} {st : Station} (tag : Byte) {p : List Byte}
    (hlen : lengthOk k p = true) (hpend : (s.ports.get st).pending ≠ none) (hk : k.servedWhilePending = false) :
    s.judgeKnown k st tag p = s.reply st k tag (.status .busy) := by
  have hsome : (s.ports.get st).pending.isSome = true := Option.isSome_iff_ne_none.mpr hpend
  simp only [State.judgeKnown, hlen, hsome, hk, Bool.not_true, Bool.not_false, Bool.and_self, Bool.false_eq_true, if_false,
    if_true, State.answer]

/-- A request of the right length that is not served while another is pending is answered BUSY, given room. -/
theorem State.request_busy {k : RequestKind} {s : State} {st : Station} (tag : Byte) {p : List Byte}
    (hp : p.length ≤ 1100) (hlen : lengthOk k p = true) (hpend : (s.ports.get st).pending ≠ none)
    (hroom : (s.ports.get st).replies.length < 3) (hk : k.servedWhilePending = false) :
    s.request k st tag p = .next (answered s st k tag (.status .busy)).settle := by
  have hhas : (heardPort (s.ports.get st)).hasRoom = true := by
    rw [heardPort_hasRoom]; exact (Port.hasRoom_iff_of_pending hpend).mpr hroom
  have hpend' : ((heard s st).ports.get st).pending ≠ none := by rw [heard_get]; exact hpend
  rw [State.request, State.telegramArrival_eq s st _ tag p hp, if_pos hhas, State.judgeKind_code,
    State.judgeKnown_busy tag hlen hpend' hk, ← answered_eq, State.done_eq]

/-! ## READ_TREND (R105) -/

theorem exec_readTrend (st : Station) (tag : Byte) (p : List Byte) (s : State) :
    exec (.readTrend st tag p) s = s.request .readTrend st tag p := rfl

/-- A READ_TREND's payload has no bytes (12.2). -/
theorem lengthOk_readTrend_iff (p : List Byte) : lengthOk .readTrend p = true ↔ p = [] := by
  simp only [lengthOk, beq_iff_eq, List.length_eq_zero_iff]

/-- The owner copies newest and the trend list, which the telegram's arrival has left alone. -/
theorem serve_readTrend_heard (s : State) (st : Station) (tag : Byte) :
    (heard s st).serve .readTrend st tag [] = answered s st .readTrend tag (.trend s.ring.newest s.trend) :=
  (answered_eq s st .readTrend tag (.trend s.ring.newest s.trend)).symm

/-- The bytes come from the copy in the reply and not from the ring. -/
theorem trend_bytes (ring : Ring) (n : BitVec 16) (es : List TrendEntry) :
    (ReplyBody.trend n es).bytes ring
      = [0] ++ le16 n.toNat ++ [BitVec.ofNat 8 es.length] ++ (es.map TrendEntry.bytes).flatten := by
  rw [← List.flatMap_def]
  rfl

end Sys2Proof.Machine

namespace Sys2Proof.Safety

open Sys2Proof Sys2Proof.Machine

/-- Settles O33: the ready station's reply, BUSY with a request pending, the reply's bytes, and the one payload length. -/
theorem readTrendReplies : Obligations.ReadTrendReplies := by
  have hempty : lengthOk .readTrend [] = true := (lengthOk_readTrend_iff []).mpr rfl
  refine ⟨?ready, ?busy, trend_bytes, ?withFields⟩
  case ready =>
    intro s st tag hready
    rw [exec_readTrend, State.request_ready .readTrend s st tag [] hready (Nat.zero_le _) hempty, serve_readTrend_heard]
  case busy =>
    intro s st tag hpend hroom
    rw [exec_readTrend, State.request_busy tag (Nat.zero_le _) hempty hpend hroom rfl]
  case withFields =>
    intro b0 p
    rw [← Bool.not_eq_true, lengthOk_readTrend_iff]
    exact List.cons_ne_nil b0 p

end Sys2Proof.Safety
end

section
/-! SUPPORT AND PROOF. MACHINE_READ: its owner answers in every state with the record as stored, and the reply's bytes
field by field (R162, 12.2). -/

namespace Sys2Proof.Machine

open Sys2Proof Sys2Proof.Safety

/-! ## The machine body (12.2) -/

/-- A polarity is a flag that says low is active. -/
theorem flagByte_polarity (x : Polarity) : flagByte (x == .low) = if x = .low then 1 else 0 := by
  simp only [flagByte, beq_iff_eq]

/-- The four polarities are the last four bytes of the body. -/
theorem MachineRecord.bytes_eq (m : MachineRecord) :
    m.bytes = le16 m.frameLength ++ le32 m.tachIncrement
      ++ le16 m.nominal.bw ++ le16 m.nominal.water ++ le16 m.nominal.gap
      ++ le16 m.zeroDrift.bw ++ le16 m.zeroDrift.water ++ le16 m.zeroDrift.gap
      ++ le16 m.gainDrift ++ le16 m.stdSamples ++ le16 m.minRunSpeed
      ++ [m.polarity.wet, m.polarity.press, m.polarity.dry, m.polarity.reel].map (fun x =>
        if x = .low then (1 : Byte) else 0) := by
  simp only [MachineRecord.bytes, flagByte_polarity, List.map_cons, List.map_nil]

/-- The status and the record's state stand before the body. -/
theorem machine_bytes (ring : Ring) (c : Status) (set : Bool) (m : MachineRecord) :
    (ReplyBody.machine c set m).bytes ring = [byte1 c.code, if set then 1 else 0] ++ m.bytes := rfl

/-! ## MACHINE_READ (R162) -/

theorem exec_machineRead (st : Station) (tag : Byte) (p : List Byte) (s : State) :
    exec (.machineRead st tag p) s = s.request .machineRead st tag p := rfl

/-- A MACHINE_READ's payload has no bytes (12.2). -/
theorem lengthOk_machineRead_iff (p : List Byte) : lengthOk .machineRead p = true ↔ p = [] := by
  simp only [lengthOk, beq_iff_eq, List.length_eq_zero_iff]

/-- The owner copies the record and its state, which the telegram's arrival has left alone; no head state and no break
state is asked for. -/
theorem serve_machineRead_heard (s : State) (st : Station) (tag : Byte) :
    (heard s st).serve .machineRead st tag []
      = answered s st .machineRead tag (.machine .ok s.store.machineSet s.store.machine) :=
  (answered_eq s st .machineRead tag (.machine .ok s.store.machineSet s.store.machine)).symm

end Sys2Proof.Machine

namespace Sys2Proof.Safety

open Sys2Proof Sys2Proof.Machine

/-- Settles O42: the ready station's reply in every state, the one payload length, and the reply's bytes. -/
theorem machineReadServed : Obligations.MachineReadServed := by
  refine ⟨?ready, lengthOk_machineRead_iff, ?onTheWire⟩
  case ready =>
    intro s st tag hready
    have hempty : lengthOk .machineRead [] = true := (lengthOk_machineRead_iff []).mpr rfl
    rw [exec_machineRead, State.request_ready .machineRead s st tag [] hready (Nat.zero_le _) hempty,
      serve_machineRead_heard]
  case onTheWire =>
    intro ring set m
    have hok : byte1 Status.ok.code = 0 := rfl
    rw [machine_bytes, MachineRecord.bytes_eq, hok]
    simp only [List.append_assoc]

end Sys2Proof.Safety
end


section
/-! SUPPORT. What a step can do to the parts of the state that the Laws of the Device watch: the changes it is made of,
and each operation of the model as a sequence of them. -/

namespace Sys2Proof.Machine

open Sys2Proof Sys2Proof.Safety

/-! ## The changes -/

/-- A scan in progress is on a measuring leg. -/
def ScanOnLeg (s : State) : Prop := s.head.scan.isSome = true → measuringLeg s.head.state = true

/-- No scan is in progress where the scan law holds. -/
def Unscanned (s : State) : Prop := ScanOnLeg s → s.head.scan = none

/-- No law sees the change, but that a counter may fall; a head with no scan in progress may change its state. -/
structure Quiet (s t : State) : Prop where
  hole_counter : t.hole.counter ≤ s.hole.counter := by simp
  hole_run : t.hole.run ≤ s.hole.run := by simp
  std_fail : t.std.failCount ≤ s.std.failCount := by simp
  std_scans : t.std.scanCounter ≤ s.std.scanCounter := by simp
  speed : t.speed = s.speed := by simp
  trend : t.trend = s.trend := by simp
  points : t.points.ring = s.points.ring := by simp
  brk : t.brk = s.brk := by simp
  store : t.store = s.store := by simp
  ring : t.ring = s.ring := by simp
  ports : t.ports = s.ports := by simp
  scan : t.head.scan = s.head.scan := by simp
  state : t.head.state = s.head.state ∨ Unscanned s := by simp

/-- The bounds of the speed unit's counters (Law 12). -/
def SpeedBounds (u : Speed) : Prop := u.gateCount ≤ 65535 ∧ u.speed ≤ 3000 ∧ u.emptyGates ≤ 5

/-- A change of the break supervisor that keeps its bounds and its relay (Laws 8 and 12). -/
structure BrkKept (a b : Supervisor) : Prop where
  count : a.count ≤ 65535 → b.count ≤ 65535
  recoveries : a.recoveryCount ≤ 8 → b.recoveryCount ≤ 8
  relay : (a.relay = true ↔ a.state = .break_) → (b.relay = true ↔ b.state = .break_)

/-- A change of the recipe store that makes no slot ACTIVE and none INACTIVE, and at most one PENDING (Law 10). -/
structure SlotsKept (a b : Store) : Prop where
  active : slotsIn b .active = slotsIn a .active
  pending : slotsIn a .pending ≤ 1 → slotsIn b .pending ≤ 1

/-- A change of a port that leaves its queues, its request and its settings. -/
structure PortKept (f : Port → Port) : Prop where
  replies : ∀ p, (f p).replies = p.replies := by intro; rfl
  notices : ∀ p, (f p).notices = p.notices := by intro; rfl
  pending : ∀ p, (f p).pending = p.pending := by intro; rfl
  tx : ∀ p, (f p).tx = p.tx := by intro; rfl
  sub : ∀ p, (f p).sub = p.sub := by intro; rfl
  present : ∀ p, p.present = true → (f p).present = true := by intro _ h; exact h

/-- The scan in progress is void: its record, its bins and its run are gone (R34). -/
def State.voided (s : State) : State :=
  let s := (((s.voidRecord).setBins []).setEdges { s.edges with run := .clear }).clearContinuity.endStretch
  s.setHead { s.head with scan := none }

/-- The record at an index is closed and summed up, and its scan is over (R33, R91). -/
def State.closing (s : State) (i : Nat) : State :=
  let r := s.closedRecord (s.ring.at i)
  ((s.setRing { (s.ring.modify i (fun _ => r)) with newest := s.ring.newest + 1 }).setTrend
    (keepNewest Config.trendSize (s.trend ++ [r.summary]))).setHead { s.head with scan := none }

/-- A station is in no hold set. -/
def Unheld (s : State) (st : Station) : Prop := ∀ r ∈ s.ring.records, r.holds.get st = false

/-- A port has room for a reply to a PRESENT station. -/
def Port.admits (p : Port) : Prop := p.present = true ∧ p.count < 4

/-- One change of what the laws watch. -/
inductive Move : State → State → Prop where
  | quiet {s t : State} (h : Quiet s t) : Move s t
  | hole {s : State} (x : Hole) (h : s.hole.counter ≤ 65535 → s.hole.run ≤ 33 → x.counter ≤ 65535 ∧ x.run ≤ 33) :
      Move s (s.setHole x)
  | std {s : State} (x : StdUnit) (h : s.std.failCount ≤ 3 → s.std.scanCounter ≤ 255 → x.failCount ≤ 3 ∧ x.scanCounter ≤ 255) :
      Move s (s.setStd x)
  | speed {s : State} (x : Speed) (h : SpeedBounds s.speed → SpeedBounds x) : Move s (s.setSpeed x)
  | points {s : State} (x : Points) (h : s.points.ring.length ≤ 32 → x.ring.length ≤ 32) : Move s (s.setPoints x)
  | brk {s : State} (b : Supervisor) (h : BrkKept s.brk b) (hi : b.state = .idle ↔ s.brk.state = .idle) :
      Move s (s.setBrk b)
  | store {s : State} (x : Store) (h : SlotsKept s.store x) : Move s (s.setStore x)
  | activate {s : State} (i : SlotNo) (b : Supervisor) (h : BrkKept s.brk b) (hi : b.state ≠ .idle) :
      Move s ((s.setStore (s.store.activate i)).setBrk b)
  | mark {s : State} (f : ScanRecord → ScanRecord) (h : ∀ r, (f r).status = r.status ∧ (f r).holds = r.holds) :
      Move s (s.setRing (s.ring.onFilling f))
  | void (s : State) : Move s s.voided
  | startScan {s : State} (dir : ScanDir) (fromApproach : Bool) (h : Unscanned s) : Move s (s.startScan dir fromApproach)
  | close {s : State} (i : Nat) (h : s.ring.filling = some i) : Move s (s.closing i)
  | scanOver {s : State} (h : s.ring.filling = none) : Move s (s.setHead { s.head with scan := none })
  | serve {s : State} (i : Nat) (st : Station) (h : (s.ring.at i).status = .complete) : Move s (s.servePending i st)
  | offer (s : State) (n : Notice) : Move s (s.offer n)
  | endPending (s : State) (st : Station) (b : ReplyBody) : Move s (s.endPending st b)
  | reply {s : State} {st : Station} (r : Reply) (h : (s.ports.get st).admits) : Move s (s.onPort st (fun p => p.queueReply r))
  | makePending {s : State} {st : Station} (tag : Byte) (q : ScanQuery) (m : BitVec 16) (wait : Nat)
      (h : (s.ports.get st).admits) (hu : Unheld s st) : Move s (s.makePending st tag q m wait)
  | serveScan {s : State} {st : Station} (tag : Byte) (q : ScanQuery) {i : Nat} (h : (s.ports.get st).admits)
      (hp : (s.ports.get st).pending = none) (hu : Unheld s st) (hc : (s.ring.at i).status = .complete) :
      Move s (s.serveScan st tag q i)
  | port {s : State} (st : Station) (f : Port → Port) (h : PortKept f) : Move s (s.onPort st f)
  | resubscribe {s : State} {st : Station} (x : Subscription) (h : (s.ports.get st).present = true) :
      Move s (s.onPort st (fun p => p.resubscribe x))

/-- A sequence of changes. -/
abbrev Moves : State → State → Prop := Relation.ReflTransGen Move

theorem Moves.refl (s : State) : Moves s s := Relation.ReflTransGen.refl

theorem Move.one {s t : State} (h : Move s t) : Moves s t := Relation.ReflTransGen.single h

theorem Moves.and {s t u : State} (h : Moves s t) (h' : Moves t u) : Moves s u := Relation.ReflTransGen.trans h h'

theorem Quiet.moves {s t : State} (h : Quiet s t) : Moves s t := (Move.quiet h).one

/-- What every change keeps, every sequence of changes keeps. -/
theorem Moves.keeps {P : State → Prop} (hP : ∀ s t, Move s t → P s → P t) {s t : State} (h : Moves s t) (hs : P s) : P t := by
  induction h with
  | refl => exact hs
  | tail _ hm ih => exact hP _ _ hm ih

/-! ## When a head has no scan in progress -/

theorem Unscanned.of_state {s : State} (h : measuringLeg s.head.state = false) : Unscanned s := fun hl => by
  cases hs : s.head.scan with
  | none => rfl
  | some x => simp [ScanOnLeg, hs, h] at hl

theorem Unscanned.of_scan {s : State} (h : s.head.scan = none) : Unscanned s := fun _ => h

/-! ## The small operations -/

section

variable (s : State)

@[simp] theorem Hole.endStretch_counter (h : Hole) : h.endStretch.counter = h.counter := rfl
@[simp] theorem Hole.endStretch_run (h : Hole) : h.endStretch.run = 0 := rfl
@[simp] theorem endStretch_hole_counter : s.endStretch.hole.counter = s.hole.counter := rfl
@[simp] theorem endStretch_hole_run : s.endStretch.hole.run = 0 := rfl
@[simp] theorem stopAssessment_hole_counter : s.stopAssessment.hole.counter = s.hole.counter := rfl
@[simp] theorem stopAssessment_hole_run : s.stopAssessment.hole.run = 0 := rfl

theorem setEdges_moves (x : EdgeTracker) : Moves s (s.setEdges x) := Quiet.moves {}
theorem setBins_moves (x : List BinSums) : Moves s (s.setBins x) := Quiet.moves {}
theorem setProfile_moves (x : Profile) : Moves s (s.setProfile x) := Quiet.moves {}
theorem setLimits_moves (x : Limits) : Moves s (s.setLimits x) := Quiet.moves {}
theorem setAbsent_moves (x : Absent) : Moves s (s.setAbsent x) := Quiet.moves {}
theorem setConv_moves (x : Conversion) : Moves s (s.setConv x) := Quiet.moves {}
theorem setLink_moves (x : HeadLink) : Moves s (s.setLink x) := Quiet.moves {}
theorem setPins_moves (x : Pins) : Moves s (s.setPins x) := Quiet.moves {}

theorem stopAssessment_moves : Moves s s.stopAssessment := Quiet.moves {}

theorem endStretch_moves : Moves s s.endStretch := Quiet.moves {}

theorem updateEdges_moves (e : EdgeTracker) : Moves s (s.updateEdges e) := by
  have h : Moves s (s.setEdges e) := setEdges_moves s e
  simp only [State.updateEdges]
  split
  · exact h.and (stopAssessment_moves _)
  · exact h

theorem profileRestart_moves : Moves s s.profileRestart := (setProfile_moves s _).and (updateEdges_moves _ _)

theorem clearContinuity_moves : Moves s s.clearContinuity := Quiet.moves {}

theorem deferredAtAbort_moves : Moves s s.deferredAtAbort := by
  simp only [State.deferredAtAbort]
  split
  · exact (setProfile_moves s _).and (profileRestart_moves _)
  · exact Moves.refl s

theorem profileActivation_moves (l : Layout) : Moves s (s.profileActivation l) := by
  simp only [State.profileActivation]
  split
  · exact clearContinuity_moves s
  · exact (setProfile_moves s _).and (profileRestart_moves _)

theorem offer_moves (n : Notice) : Moves s (s.offer n) := (Move.offer s n).one

/-- A head whose scan and state stay. -/
theorem setHead_moves {x : Head} (hscan : x.scan = s.head.scan) (hstate : x.state = s.head.state) : Moves s (s.setHead x) :=
  Quiet.moves { scan := hscan, state := Or.inl hstate }

theorem grantTo_moves (g : Grant) : Moves s (s.grantTo g) := setHead_moves s rfl rfl
theorem driveOff_moves : Moves s s.driveOff := setHead_moves s rfl rfl
theorem drive_moves (b : Bool) (n : Nat) : Moves s (s.drive b n) := setHead_moves s rfl rfl
theorem setSlot_moves (st : Station) (m : ModeSlot) : Moves s (s.setSlot st m) := setHead_moves s rfl rfl
theorem consumeStd_moves : Moves s s.consumeStd := setHead_moves s rfl rfl
theorem headNotice_moves : Moves s s.headNotice := offer_moves s _
theorem breakNotice_moves : Moves s s.breakNotice := offer_moves s _
theorem stdNotice_moves : Moves s s.stdNotice := offer_moves s _
theorem recipeNotice_moves (c : RecipeCause) : Moves s (s.recipeNotice c) := offer_moves s _
theorem adopt_moves : Moves s s.adopt := Quiet.moves {}
theorem startPeriod_moves : Moves s s.startPeriod := Quiet.moves { points := by simp [State.startPeriod] }
theorem dropPeriod_moves : Moves s s.dropPeriod := Quiet.moves { points := rfl }

/-- A standardization unit whose counters do not rise. -/
theorem setStd_moves {x : StdUnit} (hf : x.failCount ≤ s.std.failCount) (hc : x.scanCounter ≤ s.std.scanCounter) :
    Moves s (s.setStd x) := Quiet.moves { std_fail := hf, std_scans := hc }

end

/-! ## The standardization unit -/

section

variable (s : State)

theorem dropPendingSet_moves : Moves s s.dropPendingSet := setConv_moves s _
theorem raise_moves (c : HeadCommand) : Moves s (s.raise c) := setLink_moves s _

theorem abortRefOut_moves : Moves s s.abortRefOut := by
  simp only [State.abortRefOut]; split
  · exact raise_moves s _
  all_goals exact Moves.refl s

theorem stdCommit_moves : Moves s s.stdCommit := by
  refine (adopt_moves s).and (Moves.and ?_ ((consumeStd_moves _).and (stdNotice_moves _)))
  exact setStd_moves _ (Nat.zero_le _) (Nat.zero_le _)

theorem stdFail_moves : Moves s s.stdFail := by
  refine (dropPendingSet_moves s).and (Moves.and ?_ ((consumeStd_moves _).and (stdNotice_moves _)))
  exact (Move.std _ fun _ _ => ⟨Nat.min_le_left _ _, Nat.zero_le _⟩).one

theorem stdNoRecord_moves : Moves s s.stdNoRecord := by
  refine Moves.and ?_ ((consumeStd_moves _).and (stdNotice_moves _))
  exact setStd_moves s le_rfl le_rfl

theorem stdAbort_moves : Moves s s.stdAbort := by
  simp only [State.stdAbort]; split
  · exact Moves.refl s
  · refine ((abortRefOut_moves s).and (dropPendingSet_moves _)).and (Moves.and ?_ (stdNotice_moves _))
    exact setStd_moves _ (by simp [StdUnit.finish]) (by simp [StdUnit.finish])

theorem enterReference_moves : Moves s s.enterReference :=
  (setStd_moves s (x := { s.std with phase := .reference, collecting := false, tileTimer := .running Config.tile })
    le_rfl le_rfl).and (raise_moves _ _)

theorem enterWithdraw_moves : Moves s s.enterWithdraw :=
  (setStd_moves s (x := { s.std with
    phase := .withdraw, collecting := false, tileTimer := .stopped, withdrawTimer := .running Config.withdraw })
    le_rfl le_rfl).and (raise_moves _ _)

theorem zeroEnd_moves : Moves s s.zeroEnd := by
  simp only [State.zeroEnd]; split
  · exact (setStd_moves s (by simp) (by simp)).and (enterWithdraw_moves _)
  · exact (setStd_moves s (by simp) (by simp)).and (enterReference_moves _)

theorem referenceEnd_moves : Moves s s.referenceEnd := by
  simp only [State.referenceEnd]; split
  · refine ((setStd_moves s ?_ ?_).and (setConv_moves _ _)).and (enterWithdraw_moves _) <;> exact le_rfl
  · refine (setStd_moves s ?_ ?_).and (enterWithdraw_moves _) <;> exact le_rfl

@[simp] theorem StdUnit.slot_failCount (u : StdUnit) (raw : Option RawSample) : (u.slot raw).failCount = u.failCount := by
  cases raw <;> rfl

@[simp] theorem StdUnit.slot_scanCounter (u : StdUnit) (raw : Option RawSample) : (u.slot raw).scanCounter = u.scanCounter := by
  cases raw <;> rfl

theorem collectionSlot_moves (raw : Option RawSample) : Moves s (s.collectionSlot raw) := by
  have h : Moves s (s.setStd (s.std.slot raw).limitTest) :=
    setStd_moves s (by simp [StdUnit.limitTest]) (by simp [StdUnit.limitTest])
  simp only [State.collectionSlot]; split
  · split
    · exact h.and (zeroEnd_moves _)
    · exact h.and (referenceEnd_moves _)
    all_goals exact h
  · exact h

theorem tileSeen_moves : Moves s s.tileSeen := setStd_moves s le_rfl le_rfl

theorem tileExpired_moves : Moves s s.tileExpired := by
  refine Moves.and (setStd_moves s ?_ ?_) (enterWithdraw_moves _) <;> exact le_rfl

theorem stuckTile_moves : Moves s s.stuckTile := by
  refine Moves.and (setStd_moves s ?_ ?_) (stdFail_moves _) <;> exact le_rfl

end

/-! ## The head -/

/-- Leaving a measuring state stops assessment; else the head alone changes. -/
theorem toHead_cases (s : State) (h : HeadState) :
    s.toHead h = (s.setHead { s.head with state := h }).stopAssessment ∨ s.toHead h = s.setHead { s.head with state := h } := by
  simp only [State.toHead]; split
  · exact Or.inl rfl
  · exact Or.inr rfl

@[simp] theorem toHead_head (s : State) (h : HeadState) : (s.toHead h).head = { s.head with state := h } := by
  obtain e | e := toHead_cases s h <;> simp [e]

theorem toHead_moves {s : State} (h : HeadState) (hu : Unscanned s) : Moves s (s.toHead h) := by
  have hq : Moves s (s.setHead { s.head with state := h }) := Quiet.moves { state := Or.inr hu }
  obtain e | e := toHead_cases s h <;> rw [e]
  · exact hq.and (stopAssessment_moves _)
  · exact hq

theorem enterHead_moves {s : State} (h : HeadState) (g : Grant) (hu : Unscanned s) : Moves s (s.enterHead h g) :=
  (toHead_moves h hu).and ((grantTo_moves _ _).and (headNotice_moves _))

/-- The leg of a scan in a direction. -/
def ScanDir.leg : ScanDir → Leg
  | .fwd => .fwd
  | .rev => .rev

/-- The direction that the drive takes on a scan: toward the B end on a forward one. -/
def ScanDir.towardB : ScanDir → Bool
  | .fwd => true
  | .rev => false

/-- The start of a scan but for the head: the boundary, the record, the bins, the run and the stretch (R32). -/
def State.scanReady (s : State) (dir : ScanDir) (fromApproach : Bool) : State :=
  let s := s.adopt
  let s := (((s.startRecord dir).setBins (emptyBins s.recipe.geometry.n)).setEdges { s.edges with run := .clear }).endStretch
  if fromApproach then s.clearContinuity else s

/-- The scan in progress that a state starts, with the limits of the recipe in force (R31). -/
def State.newScan (s : State) (dir : ScanDir) : ActiveScan := ⟨dir, s.recipe.geometry.a, s.recipe.geometry.b⟩

section

variable (s : State) (dir : ScanDir) (a : Bool)

theorem scanReady_head : (s.scanReady dir a).head = s.head := by cases a <;> simp [State.scanReady]
theorem scanReady_ring : (s.scanReady dir a).ring = s.ring.modify s.ring.pick (fun _ => s.adopt.freshRecord dir) := by
  cases a <;> simp [State.scanReady, State.startRecord]
theorem scanReady_hole : (s.scanReady dir a).hole = s.hole.endStretch := by
  cases a <;> simp [State.scanReady, State.endStretch]

/-- The head on the leg of a scan in progress. -/
def State.onLeg (s : State) (dir : ScanDir) : State :=
  let t := (s.setHead { s.head with scan := some (s.newScan dir) }).toHead (.scanning dir.leg)
  t.drive dir.towardB t.traverseStep

theorem startScan_eq : s.startScan dir a = (s.scanReady dir a).onLeg dir := by
  cases dir <;> rfl

theorem onLeg_ring : (s.onLeg dir).ring = s.ring := by simp [State.onLeg]

theorem onLeg_hole (h : s.hole.endStretch = s.hole) : (s.onLeg dir).hole = s.hole := by
  simp only [State.onLeg, drive_hole, State.toHead]
  split
  · exact h
  · rfl

theorem onLeg_head_scan : (s.onLeg dir).head.scan = some (s.newScan dir) := by simp [State.onLeg, State.drive]

theorem onLeg_head_state : (s.onLeg dir).head.state = .scanning dir.leg := by simp [State.onLeg, State.drive]

/-- The start of a scan takes the picked record (R32). -/
@[simp] theorem startScan_ring : (s.startScan dir a).ring = s.ring.modify s.ring.pick (fun _ => s.adopt.freshRecord dir) := by
  rw [startScan_eq, onLeg_ring, scanReady_ring]

/-- The stretch ends with the start of a scan (R143). -/
@[simp] theorem startScan_hole : (s.startScan dir a).hole = s.hole.endStretch := by
  rw [startScan_eq, onLeg_hole _ _ (by rw [scanReady_hole]; rfl), scanReady_hole]

@[simp] theorem startScan_head_scan : (s.startScan dir a).head.scan = some ((s.scanReady dir a).newScan dir) := by
  rw [startScan_eq, onLeg_head_scan]

@[simp] theorem startScan_head_state : (s.startScan dir a).head.state = .scanning dir.leg := by
  rw [startScan_eq, onLeg_head_state]

end

theorem startScan_moves {s : State} (dir : ScanDir) (a : Bool) (hu : Unscanned s) : Moves s (s.startScan dir a) :=
  (Move.startScan dir a hu).one

theorem arriveApproach_moves {s : State} (hu : Unscanned s) : Moves s s.arriveApproach := startScan_moves _ _ hu

/-- A scan made void and then a head turned is the head turned and then its scan made void. -/
theorem toHead_voided (s : State) (h : HeadState) : (s.toHead h).voided = s.voided.toHead h := by
  simp only [State.toHead]
  split
  · next hl => rw [if_pos (by exact hl)]; rfl
  · next hl => rw [if_neg (by exact hl)]; rfl

theorem scanAbortWith_of_none (act : State → State) {s : State} (h : s.head.scan = none) : s.scanAbortWith act = s := by
  simp [State.scanAbortWith, h]

theorem scanAbortWith_of_some (act : State → State) {s : State} {x : ActiveScan} (h : s.head.scan = some x) :
    s.scanAbortWith act = act s.voided.deferredAtAbort := by
  simp only [State.scanAbortWith, h]; rfl

@[simp] theorem voided_hole (s : State) : s.voided.hole = s.hole.endStretch := by
  simp [State.voided, State.endStretch]
@[simp] theorem voided_std (s : State) : s.voided.std = s.std := by simp [State.voided]
@[simp] theorem voided_speed (s : State) : s.voided.speed = s.speed := by simp [State.voided]
@[simp] theorem voided_trend (s : State) : s.voided.trend = s.trend := by simp [State.voided]
@[simp] theorem voided_points (s : State) : s.voided.points = s.points := by simp [State.voided]
@[simp] theorem voided_brk (s : State) : s.voided.brk = s.brk := by simp [State.voided]
@[simp] theorem voided_store (s : State) : s.voided.store = s.store := by simp [State.voided]
@[simp] theorem voided_ports (s : State) : s.voided.ports = s.ports := by simp [State.voided]
@[simp] theorem voided_ring (s : State) : s.voided.ring = s.ring.onFilling (fun r => { r with status := .void }) := by
  simp [State.voided, State.voidRecord]

@[simp] theorem voided_head (s : State) : s.voided.head = { s.head with scan := none } := by simp [State.voided]

@[simp] theorem closing_hole (s : State) (i : Nat) : (s.closing i).hole = s.hole := rfl
@[simp] theorem closing_std (s : State) (i : Nat) : (s.closing i).std = s.std := rfl
@[simp] theorem closing_speed (s : State) (i : Nat) : (s.closing i).speed = s.speed := rfl
@[simp] theorem closing_points (s : State) (i : Nat) : (s.closing i).points = s.points := rfl
@[simp] theorem closing_brk (s : State) (i : Nat) : (s.closing i).brk = s.brk := rfl
@[simp] theorem closing_store (s : State) (i : Nat) : (s.closing i).store = s.store := rfl
@[simp] theorem closing_ports (s : State) (i : Nat) : (s.closing i).ports = s.ports := rfl
@[simp] theorem closing_head (s : State) (i : Nat) : (s.closing i).head = { s.head with scan := none } := rfl

/-- The head turned and its scan, if any, aborted. -/
theorem toHead_scanAbortWith_moves {act : State → State} (s : State) (hact : ∀ t, t.brk = s.brk → Moves t (act t)) (h : HeadState) :
    Moves s ((s.toHead h).scanAbortWith act) := by
  cases hs : s.head.scan with
  | none =>
    rw [scanAbortWith_of_none _ (by simp [hs])]
    exact toHead_moves h (.of_scan hs)
  | some x =>
    rw [scanAbortWith_of_some _ (x := x) (by simp [hs]), toHead_voided]
    exact (Move.void s).one.and ((toHead_moves h (.of_scan rfl)).and ((deferredAtAbort_moves _).and (hact _ (by simp))))

/-- The head on its entry to FAULT, its scan not yet aborted (R38). -/
def State.faulted (s : State) (cause : FaultCause) : State :=
  let s := s.driveOff.toHead .fault
  s.setHead { s.head with cause := cause, grant := .none, homingTimer := .stopped }

theorem faultEntryWith_eq (act : State → State) (cause : FaultCause) (s : State) :
    s.faultEntryWith act cause = (((s.faulted cause).scanAbortWith act).dropPeriod.stdAbort).headNotice := rfl

@[simp] theorem faulted_head (s : State) (cause : FaultCause) :
    (s.faulted cause).head = { s.head with
      state := .fault, cause := cause, grant := .none, drvEn := false, drvSpd := 0, encTimer := .stopped,
      homingTimer := .stopped } := by
  simp [State.faulted, State.driveOff]

theorem faulted_voided (s : State) (cause : FaultCause) : (s.faulted cause).voided = s.voided.faulted cause := by
  simp only [State.faulted, State.toHead]
  split
  · next hl => rw [if_pos (by exact hl)]; rfl
  · next hl => rw [if_neg (by exact hl)]; rfl

theorem faulted_moves {s : State} (cause : FaultCause) (h : s.head.scan = none) : Moves s (s.faulted cause) := by
  refine (driveOff_moves s).and (Moves.and (toHead_moves .fault (.of_scan h)) (setHead_moves _ ?_ ?_)) <;> rfl

theorem faultEntryWith_moves {act : State → State} (hact : ∀ s, Moves s (act s)) (cause : FaultCause) (s : State) :
    Moves s (s.faultEntryWith act cause) := by
  rw [faultEntryWith_eq]
  refine Moves.and ?_ ((dropPeriod_moves _).and ((stdAbort_moves _).and (headNotice_moves _)))
  cases hs : s.head.scan with
  | none =>
    rw [scanAbortWith_of_none _ (by simp [hs])]
    exact faulted_moves cause hs
  | some x =>
    rw [scanAbortWith_of_some _ (x := x) (by simp [hs]), faulted_voided]
    exact (Move.void s).one.and ((faulted_moves cause rfl).and ((deferredAtAbort_moves _).and (hact _)))

theorem faultStill_moves (s : State) (cause : FaultCause) : Moves s (s.faultStill cause) :=
  faultEntryWith_moves (fun s => Moves.refl s) cause s

theorem arrivePoint_moves {s : State} (hu : Unscanned s) : Moves s s.arrivePoint :=
  (driveOff_moves s).and ((toHead_moves .singlePoint (s := s.driveOff) hu).and
    ((headNotice_moves _).and (startPeriod_moves _)))

/-- The head on an APPROACH leg that has just begun; the notice goes out where the head state changes (R31, R46). -/
def State.approaching (s : State) (g : Grant) : State :=
  let t := ((s.toHead (.scanning .approach)).grantTo g).drive (s.directionTo s.recipe.geometry.a) s.traverseStep
  match s.head.state with
  | .scanning _ => t
  | .homing | .parked | .standardizing | .positioning | .singlePoint | .returning | .fault => t.headNotice

theorem beginApproach_eq (s : State) (g : Grant) :
    s.beginApproach g =
      if s.driveMissing then s.faultStill .drive
      else if (s.approaching g).head.position.toNat = (s.approaching g).recipe.geometry.a then (s.approaching g).arriveApproach
      else s.approaching g := rfl

@[simp] theorem approaching_head (s : State) (g : Grant) :
    (s.approaching g).head = { s.head with
      state := .scanning .approach, grant := g, drvEn := true, drvDir := s.directionTo s.recipe.geometry.a,
      drvSpd := s.traverseStep, encTimer := .running Config.encoderLoss } := by
  simp only [State.approaching]; split <;> simp [State.grantTo, State.drive]

theorem approaching_moves {s : State} (g : Grant) (hu : Unscanned s) : Moves s (s.approaching g) := by
  have h : Moves s (((s.toHead (.scanning .approach)).grantTo g).drive (s.directionTo s.recipe.geometry.a) s.traverseStep) :=
    (toHead_moves _ hu).and ((grantTo_moves _ _).and (drive_moves _ _ _))
  simp only [State.approaching]; split
  · exact h
  all_goals exact h.and (headNotice_moves _)

theorem beginApproach_moves {s : State} (g : Grant) (hu : Unscanned s) : Moves s (s.beginApproach g) := by
  rw [beginApproach_eq]
  split
  · exact faultStill_moves s _
  · split
    · exact (approaching_moves g hu).and (arriveApproach_moves (.of_state (by simp [measuringLeg])))
    · exact approaching_moves g hu

/-- The head on its way to P, the move just begun (R36). -/
def State.positioning (s : State) (st : Station) (p : Nat) : State :=
  let t := (s.toHead .positioning).grantTo (.point st p)
  let t := t.setHead { t.head with pointPos := p }
  (t.drive (t.directionTo p) t.traverseStep).headNotice

theorem beginPositioning_eq (s : State) (st : Station) (p : Nat) :
    s.beginPositioning st p =
      if s.driveMissing then s.faultStill .drive
      else if (s.positioning st p).head.position.toNat = p then (s.positioning st p).arrivePoint
      else s.positioning st p := rfl

theorem positioning_moves {s : State} (st : Station) (p : Nat) (hu : Unscanned s) : Moves s (s.positioning st p) := by
  refine ((toHead_moves .positioning hu).and (grantTo_moves _ _)).and
    (Moves.and (setHead_moves _ ?_ ?_) ((drive_moves _ _ _).and (headNotice_moves _))) <;> rfl

@[simp] theorem directionTo_of_head {s t : State} (hp : s.head.position = t.head.position) (hd : s.head.drvDir = t.head.drvDir)
    (n : Nat) : s.directionTo n = t.directionTo n := by
  simp [State.directionTo, hp, hd]

@[simp] theorem positioning_head (s : State) (st : Station) (p : Nat) :
    (s.positioning st p).head = { s.head with
      state := .positioning, grant := .point st p, pointPos := p, drvEn := true, drvDir := s.directionTo p,
      drvSpd := s.traverseStep, encTimer := .running Config.encoderLoss } := by
  simp [State.positioning, State.grantTo, State.drive, State.directionTo, State.traverseStep, State.activeRecipe]

theorem beginPositioning_moves {s : State} (st : Station) (p : Nat) (hu : Unscanned s) : Moves s (s.beginPositioning st p) := by
  rw [beginPositioning_eq]
  split
  · exact faultStill_moves s _
  · split
    · exact (positioning_moves st p hu).and (arrivePoint_moves (.of_state (by simp [measuringLeg])))
    · exact positioning_moves st p hu

theorem stayParked_moves {s : State} (g : Grant) (hu : Unscanned s) : Moves s (s.stayParked g) := by
  simp only [State.stayParked]; split
  · exact grantTo_moves s g
  all_goals exact enterHead_moves _ g hu

theorem decideParkedOther_moves {s : State} (g : Grant) (hu : Unscanned s) : Moves s (s.decideParkedOther g) := by
  cases g with
  | hold => exact stayParked_moves _ hu
  | park st => exact stayParked_moves _ hu
  | point st p => exact beginPositioning_moves st p hu
  | scan => exact beginApproach_moves _ hu
  | standardize => exact stayParked_moves _ hu
  | none => exact stayParked_moves _ hu

/-- The head STANDARDIZING, its procedure begun, or about to end under an EMPTY machine record (R12, R30). -/
def State.standardizing (s : State) : State :=
  let u := s.std.begin_ s.store.machine
  let t := ((s.toHead .standardizing).grantTo .standardize).setStd (if s.store.machineSet then u.enterZero else u)
  if s.head.state = .standardizing then t else t.headNotice

theorem startStd_eq (s : State) :
    s.startStd =
      if s.store.machineSet then s.standardizing
      else s.standardizing.stdNoRecord.decideParkedOther s.standardizing.stdNoRecord.winner := by
  simp only [State.startStd, State.standardizing]
  split <;> split <;> simp_all

@[simp] theorem standardizing_head (s : State) :
    s.standardizing.head = { s.head with state := .standardizing, grant := .standardize } := by
  simp only [State.standardizing]; split <;> simp [State.grantTo]

theorem standardizing_moves {s : State} (hu : Unscanned s) : Moves s s.standardizing := by
  have h : Moves s (((s.toHead .standardizing).grantTo .standardize).setStd
      (if s.store.machineSet then (s.std.begin_ s.store.machine).enterZero else s.std.begin_ s.store.machine)) := by
    refine (toHead_moves _ hu).and ((grantTo_moves _ _).and (setStd_moves _ ?_ ?_)) <;>
      split <;> simp [StdUnit.enterZero, StdUnit.collect, StdUnit.begin_]
  simp only [State.standardizing]; split
  · exact h
  · exact h.and (headNotice_moves _)

@[simp] theorem stdNoRecord_head (s : State) :
    s.stdNoRecord.head = { s.head with slots := s.head.slots.map (fun m => if m = .standardize then ModeSlot.none else m) } := by
  simp [State.stdNoRecord, State.consumeStd]

theorem startStd_moves {s : State} (hu : Unscanned s) : Moves s s.startStd := by
  rw [startStd_eq]; split
  · exact standardizing_moves hu
  · exact (standardizing_moves hu).and ((stdNoRecord_moves _).and
      (decideParkedOther_moves _ (.of_state (by simp [measuringLeg]))))

/-- Standardization starts; any other winner is granted at park. -/
theorem decideParked_eq (s : State) :
    s.decideParked = if s.winner = .standardize then s.startStd else s.decideParkedOther s.winner := by
  simp only [State.decideParked]; split <;> simp_all

theorem decideParked_moves {s : State} (hu : Unscanned s) : Moves s s.decideParked := by
  rw [decideParked_eq]; split
  · exact startStd_moves hu
  · exact decideParkedOther_moves _ hu

theorem redecideIfParked_of_ne {s : State} (h : s.head.state ≠ .parked) : s.redecideIfParked = s := by
  simp only [State.redecideIfParked]; split <;> simp_all

theorem redecideIfParked_of_parked {s : State} (h : s.head.state = .parked) : s.redecideIfParked = s.decideParked := by
  simp [State.redecideIfParked, h]

theorem redecideIfParked_moves (s : State) : Moves s s.redecideIfParked := by
  by_cases h : s.head.state = .parked
  · rw [redecideIfParked_of_parked h]
    exact decideParked_moves (.of_state (by simp [h, measuringLeg]))
  · rw [redecideIfParked_of_ne h]

theorem stdEnded_of_ne {s : State} (h : s.head.state ≠ .standardizing) : s.stdEnded = s := by
  simp only [State.stdEnded]; split <;> simp_all

theorem stdEnded_of_standardizing {s : State} (h : s.head.state = .standardizing) : s.stdEnded = s.decideParked := by
  simp [State.stdEnded, h]

theorem stdEnded_moves (s : State) : Moves s s.stdEnded := by
  by_cases h : s.head.state = .standardizing
  · rw [stdEnded_of_standardizing h]
    exact decideParked_moves (.of_state (by simp [h, measuringLeg]))
  · rw [stdEnded_of_ne h]

theorem arriveParked_moves {s : State} (hu : Unscanned s) : Moves s s.arriveParked := by
  refine (driveOff_moves s).and ((toHead_moves .parked (s := s.driveOff) hu).and ((headNotice_moves _).and
    (decideParked_moves (.of_state ?_))))
  simp [measuringLeg]

/-- The head RETURNING, the move just begun (R35). -/
def State.returning (s : State) (g : Grant) : State :=
  (((s.toHead .returning).grantTo g).drive false s.traverseStep).headNotice

theorem beginReturning_eq (s : State) (g : Grant) :
    s.beginReturning g =
      if s.driveMissing then s.faultStill .drive
      else if (s.returning g).head.position = 0 then (s.returning g).arriveParked
      else s.returning g := rfl

@[simp] theorem returning_head (s : State) (g : Grant) :
    (s.returning g).head = { s.head with
      state := .returning, grant := g, drvEn := true, drvDir := false, drvSpd := s.traverseStep,
      encTimer := .running Config.encoderLoss } := by
  simp [State.returning, State.grantTo, State.drive]

theorem beginReturning_moves {s : State} (g : Grant) (hu : Unscanned s) : Moves s (s.beginReturning g) := by
  have h : Moves s (s.returning g) :=
    (toHead_moves .returning hu).and ((grantTo_moves _ _).and ((drive_moves _ _ _).and (headNotice_moves _)))
  rw [beginReturning_eq]; split
  · exact faultStill_moves s _
  · split
    · exact h.and (arriveParked_moves (.of_state (by simp [measuringLeg])))
    · exact h

/-! ## The break states, with a head that they do not move -/

/-- The supervisor on its entry to RECOVERING (R134). -/
def Supervisor.recovering (b : Supervisor) : Supervisor :=
  { b with state := .recovering, threadingTimer := .stopped, recoveryCount := 0, relay := false }

/-- The entry to RECOVERING but for the change of the break state and the decision that ends it. -/
def State.recoverRest (s : State) : State :=
  let s := s.profileRestart
  (s.setStd { s.std with stdDue := true }).breakNotice

theorem recoveringEntry_eq (s : State) :
    s.recoveringEntry = (s.setBrk s.brk.recovering).recoverRest.redecideIfParked := rfl

@[simp] theorem recoverRest_head (s : State) : s.recoverRest.head = s.head := by simp [State.recoverRest]
@[simp] theorem recoverRest_brk (s : State) : s.recoverRest.brk = s.brk := by simp [State.recoverRest]

/-- The supervisor on its entry to THREADING, with its hold in seconds (R130). -/
def Supervisor.threading (b : Supervisor) (hold : Nat) : Supervisor :=
  { b with state := .threading, relay := false, threadingTimer := .running (hold * Config.second) }

theorem threadingEntry_eq (s : State) :
    s.threadingEntry =
      let t := (s.setBrk (s.brk.threading s.recipe.brk.threadingHold)).breakNotice
      if s.recipe.brk.threadingHold = 0 then t.threadingExpiry else t := rfl

/-- The supervisor on its entry to BREAK (R128). -/
def Supervisor.broken (b : Supervisor) (absent : Bool) : Supervisor :=
  { b with
    state := .break_, threadingTimer := .stopped, count := min Config.hold16 (b.count + 1),
    causes := ⟨b.tripped, absent⟩, relay := true }

theorem breakEntryWith_eq (act : State → State) (absent : Bool) (s : State) :
    s.breakEntryWith act absent =
      ((((s.setBrk (s.brk.broken absent)).claimTakesEffectWith act).clearContinuity.endPendingByBreak).breakNotice).judgeThreading :=
  rfl

theorem recoveringEntry_head {s : State} (h : s.head.state ≠ .parked) : s.recoveringEntry.head = s.head := by
  rw [recoveringEntry_eq, redecideIfParked_of_ne] <;> simp [h]

theorem threadingExpiry_head {s : State} (h : s.head.state ≠ .parked) : s.threadingExpiry.head = s.head := by
  simp only [State.threadingExpiry]; split
  · rw [recoveringEntry_head] <;> simp [h]
  · rfl

theorem threadingEntry_head {s : State} (h : s.head.state ≠ .parked) : s.threadingEntry.head = s.head := by
  simp only [threadingEntry_eq]; split
  · rw [threadingExpiry_head] <;> simp [h]
  · simp

theorem judgeThreading_head {s : State} (h : s.head.state ≠ .parked) : s.judgeThreading.head = s.head := by
  simp only [State.judgeThreading]; split
  · exact threadingEntry_head h
  · rfl

/-- The head is RETURNING or in FAULT: no claim and no activation changes that. -/
def Away (s : State) : Prop := s.head.state = .returning ∨ s.head.state = .fault

theorem Away.ne_parked {s : State} (h : Away s) : s.head.state ≠ .parked := by
  obtain h | h := h <;> simp [h]

/-- The head keeps its state and its scan. -/
def SameHead (s t : State) : Prop := t.head.state = s.head.state ∧ t.head.scan = s.head.scan

theorem SameHead.of_eq {s t : State} (h : t.head = s.head) : SameHead s t := by rw [SameHead, h]; exact ⟨rfl, rfl⟩

theorem SameHead.and {s t u : State} (h : SameHead s t) (h' : SameHead t u) : SameHead s u :=
  ⟨h'.1.trans h.1, h'.2.trans h.2⟩

theorem SameHead.away {s t : State} (h : SameHead s t) (ha : Away s) : Away t := by
  rw [Away, h.1]; exact ha

theorem claimTakesEffectWith_sameHead (act : State → State) {s : State} (h : Away s) : SameHead s (s.claimTakesEffectWith act) := by
  obtain h | h := h <;> simp [State.claimTakesEffectWith, h, SameHead, State.grantTo]

theorem breakEntryWith_sameHead (act : State → State) (absent : Bool) {s : State} (h : Away s) :
    SameHead s (s.breakEntryWith act absent) := by
  have hc := claimTakesEffectWith_sameHead act (s := s.setBrk (s.brk.broken absent)) h
  rw [breakEntryWith_eq]
  refine hc.and (.of_eq ?_)
  rw [judgeThreading_head] <;> simp [(hc.away h).ne_parked]

/-- What the break state machine does with changes of detectors (R127, R129, R130). -/
theorem judgeDetectorsWith_cases (entry : State → State) (trips clears : PerDetector Bool) (s : State) :
    s.judgeDetectorsWith entry trips clears = s
      ∨ (s.brk.state ≠ .idle ∧ trips.any id = true ∧ s.judgeDetectorsWith entry trips clears = entry s)
      ∨ (s.brk.state = .break_ ∧ trips.any id = true ∧ s.judgeDetectorsWith entry trips clears = s.addCauses trips)
      ∨ (s.brk.state = .break_ ∧ s.judgeDetectorsWith entry trips clears = s.judgeThreading) := by
  cases hb : s.brk.state <;> cases ht : trips.any id <;> cases hc : clears.any id <;>
    simp [State.judgeDetectorsWith, hb, ht, hc]

/-- What the break state machine does at an activation (R125, R136). -/
theorem judgeActivationWith_cases (entry : State → State) (trips clears : PerDetector Bool) (s : State) :
    (s.brk.state = .idle ∧ s.brk.allClear = true ∧ s.judgeActivationWith entry trips clears = s.recoveringEntry)
      ∨ (s.brk.state = .idle ∧ s.brk.allClear = false ∧ s.judgeActivationWith entry trips clears = entry s)
      ∨ (s.brk.state ≠ .idle ∧ s.judgeActivationWith entry trips clears = s.judgeDetectorsWith entry trips clears) := by
  cases hb : s.brk.state <;> cases hc : s.brk.allClear <;> simp [State.judgeActivationWith, hb, hc]

theorem judgeDetectorsWith_sameHead {entry : State → State} (hentry : ∀ s, Away s → SameHead s (entry s))
    (trips clears : PerDetector Bool) {s : State} (h : Away s) : SameHead s (s.judgeDetectorsWith entry trips clears) := by
  obtain e | ⟨-, -, e⟩ | ⟨-, -, e⟩ | ⟨-, e⟩ := judgeDetectorsWith_cases entry trips clears s <;> rw [e]
  · exact .of_eq rfl
  · exact hentry s h
  · exact .of_eq (by simp)
  · exact .of_eq (judgeThreading_head h.ne_parked)

theorem judgeActivationWith_sameHead {entry : State → State} (hentry : ∀ s, Away s → SameHead s (entry s))
    (trips clears : PerDetector Bool) {s : State} (h : Away s) : SameHead s (s.judgeActivationWith entry trips clears) := by
  obtain ⟨-, -, e⟩ | ⟨-, -, e⟩ | ⟨-, e⟩ := judgeActivationWith_cases entry trips clears s <;> rw [e]
  · exact .of_eq (recoveringEntry_head h.ne_parked)
  · exact hentry s h
  · exact judgeDetectorsWith_sameHead hentry trips clears h

theorem reaim_of_ne {s : State} (h : s.head.state ≠ .scanning .approach) : s.reaim = s := by
  simp only [State.reaim]; split <;> simp_all

/-- The store, the profile unit and the limits once a slot is ACTIVE, the detectors re-judged (R169). -/
def State.activated (s : State) (i : SlotNo) : State :=
  let s := s.setStore (s.store.activate i)
  (s.profileActivation s.recipe.layout).clearLimits

/-- The detectors re-judged under the recipe in force (R120). -/
def State.rejudged (s : State) : PerDetector DetectorUnit := s.recipe.brk.rejudge s.brk.det

theorem activateWith_eq (judge : PerDetector Bool → PerDetector Bool → State → State) (i : SlotNo) (s : State) :
    s.activateWith judge i =
      let t := s.activated i
      (((judge (newTrips t.brk.det t.rejudged) (newClears t.brk.det t.rejudged)
        (t.setBrk { t.brk with det := t.rejudged })).recipeNotice .activated).redecideIfParked).reaim := rfl

@[simp] theorem activated_head (s : State) (i : SlotNo) : (s.activated i).head = s.head := by simp [State.activated]
@[simp] theorem activated_brk (s : State) (i : SlotNo) : (s.activated i).brk = s.brk := by simp [State.activated]

theorem activateWith_sameHead {judge : PerDetector Bool → PerDetector Bool → State → State}
    (hjudge : ∀ a b s, Away s → SameHead s (judge a b s)) (i : SlotNo) {s : State} (h : Away s) :
    SameHead s (s.activateWith judge i) := by
  simp only [activateWith_eq]
  set t := (s.activated i).setBrk { (s.activated i).brk with det := (s.activated i).rejudged } with ht
  have hst : SameHead s t := .of_eq (by simp [ht])
  set u := judge (newTrips (s.activated i).brk.det (s.activated i).rejudged)
    (newClears (s.activated i).brk.det (s.activated i).rejudged) t
  have hsu : SameHead s u := hst.and (hjudge _ _ t (hst.away h))
  have hu := hsu.away h
  rw [redecideIfParked_of_ne (by simpa using hu.ne_parked), reaim_of_ne (by obtain hu | hu := hu <;> simp [hu])]
  exact hsu.and (.of_eq (by simp))

theorem activate_sameHead (i : SlotNo) {s : State} (h : Away s) : SameHead s (s.activate i) :=
  activateWith_sameHead (fun a b _ ha =>
    judgeActivationWith_sameHead (fun _ hb => breakEntryWith_sameHead id false hb) a b ha) i h

theorem activatePending_sameHead {s : State} (h : Away s) : SameHead s s.activatePending := by
  simp only [State.activatePending]; split
  · exact .of_eq rfl
  · exact activate_sameHead _ h

theorem activateInEntry_sameHead {s : State} (h : Away s) : SameHead s s.activateInEntry := by
  simp only [State.activateInEntry]; split
  · exact .of_eq rfl
  · exact activateWith_sameHead (fun a b s _ => .of_eq (judgeInEntry_head s a b)) _ h

/-! ## A claim takes effect at once -/

theorem Away.unscanned {s : State} (h : Away s) : Unscanned s := by
  refine .of_state ?_
  obtain h | h := h <;> simp [h, measuringLeg]

theorem scanAbortWith_sameState {act : State → State} (hact : ∀ s, Away s → SameHead s (act s)) {s : State} (h : Away s) :
    (s.scanAbortWith act).head.state = s.head.state := by
  cases hs : s.head.scan with
  | none => rw [scanAbortWith_of_none _ hs]
  | some x =>
    rw [scanAbortWith_of_some _ hs]
    refine (hact _ ?_).1.trans ?_
    · simpa [Away] using h
    · simp

theorem claimTakesEffectWith_moves {act : State → State} {s : State} (hact : ∀ t, t.brk = s.brk → Moves t (act t))
    (haway : ∀ s, Away s → SameHead s (act s)) : Moves s (s.claimTakesEffectWith act) := by
  simp only [State.claimTakesEffectWith]
  split
  · refine (toHead_scanAbortWith_moves s hact .returning).and (beginReturning_moves _ (.of_state ?_))
    rw [scanAbortWith_sameState haway] <;> simp [Away, measuringLeg]
  · next h => exact beginReturning_moves _ (.of_state (by simp [h, measuringLeg]))
  · next h => exact (dropPeriod_moves s).and (beginReturning_moves _ (.of_state (by simp [h, measuringLeg])))
  · next h => exact (stdAbort_moves s).and (enterHead_moves _ _ (.of_state (by simp [h, measuringLeg])))
  · exact grantTo_moves s _
  · exact grantTo_moves s _
  all_goals exact Moves.refl s

theorem endPending_moves (s : State) (st : Station) (b : ReplyBody) : Moves s (s.endPending st b) :=
  (Move.endPending s st b).one

theorem endPendingByBreak_moves (s : State) : Moves s s.endPendingByBreak :=
  (endPending_moves s _ _).and ((endPending_moves _ _ _).and ((endPending_moves _ _ _).and (endPending_moves _ _ _)))

/-! ## The break states -/

theorem Supervisor.recovering_kept (b : Supervisor) : BrkKept b b.recovering :=
  ⟨fun h => h, fun _ => Nat.zero_le 8, fun _ => by simp [Supervisor.recovering]⟩

theorem Supervisor.threading_kept (b : Supervisor) (hold : Nat) : BrkKept b (b.threading hold) :=
  ⟨fun h => h, fun h => h, fun _ => by simp [Supervisor.threading]⟩

theorem Supervisor.broken_kept (b : Supervisor) (absent : Bool) : BrkKept b (b.broken absent) :=
  ⟨fun _ => Nat.min_le_left _ _, fun h => h, fun _ => by simp [Supervisor.broken]⟩

/-- A change of what the laws do not watch in the supervisor. -/
theorem setBrk_moves {s : State} {b : Supervisor} (hs : b.state = s.brk.state) (hc : b.count = s.brk.count)
    (hr : b.recoveryCount = s.brk.recoveryCount) (hrelay : b.relay = s.brk.relay) : Moves s (s.setBrk b) :=
  (Move.brk b ⟨fun h => by rwa [hc], fun h => by rwa [hr], fun h => by rwa [hs, hrelay]⟩ (by rw [hs])).one

theorem recoverRest_moves (s : State) : Moves s s.recoverRest := by
  refine (profileRestart_moves s).and (Moves.and (setStd_moves _ ?_ ?_) (breakNotice_moves _)) <;> exact le_rfl

/-- What follows the change of the break state on the entry to RECOVERING. -/
theorem recoveringEntry_moves_after (s : State) : Moves (s.setBrk s.brk.recovering) s.recoveringEntry :=
  (recoverRest_moves _).and (redecideIfParked_moves _)

theorem recoveringEntry_moves {s : State} (h : s.brk.state ≠ .idle) : Moves s s.recoveringEntry :=
  (Move.brk _ s.brk.recovering_kept (by simp [Supervisor.recovering, h])).one.and (recoveringEntry_moves_after s)

theorem threadingExpiry_moves {s : State} (h : s.brk.state ≠ .idle) : Moves s s.threadingExpiry := by
  have hb : Moves s (s.setBrk { s.brk with threadingTimer := .stopped }) := setBrk_moves rfl rfl rfl rfl
  simp only [State.threadingExpiry]; split
  · exact hb.and (recoveringEntry_moves h)
  · exact hb

theorem threadingEntry_moves {s : State} (h : s.brk.state ≠ .idle) : Moves s s.threadingEntry := by
  have hb : Moves s (s.setBrk (s.brk.threading s.recipe.brk.threadingHold)).breakNotice :=
    (Move.brk _ (s.brk.threading_kept _) (by simp [Supervisor.threading, h])).one.and (breakNotice_moves _)
  simp only [threadingEntry_eq]; split
  · exact hb.and (threadingExpiry_moves (by simp [Supervisor.threading]))
  · exact hb

theorem judgeThreading_moves (s : State) : Moves s s.judgeThreading := by
  simp only [State.judgeThreading]; split
  · next h => exact threadingEntry_moves (by simp [h.1])
  · exact Moves.refl s

/-- What follows the change of the break state on the entry to BREAK. -/
theorem breakEntryWith_moves_after {act : State → State} (hact : ∀ s, s.brk.state ≠ .idle → Moves s (act s))
    (haway : ∀ s, Away s → SameHead s (act s)) (absent : Bool) (s : State) :
    Moves (s.setBrk (s.brk.broken absent)) (s.breakEntryWith act absent) :=
  (claimTakesEffectWith_moves (fun t ht => hact t (by simp [ht, Supervisor.broken])) haway).and ((clearContinuity_moves _).and ((endPendingByBreak_moves _).and
    ((breakNotice_moves _).and (judgeThreading_moves _))))

theorem breakEntryWith_moves {act : State → State} (hact : ∀ s, s.brk.state ≠ .idle → Moves s (act s))
    (haway : ∀ s, Away s → SameHead s (act s)) (absent : Bool) {s : State} (h : s.brk.state ≠ .idle) :
    Moves s (s.breakEntryWith act absent) :=
  (Move.brk _ (s.brk.broken_kept absent) (by simp [Supervisor.broken, h])).one.and
    (breakEntryWith_moves_after hact haway absent s)

theorem addCauses_moves (s : State) (trips : PerDetector Bool) : Moves s (s.addCauses trips) := by
  refine Moves.and (setBrk_moves ?_ ?_ ?_ ?_) (breakNotice_moves _) <;> rfl

theorem judgeDetectorsWith_moves {entry : State → State} (hentry : ∀ s, s.brk.state ≠ .idle → Moves s (entry s))
    (trips clears : PerDetector Bool) (s : State) : Moves s (s.judgeDetectorsWith entry trips clears) := by
  obtain e | ⟨hi, -, e⟩ | ⟨-, -, e⟩ | ⟨-, e⟩ := judgeDetectorsWith_cases entry trips clears s <;> rw [e]
  · exact hentry s hi
  · exact addCauses_moves s _
  · exact judgeThreading_moves s

/-! ## Activation -/

theorem offer_setBrk (s : State) (b : Supervisor) (n : Notice) : (s.setBrk b).offer n = (s.offer n).setBrk b := rfl

theorem clearLimits_setBrk (s : State) (b : Supervisor) : (s.setBrk b).clearLimits = s.clearLimits.setBrk b := by
  simp only [State.clearLimits]; split <;> (split <;> simp_all) <;> rfl

theorem updateEdges_setBrk (s : State) (b : Supervisor) (e : EdgeTracker) :
    (s.setBrk b).updateEdges e = (s.updateEdges e).setBrk b := by
  cases h : s.edges.locked && !e.locked <;> simp only [State.updateEdges, State.setBrk_edges, h] <;> rfl

theorem profileRestart_setBrk (s : State) (b : Supervisor) : (s.setBrk b).profileRestart = s.profileRestart.setBrk b :=
  updateEdges_setBrk (s.setProfile s.profile.restart) b s.edges.restart

theorem profileActivation_setBrk (s : State) (b : Supervisor) (l : Layout) :
    (s.setBrk b).profileActivation l = (s.profileActivation l).setBrk b := by
  by_cases h : s.profile.layout = some l
  · have h' : (s.setBrk b).profile.layout = some l := h
    rw [State.profileActivation, State.profileActivation, if_pos h, if_pos h']; rfl
  · have h' : ¬(s.setBrk b).profile.layout = some l := h
    rw [State.profileActivation, State.profileActivation, if_neg h, if_neg h']
    exact profileRestart_setBrk (s.setProfile { s.profile with layout := some l }) b

theorem clearLimits_moves (s : State) : Moves s s.clearLimits := by
  have h : Moves s (s.setLimits .reset) := setLimits_moves s _
  simp only [State.clearLimits]; split
  · exact h
  · exact h.and (offer_moves _ _)

/-- A slot becomes ACTIVE together with a break state that is not IDLE. -/
theorem activated_setBrk_moves {s : State} (i : SlotNo) {b : Supervisor} (h : BrkKept s.brk b) (hi : b.state ≠ .idle) :
    Moves s ((s.activated i).setBrk b) := by
  have e : (s.activated i).setBrk b =
      (((s.setStore (s.store.activate i)).setBrk b).profileActivation (s.setStore (s.store.activate i)).recipe.layout).clearLimits := by
    rw [profileActivation_setBrk, clearLimits_setBrk]; rfl
  rw [e]
  exact (Move.activate i b h hi).one.and ((profileActivation_moves _ _).and (clearLimits_moves _))

theorem rejudged_moves {s : State} (i : SlotNo) (h : s.brk.state ≠ .idle) :
    Moves s ((s.activated i).setBrk { (s.activated i).brk with det := (s.activated i).rejudged }) :=
  activated_setBrk_moves i (by simp only [activated_brk]; exact ⟨fun h => h, fun h => h, fun h => h⟩) (by simpa using h)

theorem reaim_moves (s : State) : Moves s s.reaim := by
  simp only [State.reaim]; split
  · next h =>
    split
    · refine (drive_moves s _ _).and (arriveApproach_moves (.of_state ?_))
      simp [State.drive, h, measuringLeg]
    · exact drive_moves s _ _
  all_goals exact Moves.refl s

/-- An activation is what its break state machine makes of the store's step, and then the notice and the head's part. -/
theorem activateWith_moves {judge : PerDetector Bool → PerDetector Bool → State → State} {i : SlotNo} {s : State}
    (h : Moves s (judge (newTrips (s.activated i).brk.det (s.activated i).rejudged)
      (newClears (s.activated i).brk.det (s.activated i).rejudged)
      ((s.activated i).setBrk { (s.activated i).brk with det := (s.activated i).rejudged }))) :
    Moves s (s.activateWith judge i) :=
  h.and ((recipeNotice_moves _ _).and ((redecideIfParked_moves _).and (reaim_moves _)))

theorem activateInEntry_moves {s : State} (h : s.brk.state ≠ .idle) : Moves s s.activateInEntry := by
  simp only [State.activateInEntry]; split
  · exact Moves.refl s
  · next i _ =>
    refine activateWith_moves ((rejudged_moves i h).and ?_)
    simp only [State.judgeInEntry]; split
    · exact addCauses_moves _ _
    · exact Moves.refl _

theorem breakEntryWith_id_moves {s : State} (h : s.brk.state ≠ .idle) : Moves s (s.breakEntryWith id false) :=
  breakEntryWith_moves (fun s _ => Moves.refl s) (fun _ _ => .of_eq rfl) false h

theorem activate_moves (s : State) (i : SlotNo) : Moves s (s.activate i) := by
  refine activateWith_moves ?_
  set b : Supervisor := { (s.activated i).brk with det := (s.activated i).rejudged } with hb
  have hkept : BrkKept s.brk b := by
    simp only [hb, activated_brk]; exact ⟨fun h => h, fun h => h, fun h => h⟩
  have hafter : ∀ b' : Supervisor, BrkKept b b' → b'.state ≠ .idle → Moves s ((s.activated i).setBrk b') := fun b' h hi =>
    activated_setBrk_moves i ⟨fun hc => h.count (hkept.count hc), fun hc => h.recoveries (hkept.recoveries hc),
      fun hc => h.relay (hkept.relay hc)⟩ hi
  set t := (s.activated i).setBrk b with ht
  have hbi : t.brk.state = s.brk.state := by simp [ht, hb]
  obtain ⟨-, -, e⟩ | ⟨-, -, e⟩ | ⟨hi, e⟩ := judgeActivationWith_cases (State.breakEntryWith id false)
    (newTrips (s.activated i).brk.det (s.activated i).rejudged) (newClears (s.activated i).brk.det (s.activated i).rejudged) t <;>
    rw [e]
  · exact (hafter b.recovering b.recovering_kept (by simp [Supervisor.recovering])).and (recoveringEntry_moves_after t)
  · exact (hafter (b.broken false) (b.broken_kept false) (by simp [Supervisor.broken])).and
      (breakEntryWith_moves_after (fun s _ => Moves.refl s) (fun _ _ => .of_eq rfl) false t)
  · exact (rejudged_moves i (by rwa [hbi] at hi)).and
      (judgeDetectorsWith_moves (fun _ h => breakEntryWith_id_moves h) _ _ _)

theorem activatePending_moves (s : State) : Moves s s.activatePending := by
  simp only [State.activatePending]; split
  · exact Moves.refl s
  · exact activate_moves s _

/-! ## The entries with their activations -/

theorem parkTakesEffect_moves (s : State) : Moves s s.parkTakesEffect :=
  claimTakesEffectWith_moves (fun t _ => activatePending_moves t) (fun _ h => activatePending_sameHead h)

theorem breakEntry_moves {s : State} (absent : Bool) (h : s.brk.state ≠ .idle) : Moves s (s.breakEntry absent) :=
  breakEntryWith_moves (fun _ h => activateInEntry_moves h) (fun _ h => activateInEntry_sameHead h) absent h

theorem judgeDetectors_moves (s : State) (trips clears : PerDetector Bool) : Moves s (s.judgeDetectors trips clears) :=
  judgeDetectorsWith_moves (fun _ h => breakEntry_moves false h) trips clears s

theorem faultEntry_moves (s : State) (cause : FaultCause) : Moves s (s.faultEntry cause) :=
  faultEntryWith_moves activatePending_moves cause s

theorem faultUnlessFaulted_moves (s : State) (cause : FaultCause) : Moves s (s.faultUnlessFaulted cause) := by
  simp only [State.faultUnlessFaulted]; split
  · exact Moves.refl s
  all_goals exact faultEntry_moves s cause

/-! ## Under the break hold -/

theorem winner_of_hold {s : State} (h : s.holdPresent = true) : s.winner = .hold := by simp [State.winner, h]

theorem winner_eq_hold_iff (s : State) : s.winner = .hold ↔ s.holdPresent = true := by
  refine ⟨fun h => ?_, winner_of_hold⟩
  by_contra hn
  simp only [State.winner, hn, State.lowWinner] at h
  split at h
  · simp_all
  · split at h
    · cases h
    · split at h
      · cases h
      · split at h
        · cases h
        · split at h <;> cases h

theorem decideParked_of_hold {s : State} (h : s.holdPresent = true) : s.decideParked = s.stayParked .hold := by
  rw [decideParked_eq, winner_of_hold h, if_neg (by decide)]; rfl

@[simp] theorem stayParked_head (s : State) (g : Grant) : (s.stayParked g).head = { s.head with state := .parked, grant := g } := by
  simp only [State.stayParked]; split
  · next h => simp [State.grantTo, ← h]
  all_goals simp [State.enterHead, State.grantTo]

@[simp] theorem faultStill_head (s : State) (cause : FaultCause) :
    (s.faultStill cause).head = { s.head with
      state := .fault, cause := cause, grant := .none, drvEn := false, drvSpd := 0, encTimer := .stopped,
      homingTimer := .stopped, scan := none } := by
  rw [State.faultStill, faultEntryWith_eq]
  cases hs : s.head.scan with
  | none => rw [scanAbortWith_of_none _ (by simp [hs])]; simp [hs]
  | some x => rw [scanAbortWith_of_some _ (x := x) (by simp [hs])]; simp

/-- At park the head stays under the break hold. -/
theorem arriveParked_head_of_hold {s : State} (h : s.holdPresent = true) :
    s.arriveParked.head = { s.head with
      state := .parked, grant := .hold, drvEn := false, drvSpd := 0, encTimer := .stopped } := by
  have hh : ((s.driveOff.toHead .parked).headNotice).holdPresent = true := by simpa [State.holdPresent] using h
  rw [State.arriveParked, decideParked_of_hold hh]
  simp [State.driveOff]

/-- A head that returns under the break hold comes to FAULT, to PARKED, or is on its way; its scan stays none. -/
theorem beginReturning_of_hold {s : State} (g : Grant) (h : s.holdPresent = true) :
    heldState (s.beginReturning g).head.state = true ∧ (s.head.scan = none → (s.beginReturning g).head.scan = none) := by
  rw [beginReturning_eq]; split
  · simp [heldState]
  · split
    · rw [arriveParked_head_of_hold (by simpa [State.holdPresent, State.returning] using h)]
      simp [heldState]
    · simp [heldState]

/-- A decision of a head under the break hold leaves it where it is. -/
theorem redecideIfParked_head_of_hold {s : State} (h : s.holdPresent = true) :
    s.redecideIfParked.head.state = s.head.state ∧ s.redecideIfParked.head.scan = s.head.scan := by
  by_cases hp : s.head.state = .parked
  · rw [redecideIfParked_of_parked hp, decideParked_of_hold h]; simp [hp]
  · rw [redecideIfParked_of_ne hp]; simp

/-! ## An activation at a completion -/

/-- A trip among re-judged detectors leaves one TRIPPED. -/
theorem not_allClear_of_newTrips {b : Supervisor} {old : PerDetector DetectorUnit}
    (h : (newTrips old b.det).any id = true) : b.allClear = false := by
  simp only [newTrips, PerDetector.any, PerDetector.zip, id, Bool.or_eq_true, Bool.and_eq_true] at h
  simp only [Supervisor.allClear, Supervisor.tripped, PerDetector.any, PerDetector.map, id]
  obtain ((h | h) | h) | h := h <;> simp [h]

theorem judgeThreading_of_not_allClear {s : State} (h : s.brk.allClear = false) : s.judgeThreading = s := by
  simp [State.judgeThreading, h]

/-- The entry to BREAK of a head on a leg whose scan is over, a detector being TRIPPED. -/
theorem breakEntryWith_id_of_leg {s : State} (hl : measuringLeg s.head.state = true) (hs : s.head.scan = none)
    (hc : s.brk.allClear = false) :
    (s.breakEntryWith id false).holdPresent = true ∧ heldState (s.breakEntryWith id false).head.state = true
      ∧ (s.breakEntryWith id false).head.scan = none := by
  set t := s.setBrk (s.brk.broken false) with ht
  have hhold : t.holdPresent = true := by simp [ht, State.holdPresent, Supervisor.broken]
  have hclaim : t.claimTakesEffectWith id = (t.toHead .returning).beginReturning (t.toHead .returning).highGrant := by
    have hleg : s.head.state = .scanning .fwd ∨ s.head.state = .scanning .rev := by simpa [measuringLeg] using hl
    simp only [State.claimTakesEffectWith]
    rw [scanAbortWith_of_none _ (by simp [ht, hs])]
    obtain h | h := hleg <;> simp [ht, h]
  have hbrk : (t.claimTakesEffectWith id).brk = t.brk := claimTakesEffectWith_brk _ (fun _ => rfl) _
  have hclear : ((t.claimTakesEffectWith id).clearContinuity.endPendingByBreak.breakNotice).brk.allClear = false := by
    simpa [hbrk, ht, Supervisor.broken, Supervisor.allClear, Supervisor.tripped] using hc
  have hret := beginReturning_of_hold (s := t.toHead .returning) (t.toHead .returning).highGrant
    (by simpa [State.holdPresent] using hhold)
  rw [breakEntryWith_eq, ← ht, judgeThreading_of_not_allClear hclear]
  refine ⟨?_, ?_, ?_⟩
  · simpa [State.holdPresent, hbrk] using hhold
  · simpa [hclaim] using hret.1
  · simpa [hclaim] using hret.2 (by simp [ht, hs])

/-- An activation at a completion, the head on its leg and the scan over: no scan starts, and the head is on its leg
still or where the break hold has it. -/
theorem activate_of_leg {s : State} (i : SlotNo) (hl : measuringLeg s.head.state = true) (hs : s.head.scan = none) :
    (s.activate i).head.scan = none
      ∧ ((s.activate i).head.state = s.head.state ∨ heldState (s.activate i).head.state = true) := by
  have hleg : s.head.state = .scanning .fwd ∨ s.head.state = .scanning .rev := by simpa [measuringLeg] using hl
  have hparked : s.head.state ≠ .parked := by obtain h | h := hleg <;> simp [h]
  have hnear : s.head.state ≠ .scanning .approach := by obtain h | h := hleg <;> simp [h]
  simp only [State.activate, activateWith_eq]
  set t := (s.activated i).setBrk { (s.activated i).brk with det := (s.activated i).rejudged } with ht
  have hthead : t.head = s.head := by simp [ht]
  set u := State.judgeActivationWith (State.breakEntryWith id false) (newTrips (s.activated i).brk.det (s.activated i).rejudged)
    (newClears (s.activated i).brk.det (s.activated i).rejudged) t with hu
  have hcases : u.head = s.head
      ∨ u.holdPresent = true ∧ heldState u.head.state = true ∧ u.head.scan = none := by
    have hentry : t.brk.allClear = false → (t.breakEntryWith id false).holdPresent = true
        ∧ heldState (t.breakEntryWith id false).head.state = true ∧ (t.breakEntryWith id false).head.scan = none := fun hc =>
      breakEntryWith_id_of_leg (by rw [hthead]; exact hl) (by rw [hthead]; exact hs) hc
    have htrips : (newTrips (s.activated i).brk.det (s.activated i).rejudged).any id = true → t.brk.allClear = false := fun h =>
      not_allClear_of_newTrips (b := t.brk) (old := (s.activated i).brk.det) h
    have hthread : t.judgeThreading.head = s.head := (judgeThreading_head (by rw [hthead]; exact hparked)).trans hthead
    obtain ⟨-, -, e⟩ | ⟨-, hc, e⟩ | ⟨-, e⟩ := judgeActivationWith_cases (State.breakEntryWith id false)
      (newTrips (s.activated i).brk.det (s.activated i).rejudged) (newClears (s.activated i).brk.det (s.activated i).rejudged) t <;>
      rw [hu, e]
    · exact Or.inl ((recoveringEntry_head (by rw [hthead]; exact hparked)).trans hthead)
    · exact Or.inr (hentry hc)
    · obtain e | ⟨-, hc, e⟩ | ⟨-, -, e⟩ | ⟨-, e⟩ := judgeDetectorsWith_cases (State.breakEntryWith id false)
        (newTrips (s.activated i).brk.det (s.activated i).rejudged) (newClears (s.activated i).brk.det (s.activated i).rejudged) t <;>
        rw [e]
      · exact Or.inl hthead
      · exact Or.inr (hentry (htrips hc))
      · exact Or.inl ((addCauses_head _ _).trans hthead)
      · exact Or.inl hthread
  obtain h | ⟨hhold, hheld, hscan⟩ := hcases
  · rw [redecideIfParked_of_ne (by simpa [h] using hparked), reaim_of_ne (by simpa [h] using hnear)]
    simp [h, hs]
  · have hr := redecideIfParked_head_of_hold (s := u.recipeNotice .activated) (by simpa [State.holdPresent] using hhold)
    simp only [recipeNotice_head] at hr
    rw [reaim_of_ne (by rw [hr.1]; intro hn; rw [hn] at hheld; exact absurd hheld (by decide)), hr.1, hr.2]
    exact ⟨hscan, Or.inr hheld⟩

end Sys2Proof.Machine
end


section
/-! SUPPORT. A scan completion, a declared slot and the requests as sequences of changes. -/

namespace Sys2Proof.Machine

open Sys2Proof Sys2Proof.Safety

/-! ## The ring -/

theorem Ring.at_modify (r : Ring) (i j : Nat) (f : ScanRecord → ScanRecord) :
    (r.modify i f).at j = if i = j ∧ j < r.records.length then f (r.at j) else r.at j := by
  simp only [Ring.at, Ring.modify, List.getD_eq_getElem?_getD, List.getElem?_modify]
  by_cases hj : j < r.records.length
  · simp only [List.getElem?_eq_getElem hj, hj, and_true]; split <;> rfl
  · simp [hj]

/-- The FILLING record is in the ring. -/
theorem Ring.filling_some {r : Ring} {i : Nat} (h : r.filling = some i) :
    i < r.records.length ∧ (r.at i).status = .filling := by
  obtain ⟨hlt, hp, -⟩ := List.findIdx?_eq_some_iff_getElem.mp h
  refine ⟨hlt, ?_⟩
  simpa [Ring.at, List.getD_eq_getElem?_getD, List.getElem?_eq_getElem hlt] using hp

/-- A hold changes hold sets only. -/
theorem Ring.hold_at_status (r : Ring) (i j : Nat) (st : Station) : ((r.hold i st).at j).status = (r.at j).status := by
  rw [Ring.hold, Ring.at_modify]; split <;> rfl

/-! ## The close of a record -/

theorem servePending_of_none {s : State} {st : Station} (i : Nat) (h : (s.ports.get st).pending = none) :
    s.servePending i st = s := by
  simp [State.servePending, h]

/-- A pending READ SCAN is served, its minimum reached, or goes on waiting (R98). -/
theorem servePending_of_some {s : State} {st : Station} {r : PendingRead} (i : Nat) (h : (s.ports.get st).pending = some r) :
    s.servePending i st =
      if aheadBy r.minimum s.ring.newest ≤ 0 then
        (s.onPort st (fun p => { p with pending := none })).serveScan st r.tag r.query i
      else s := by
  simp [State.servePending, h]

theorem servePending_setHead (s : State) (x : Head) (i : Nat) (st : Station) :
    (s.setHead x).servePending i st = (s.servePending i st).setHead x := by
  cases h : (s.ports.get st).pending with
  | none => rw [servePending_of_none i h, servePending_of_none i (by exact h)]
  | some r =>
    rw [servePending_of_some i h, servePending_of_some i (by exact h)]
    by_cases hr : aheadBy r.minimum s.ring.newest ≤ 0
    · rw [if_pos hr, if_pos (by exact hr)]; rfl
    · rw [if_neg hr, if_neg (by exact hr)]

theorem serveAllPending_setHead (s : State) (x : Head) (i : Nat) :
    (s.setHead x).serveAllPending i = (s.serveAllPending i).setHead x := by
  simp only [State.serveAllPending, servePending_setHead]

theorem servePending_at_status (s : State) (i j : Nat) (st : Station) :
    ((s.servePending i st).ring.at j).status = (s.ring.at j).status := by
  simp only [State.servePending]; split
  · rfl
  · split
    · simpa [State.serveScan] using Ring.hold_at_status _ _ _ _
    · rfl

theorem serveAllPending_moves {s : State} {i : Nat} (h : (s.ring.at i).status = .complete) : Moves s (s.serveAllPending i) := by
  have hserve : ∀ (t : State) (st : Station), (t.ring.at i).status = .complete →
      Moves t (t.servePending i st) ∧ ((t.servePending i st).ring.at i).status = .complete :=
    fun t st ht => ⟨(Move.serve i st ht).one, (servePending_at_status t i i st).trans ht⟩
  obtain ⟨h0, c0⟩ := hserve s .n0 h
  obtain ⟨h1, c1⟩ := hserve _ .n1 c0
  obtain ⟨h2, c2⟩ := hserve _ .n2 c1
  exact h0.and (h1.and (h2.and (hserve _ .n3 c2).1))

theorem closing_at {s : State} {i : Nat} (h : i < s.ring.records.length) :
    (s.closing i).ring.at i = s.closedRecord (s.ring.at i) := by
  have e := Ring.at_modify s.ring i i (fun _ => s.closedRecord (s.ring.at i))
  rw [if_pos ⟨rfl, h⟩] at e
  exact e

/-- The close of the FILLING record, the end of its scan brought forward. -/
theorem closeFilling_over {s : State} {i : Nat} (h : s.ring.filling = some i) :
    s.closeFilling.setHead { s.head with scan := none }
      = ((s.closing i).offer (s.closedRecord (s.ring.at i)).notice).serveAllPending i := by
  have e : (s.closing i).offer (s.closedRecord (s.ring.at i)).notice
      = (((s.setRing { (s.ring.modify i (fun _ => s.closedRecord (s.ring.at i))) with newest := s.ring.newest + 1 }).setTrend
        (keepNewest Config.trendSize (s.trend ++ [(s.closedRecord (s.ring.at i)).summary]))).offer
          (s.closedRecord (s.ring.at i)).notice).setHead { s.head with scan := none } := rfl
  rw [e, serveAllPending_setHead]
  simp [State.closeFilling, h, State.closeAt]

theorem closeFilling_moves (s : State) : Moves s (s.closeFilling.setHead { s.head with scan := none }) := by
  cases h : s.ring.filling with
  | none =>
    have e : s.closeFilling = s := by simp [State.closeFilling, h]
    rw [e]
    exact (Move.scanOver h).one
  | some i =>
    rw [closeFilling_over h]
    refine (Move.close i h).one.and ((offer_moves _ _).and (serveAllPending_moves ?_))
    rw [offer_ring, closing_at (Ring.filling_some h).1]
    rfl

theorem completeEdges_moves (s : State) (found : Option Edges) : Moves s (s.completeEdges found) := by
  have h : Moves s (s.setEdges { s.edges with run := .clear }) := setEdges_moves s _
  simp only [State.completeEdges]; split
  · exact h.and ((updateEdges_moves _ _).and (updateEdges_moves _ _))
  · exact h.and (updateEdges_moves _ _)

/-- A completion up to its record: tracker, profile unit, results. -/
def State.judged (s : State) (dir : ScanDir) : State :=
  let found := s.edges.run.resolve dir
  let res := s.profileResults dir found
  let s := s.completeEdges found
  let s := s.setProfile (s.profile.completed res)
  s.setRing (s.ring.onFilling (fun r => r.withResults found s.edges.locked res))

theorem completeRecord_eq (s : State) (dir : ScanDir) :
    s.completeRecord dir =
      (((s.judged dir).closeFilling.setHead { (s.judged dir).closeFilling.head with scan := none }).setBins []).endStretch := rfl

@[simp] theorem judged_head (s : State) (dir : ScanDir) : (s.judged dir).head = s.head := by simp [State.judged]

theorem judged_moves (s : State) (dir : ScanDir) : Moves s (s.judged dir) := by
  refine (completeEdges_moves s _).and ((setProfile_moves _ _).and (Move.mark _ ?_).one)
  exact fun r => ⟨rfl, rfl⟩

@[simp] theorem completeRecord_head (s : State) (dir : ScanDir) :
    (s.completeRecord dir).head = { s.head with scan := none } := by simp [completeRecord_eq]

theorem completeRecord_moves (s : State) (dir : ScanDir) : Moves s (s.completeRecord dir) := by
  have h := closeFilling_moves (s.judged dir)
  rw [completeRecord_eq, closeFilling_head]
  exact (judged_moves s dir).and (h.and ((setBins_moves _ _).and (endStretch_moves _)))

theorem completeStd_moves (s : State) : Moves s s.completeStd := by
  refine (Move.std _ ?_).one
  exact fun h _ => ⟨h, Nat.min_le_left _ _⟩

theorem completeRecovery_moves (s : State) : Moves s s.completeRecovery := by
  simp only [State.completeRecovery]
  split
  · next hs =>
    have h : Moves s (s.setBrk { s.brk with recoveryCount := min 8 (s.brk.recoveryCount + 1) }) := by
      refine (Move.brk _ ⟨?_, ?_, ?_⟩ ?_).one
      exacts [fun h => h, fun _ => Nat.min_le_left _ _, fun h => h, Iff.rfl]
    split
    · refine h.and (Moves.and (Move.brk _ ⟨?_, ?_, ?_⟩ ?_).one (breakNotice_moves _))
      · exact fun h => h
      · exact fun h => h
      · simp [hs]
      · simp [hs]
    · exact h
  · exact Moves.refl s

theorem evaluateLimits_moves (s : State) (r : ScanRecord) : Moves s (s.evaluateLimits r) := by
  simp only [State.evaluateLimits]; split
  · exact Moves.refl s
  · split
    · exact setLimits_moves s _
    · exact (setLimits_moves s _).and (offer_moves _ _)

theorem completeLimits_moves (s : State) : Moves s s.completeLimits := by
  simp only [State.completeLimits]; split
  · exact Moves.refl s
  · exact evaluateLimits_moves s _

theorem holeTransfer_moves (s : State) (src : ReportSource) : Moves s (s.holeTransfer src) := by
  refine (Move.hole _ ?_).one
  exact fun _ h => ⟨Nat.zero_le _, h⟩

theorem completeHoles_moves (s : State) : Moves s s.completeHoles := by
  simp only [State.completeHoles]; split
  · exact (holeTransfer_moves s _).and (offer_moves _ _)
  · exact Moves.refl s

theorem stdAtCompletion_moves {s : State} (dir : ScanDir) (activated : Bool) (hu : Unscanned s) :
    Moves s (s.stdAtCompletion dir activated) := by
  cases dir with
  | rev => exact beginReturning_moves _ hu
  | fwd =>
    simp only [State.stdAtCompletion]; split
    · exact beginReturning_moves _ hu
    · exact (grantTo_moves s _).and (startScan_moves (s := s.grantTo .standardize) _ _ hu)

theorem scanAtCompletion_moves {s : State} (dir : ScanDir) (activated : Bool) (hu : Unscanned s) :
    Moves s (s.scanAtCompletion dir activated) := by
  simp only [State.scanAtCompletion]; split
  · exact beginApproach_moves _ hu
  · exact (grantTo_moves s _).and (startScan_moves (s := s.grantTo .scan) _ _ hu)

theorem decideCompletion_moves {s : State} (dir : ScanDir) (activated : Bool) (hu : Unscanned s) :
    Moves s (s.decideCompletion dir activated) := by
  simp only [State.decideCompletion]; split
  · exact stdAtCompletion_moves _ _ hu
  · exact beginPositioning_moves _ _ hu
  · exact scanAtCompletion_moves _ _ hu
  all_goals exact beginReturning_moves _ hu

theorem decidePeriodEnd_moves {s : State} (hu : Unscanned s) : Moves s s.decidePeriodEnd := by
  simp only [State.decidePeriodEnd]; split
  · exact beginReturning_moves _ hu
  · split
    · exact (grantTo_moves s _).and (startPeriod_moves _)
    · exact beginPositioning_moves _ _ hu
  · exact beginApproach_moves _ hu
  all_goals exact beginReturning_moves _ hu

/-- Steps 1 and 2 of a completion (R33). -/
def State.tallied (s : State) (dir : ScanDir) : State :=
  (s.completeRecord dir).completeStd.completeRecovery.completeLimits.completeHoles

@[simp] theorem tallied_head (s : State) (dir : ScanDir) : (s.tallied dir).head = { s.head with scan := none } := by
  simp [State.tallied]

theorem tallied_moves (s : State) (dir : ScanDir) : Moves s (s.tallied dir) :=
  (completeRecord_moves s dir).and ((completeStd_moves _).and ((completeRecovery_moves _).and
    ((completeLimits_moves _).and (completeHoles_moves _))))

/-- The head still on its leg decides (R44). -/
theorem completeScan_of_scanning {s : State} {dir : ScanDir} {l : Leg}
    (h : (s.tallied dir).activatePending.head.state = .scanning l) :
    s.completeScan dir = (s.tallied dir).activatePending.decideCompletion dir (s.tallied dir).store.pendingSlot.isSome := by
  simp only [State.tallied] at h ⊢
  simp only [State.completeScan, h]

/-- A break that the activation brought has moved the head already. -/
theorem completeScan_of_not_scanning {s : State} {dir : ScanDir}
    (h : ∀ l, (s.tallied dir).activatePending.head.state ≠ .scanning l) :
    s.completeScan dir = (s.tallied dir).activatePending := by
  simp only [State.tallied] at h ⊢
  simp only [State.completeScan]; split
  · next hl => exact absurd hl (h _)
  all_goals rfl

theorem activatePending_scan_of_leg {s : State} (hl : measuringLeg s.head.state = true) (hs : s.head.scan = none) :
    s.activatePending.head.scan = none := by
  simp only [State.activatePending]; split
  · exact hs
  · exact (activate_of_leg _ hl hs).1

theorem completeScan_moves {s : State} (dir : ScanDir) (hl : measuringLeg s.head.state = true) : Moves s (s.completeScan dir) := by
  have h : Moves s (s.tallied dir).activatePending := (tallied_moves s dir).and (activatePending_moves _)
  have hscan : (s.tallied dir).activatePending.head.scan = none := activatePending_scan_of_leg (by simpa using hl) (by simp)
  by_cases hl : ∃ l, (s.tallied dir).activatePending.head.state = .scanning l
  · obtain ⟨l, hl⟩ := hl
    rw [completeScan_of_scanning hl]
    exact h.and (decideCompletion_moves _ _ (.of_scan hscan))
  · rw [completeScan_of_not_scanning (fun l h => hl ⟨l, h⟩)]
    exact h

/-! ## A declared slot -/

theorem Hole.take_bounds {h : Hole} (maxRun : Nat) (present : Bool) (hc : h.counter ≤ 65535) (hr : h.run ≤ 33) :
    (h.take maxRun present).counter ≤ 65535 ∧ (h.take maxRun present).run ≤ 33 := by
  have hfound : h.found.counter ≤ 65535 := by
    by_cases hlt : h.counter < 65535
    · simp [Hole.found, Config.hold16, hlt]
    · simp [Hole.found, Config.hold16, hlt, hc]
  simp only [Hole.take, Config.holeRunHold]
  split
  · split
    · exact ⟨hc, Nat.zero_le _⟩
    · split
      · exact ⟨hfound, Nat.zero_le _⟩
      · exact ⟨hc, Nat.zero_le _⟩
  · split
    · exact ⟨hc, Nat.min_le_left _ _⟩
    · exact ⟨hc, hr⟩

theorem edgeTake_moves (s : State) (x : Sample) : Moves s (s.edgeTake x) := by
  simp only [State.edgeTake]; split
  · exact setEdges_moves s _
  · exact Moves.refl s

theorem binTake_moves (s : State) (x : Sample) : Moves s (s.binTake x) := by
  simp only [State.binTake]; split
  · split
    · exact Moves.refl s
    · exact setBins_moves s _
  · exact Moves.refl s

/-- The period in progress changes, the ring of point records stays. -/
theorem setPoints_moves {s : State} {x : Points} (h : x.ring = s.points.ring) : Moves s (s.setPoints x) :=
  Quiet.moves { points := h }

theorem pointTake_moves (s : State) (x : Sample) : Moves s (s.pointTake x) := by
  simp only [State.pointTake]; split
  · exact setPoints_moves rfl
  all_goals exact Moves.refl s

theorem periodSlot_moves (s : State) : Moves s s.periodSlot := setPoints_moves rfl

theorem recordPeriod_moves (s : State) (p : PointPeriod) : Moves s (s.recordPeriod p) := by
  refine (Move.points _ ?_).one
  exact fun _ => keepNewest_length_le _ _

theorem absentTake_moves (s : State) (x : Sample) : Moves s (s.absentTake x) := by
  simp only [State.absentTake]; split <;> exact setAbsent_moves s _

theorem holeTake_moves (s : State) (x : Sample) : Moves s (s.holeTake x) := by
  simp only [State.holeTake]; split
  · exact (Move.hole _ (Hole.take_bounds _ _)).one
  · split
    · exact endStretch_moves s
    · exact Moves.refl s

theorem handOn_moves (s : State) (x : Sample) : Moves s (s.handOn x) :=
  (edgeTake_moves s x).and ((binTake_moves _ x).and ((pointTake_moves _ x).and ((absentTake_moves _ x).and (holeTake_moves _ x))))

theorem absentWindowEnd_moves (s : State) : Moves s s.absentWindowEnd := by
  have h : Moves s s.absentNextWindow := setAbsent_moves s _
  simp only [State.absentWindowEnd]; split
  · split
    · next hb =>
      split
      · exact h.and (breakEntry_moves true (by rw [hb]; decide))
      · exact h
    · next hb =>
      split
      · exact h.and (breakEntry_moves true (by rw [hb]; decide))
      · exact h
    all_goals exact h
  · exact Moves.refl s

theorem takeSample_moves (s : State) (t : Option SampleTelegram) : Moves s (s.takeSample t) := by
  cases t with
  | none => exact Moves.refl s
  | some y =>
    simp only [State.takeSample]; split
    · exact (handOn_moves s _).and (absentWindowEnd_moves _)
    · exact handOn_moves s _

theorem withdrawEnd_moves (s : State) : Moves s s.withdrawEnd := by
  simp only [State.withdrawEnd]; split
  · exact (stdCommit_moves s).and (stdEnded_moves _)
  · split
    · exact (stdFail_moves s).and (faultEntry_moves _ _)
    · exact (stdFail_moves s).and (stdEnded_moves _)

theorem stdSlot_moves (s : State) (raw : Option RawSample) : Moves s (s.stdSlot raw) := by
  simp only [State.stdSlot]; split
  · exact Moves.refl s
  · exact collectionSlot_moves s raw
  · split
    · exact collectionSlot_moves s raw
    · split
      · exact (tileSeen_moves s).and (collectionSlot_moves _ raw)
      · exact Moves.refl s
  · split
    · exact withdrawEnd_moves s
    · exact Moves.refl s

theorem markLinkGaps_moves (s : State) : Moves s s.markLinkGaps := by
  refine Moves.and (Move.mark _ ?_).one (setPoints_moves ?_)
  · exact fun r => ⟨rfl, rfl⟩
  · rfl

theorem markTachHeld_moves (s : State) : Moves s s.markTachHeld := by
  refine Moves.and (Move.mark _ ?_).one (setPoints_moves ?_)
  · exact fun r => ⟨rfl, rfl⟩
  · rfl

theorem linkLost_moves (s : State) : Moves s s.linkLost := by
  have h : Moves s s.markLinkGaps.stopAssessment := (markLinkGaps_moves s).and (stopAssessment_moves _)
  simp only [State.linkLost]; split
  · exact h
  · exact h.and ((stdAbort_moves _).and (stdEnded_moves _))

/-- The end of a window told: its link, and the notice where the link state changes (R4). -/
def State.windowTold (s : State) : State :=
  let t := s.setLink s.link.windowEnd
  if t.link.state = s.link.state then t else t.offer (.headLink t.link.state s.link.badCount)

theorem linkWindowEnd_eq {s : State} (h : 64 ≤ s.link.slotCount) :
    s.linkWindowEnd = if s.windowTold.link.state = .lost then s.windowTold.linkLost else s.windowTold := by
  have h' : Config.windowSlots ≤ s.link.slotCount := h
  simp only [State.linkWindowEnd, h', if_true, State.windowTold]
  split <;> split <;> simp_all

theorem windowTold_moves (s : State) : Moves s s.windowTold := by
  simp only [State.windowTold]; split
  · exact setLink_moves s _
  · exact (setLink_moves s _).and (offer_moves _ _)

theorem linkWindowEnd_moves (s : State) : Moves s s.linkWindowEnd := by
  by_cases h : 64 ≤ s.link.slotCount
  · rw [linkWindowEnd_eq h]; split
    · exact (windowTold_moves s).and (linkLost_moves _)
    · exact windowTold_moves s
  · rw [State.linkWindowEnd_of_lt (by omega)]

theorem pointPeriodEnd_moves (s : State) : Moves s s.pointPeriodEnd := by
  simp only [State.pointPeriodEnd]; split
  · next h _ =>
    split
    · exact (recordPeriod_moves s _).and (decidePeriodEnd_moves (.of_state (by simp [h, measuringLeg])))
    · exact Moves.refl s
  · exact Moves.refl s

theorem declareSlot_moves (s : State) (d : SlotDecl) : Moves s (s.declareSlot d) :=
  (setLink_moves s _).and ((periodSlot_moves _).and ((takeSample_moves _ _).and ((stdSlot_moves _ _).and
    ((linkWindowEnd_moves _).and (pointPeriodEnd_moves _)))))

theorem beforeSlot_moves (s : State) (d : SlotDecl) : Moves s (s.beforeSlot d) := by
  cases d with
  | arrival t => exact setLink_moves s _
  | missing => exact Moves.refl s

/-! ## Speed unit and detectors -/

theorem Speed.pulse_bounds {u : Speed} (h : SpeedBounds u) : SpeedBounds u.pulse := by
  obtain ⟨-, hs, he⟩ := h
  refine ⟨Nat.min_le_left _ _, hs, ?_⟩
  simp only [Speed.pulse]; split
  · exact Nat.zero_le _
  all_goals exact he

theorem Speed.gateEnd_bounds {u : Speed} (h : SpeedBounds u) : SpeedBounds u.gateEnd := by
  obtain ⟨hg, hs, he⟩ := h
  refine ⟨Nat.zero_le _, ?_, ?_⟩ <;> simp only [Speed.gateEnd, Speed.gateByWatch] <;> split
  · split
    · exact Nat.min_le_left _ _
    · exact hs
  · exact hs
  · exact Nat.zero_le _
  · split
    · exact Nat.zero_le _
    · exact Nat.min_le_left _ _
  · exact he
  · exact he

theorem rejudgeAtSpeed_moves (s : State) : Moves s s.rejudgeAtSpeed := by
  have h : Moves s (s.setSpeed { s.speed with atSpeed := atSpeedNow s.store s.speed.speed }) := by
    refine (Move.speed _ ?_).one
    exact fun h => h
  simp only [State.rejudgeAtSpeed]; split
  · exact h.and (stopAssessment_moves _)
  · exact h

theorem gateEnd_moves (s : State) : Moves s s.gateEnd :=
  (Move.speed _ Speed.gateEnd_bounds).one.and (rejudgeAtSpeed_moves _)

theorem lossExpiry_moves (s : State) : Moves s s.lossExpiry := by
  have hb : SpeedBounds s.speed → SpeedBounds s.speed.lose ∧ SpeedBounds s.speed.stop := fun ⟨hg, hs, _⟩ =>
    ⟨⟨hg, hs, Nat.zero_le _⟩, ⟨hg, hs, Nat.zero_le _⟩⟩
  simp only [State.lossExpiry]; split
  · exact (Move.speed _ fun h => (hb h).1).one.and (markTachHeld_moves _)
  · exact (Move.speed _ fun h => (hb h).2).one

theorem levelChange_moves (s : State) (d : Detector) (high : Bool) : Moves s (s.levelChange d high) := by
  refine (setPins_moves s _).and (setBrk_moves ?_ ?_ ?_ ?_) <;> rfl

theorem debounceExpiry_moves (s : State) (d : Detector) : Moves s (s.debounceExpiry d) := by
  refine Moves.and (setBrk_moves ?_ ?_ ?_ ?_) (judgeDetectors_moves _ _ _) <;> rfl

end Sys2Proof.Machine
end


section
/-! SUPPORT. The requests, the commands and the step as sequences of changes. -/

namespace Sys2Proof.Machine

open Sys2Proof Sys2Proof.Safety

/-! ## Requests -/

section

variable {s : State} {st : Station}

theorem reply_moves (k : RequestKind) (tag : Byte) (b : ReplyBody) (ha : (s.ports.get st).admits) : Moves s (s.reply st k tag b) :=
  (Move.reply _ ha).one

theorem answer_moves (k : RequestKind) (tag : Byte) (c : Status) (ha : (s.ports.get st).admits) : Moves s (s.answer st k tag c) :=
  reply_moves k tag _ ha

theorem modeReply_moves (tag : Byte) (c : Status) (ha : (s.ports.get st).admits) : Moves s (s.modeReply st tag c) :=
  reply_moves _ tag _ ha

theorem selectReply_moves (tag : Byte) (t : Timing) (ha : (s.ports.get st).admits) : Moves s (s.selectReply st tag t) :=
  reply_moves _ tag _ ha

theorem machineReply_moves (k : RequestKind) (tag : Byte) (c : Status) (ha : (s.ports.get st).admits) :
    Moves s (s.machineReply st k tag c) := reply_moves _ tag _ ha

theorem serveStatus_moves (tag : Byte) (ha : (s.ports.get st).admits) : Moves s (s.serveStatus st tag) :=
  (reply_moves _ tag _ ha).and (Move.port st (fun p => { p with dropped := false }) {}).one

/-- A station holds nothing exactly when the search finds no record. -/
theorem unheld_iff_holdsFor : Unheld s st ↔ s.ring.holdsFor st = none := by
  simp [Unheld, Ring.holdsFor, List.find?_eq_none]

theorem Ring.findIdx?_complete {r : Ring} {p : ScanRecord → Bool} {i : Nat} (h : r.records.findIdx? p = some i)
    (hp : ∀ x, p x = true → x.status = .complete) : (r.at i).status = .complete := by
  obtain ⟨hlt, hx, -⟩ := List.findIdx?_eq_some_iff_getElem.mp h
  simpa [Ring.at, List.getD_eq_getElem?_getD, List.getElem?_eq_getElem hlt] using hp _ hx

theorem Ring.numbered_complete {r : Ring} {n : BitVec 16} {i : Nat} (h : r.numbered n = some i) :
    (r.at i).status = .complete := by
  simp only [Ring.numbered] at h
  split at h
  · exact Ring.findIdx?_complete h fun x hx => by simp at hx; exact hx.1
  · cases h

theorem Ring.newestRecord_complete {r : Ring} {i : Nat} (h : r.newestRecord = some i) : (r.at i).status = .complete :=
  Ring.findIdx?_complete h fun x hx => by simp at hx; exact hx.1

theorem serveFound_moves (tag : Byte) (q : ScanQuery) {i : Option Nat} (ha : (s.ports.get st).admits)
    (hp : (s.ports.get st).pending = none) (hu : Unheld s st) (hc : ∀ j, i = some j → (s.ring.at j).status = .complete) :
    Moves s (s.serveFound st tag q i) := by
  cases i with
  | none => exact answer_moves _ tag _ ha
  | some j => exact (Move.serveScan tag q ha hp hu (hc j rfl)).one

theorem serveReadScan_moves (tag : Byte) (p : List Byte) (ha : (s.ports.get st).admits)
    (hp : (s.ports.get st).pending = none) : Moves s (s.serveReadScan st tag p) := by
  simp only [State.serveReadScan]
  split
  · exact answer_moves _ tag _ ha
  · next hh =>
    have hu : Unheld s st := unheld_iff_holdsFor.mpr (by simpa using hh)
    split
    · exact answer_moves _ tag _ ha
    · exact serveFound_moves tag _ ha hp hu fun j hj => Ring.numbered_complete hj
    · exact serveFound_moves tag _ ha hp hu fun j hj => Ring.newestRecord_complete hj
    · simp only [State.serveMinimum]
      split
      · exact serveFound_moves tag _ ha hp hu fun j hj => Ring.newestRecord_complete hj
      · split
        · exact answer_moves _ tag _ ha
        · split
          · exact answer_moves _ tag _ ha
          · exact (Move.makePending tag _ _ _ ha hu).one

theorem serveReadPoints_moves (tag : Byte) (p : List Byte) (ha : (s.ports.get st).admits) :
    Moves s (s.serveReadPoints st tag p) := by
  simp only [State.serveReadPoints]; split
  · exact answer_moves _ tag _ ha
  · exact reply_moves _ tag _ ha

/-- A pending READ SCAN that ends is the reply it becomes: the port's count stays (R184). -/
theorem endPending_admits (b : ReplyBody) (ha : (s.ports.get st).admits) : ((s.endPending st b).ports.get st).admits := by
  simp only [State.endPending]; split
  · exact ha
  · next r hr =>
    simpa [State.reply, Port.admits, Port.count, Port.queueReply, hr] using ha

theorem serveCancel_moves (tag : Byte) (ha : (s.ports.get st).admits) : Moves s (s.serveCancel st tag) := by
  simp only [State.serveCancel]; split
  · exact answer_moves _ tag _ ha
  · exact (endPending_moves s st _).and (answer_moves _ tag _ (endPending_admits _ ha))

theorem serveMode_moves (tag : Byte) (p : List Byte) (ha : (s.ports.get st).admits) : Moves s (s.serveMode st tag p) := by
  have hset : ∀ m c, Moves s ((s.setSlot st m).modeReply st tag c) := fun m c =>
    (setSlot_moves s st m).and (modeReply_moves tag c (by simpa using ha))
  simp only [State.serveMode]; split
  · exact (hset _ _).and (redecideIfParked_moves _)
  · exact (hset _ _).and ((parkTakesEffect_moves _).and (redecideIfParked_moves _))
  · refine (hset .standardize .ok).and (Moves.and (setStd_moves _ ?_ ?_) (redecideIfParked_moves _)) <;> exact le_rfl
  · simp only [State.modePoint]; split
    · exact modeReply_moves tag _ ha
    · exact (hset _ _).and (redecideIfParked_moves _)
  · exact modeReply_moves tag _ ha

theorem homingBegun_moves (s : State) : Moves s s.homingBegun := by
  have h : Moves s (if s.pins.drvRdy then s.beginSearch else s) := by
    split
    · exact drive_moves s _ _
    · exact Moves.refl s
  simp only [State.homingBegun]
  generalize (if s.pins.drvRdy then s.beginSearch else s) = t at h ⊢
  split
  · exact h.and (faultStill_moves t _)
  · exact h

theorem enterHoming_moves {s : State} (hu : Unscanned s) : Moves s s.enterHoming := by
  refine ((toHead_moves .homing hu).and (setHead_moves _ ?_ ?_)).and ((headNotice_moves _).and (homingBegun_moves _)) <;> simp

theorem serveClearFault_moves (tag : Byte) (ha : (s.ports.get st).admits) : Moves s (s.serveClearFault st tag) := by
  simp only [State.serveClearFault]; split
  · next h =>
    refine (answer_moves _ tag .ok ha).and (Moves.and (setStd_moves _ ?_ ?_) (enterHoming_moves (.of_state ?_)))
    · exact Nat.zero_le _
    · exact le_rfl
    · simp [h.1, measuringLeg]
  · exact answer_moves _ tag _ ha

theorem serveResume_moves (tag : Byte) (ha : (s.ports.get st).admits) : Moves s (s.serveResume st tag) := by
  simp only [State.serveResume]; split
  · next h => exact (answer_moves _ tag _ ha).and (recoveringEntry_moves (by simp [h]))
  · exact answer_moves _ tag _ ha

theorem serveTakeCount_moves (tag : Byte) (ha : (s.ports.get st).admits) : Moves s (s.serveTakeCount st tag) := by
  simp only [State.serveTakeCount]; split
  · exact reply_moves _ tag _ ha
  · exact (holeTransfer_moves s _).and ((reply_moves _ tag _ (by simpa using ha)).and (offer_moves _ _))

theorem serveRestart_moves (tag : Byte) (ha : (s.ports.get st).admits) : Moves s (s.serveRestart st tag) := by
  simp only [State.serveRestart]; split
  · exact (setProfile_moves s _).and (reply_moves _ tag _ (by simpa using ha))
  · exact (reply_moves _ tag _ ha).and (profileRestart_moves _)

end

/-! ## The recipe store -/

/-- A slot that changes neither into nor out of ACTIVE and PENDING leaves their numbers. -/
theorem slotsIn_onSlot {st : Store} {i : SlotNo} {f : Slot → Slot} (x : SlotState)
    (h : (f (st.slots.get i)).state = x ↔ (st.slots.get i).state = x) : slotsIn (st.onSlot i f) x = slotsIn st x := by
  have hb : ((f (st.slots.get i)).state == x) = ((st.slots.get i).state == x) := by
    rw [Bool.eq_iff_iff]; simpa using h
  cases i <;> simp only [Four.get] at hb <;> simp [slotsIn, Store.onSlot, Four.set, Four.get, hb]

/-- One slot changed adds one at most to the slots in a state. -/
theorem slotsIn_onSlot_le (st : Store) (i : SlotNo) (f : Slot → Slot) (x : SlotState) :
    slotsIn (st.onSlot i f) x ≤ slotsIn st x + 1 := by
  have h := Bool.toNat_le ((f (st.slots.get i)).state == x)
  cases i <;> simp only [Four.get] at h <;> simp only [slotsIn, Store.onSlot, Four.set, Four.get] <;> omega

/-- A store whose slots are changed alike, none into or out of a state. -/
theorem slotsIn_map {st : Store} {f : Slot → Slot} {x : SlotState} (h : ∀ y, (f y).state = x ↔ y.state = x) (b : Bool)
    (m : MachineRecord) : slotsIn ⟨b, m, st.slots.map f⟩ x = slotsIn st x := by
  have hb : ∀ y : Slot, ((f y).state == x) = (y.state == x) := fun y => by
    rw [Bool.eq_iff_iff]; simpa using h y
  simp [slotsIn, Four.map, hb]

theorem slotsIn_withdraw_pending (st : Store) : slotsIn st.withdraw .pending = 0 := by
  have h : ∀ y : Slot, (y.withdraw.state == SlotState.pending) = false := fun y => by
    simp only [Slot.withdraw]; split <;> simp_all
  simp [slotsIn, Store.withdraw, Four.map, h]

theorem Slot.withdraw_active (y : Slot) : y.withdraw.state = .active ↔ y.state = .active := by
  simp only [Slot.withdraw]; split <;> simp_all

theorem withdraw_kept (st : Store) : SlotsKept st st.withdraw :=
  ⟨slotsIn_map Slot.withdraw_active _ _, fun _ => by rw [slotsIn_withdraw_pending]; exact Nat.zero_le 1⟩

theorem choose_kept {st : Store} {i : SlotNo} (h : (st.slots.get i).state = .valid) : SlotsKept st (st.choose i) := by
  have hi : (st.withdraw.slots.get i).state = .valid := by
    rw [Store.withdraw, Four.get_map, Slot.withdraw]; split <;> simp_all
  refine ⟨?_, fun _ => ?_⟩
  · rw [Store.choose, slotsIn_onSlot _ (by simp [hi])]
    exact (withdraw_kept st).active
  · have h := slotsIn_onSlot_le st.withdraw i (fun x => { x with state := .pending }) .pending
    rwa [slotsIn_withdraw_pending] at h

theorem writeRecipe_moves {s : State} {st : Station} (tag : Byte) (p : List Byte) (i : SlotNo) (g : Group)
    (ha : (s.ports.get st).admits) : Moves s (s.writeRecipe st tag p i g) := by
  simp only [State.writeRecipe]
  split
  · exact answer_moves _ tag _ ha
  · next hl =>
    split
    · exact answer_moves _ tag _ ha
    · refine Moves.and (Move.store _ ⟨?_, ?_⟩).one (reply_moves _ tag _ (by simpa using ha))
      · refine slotsIn_onSlot _ ?_
        cases hs : (s.store.slots.get i).state <;> simp_all [Slot.write, SlotState.locked]
      · rw [slotsIn_onSlot]
        · exact fun h => h
        · cases hs : (s.store.slots.get i).state <;> simp_all [Slot.write, SlotState.locked]

theorem serveRecipeWrite_moves {s : State} {st : Station} (tag : Byte) (p : List Byte) (ha : (s.ports.get st).admits) :
    Moves s (s.serveRecipeWrite st tag p) := by
  simp only [State.serveRecipeWrite]; split
  · exact writeRecipe_moves tag p _ _ ha
  · exact answer_moves _ tag _ ha

theorem serveRecipeRead_moves {s : State} {st : Station} (tag : Byte) (p : List Byte) (ha : (s.ports.get st).admits) :
    Moves s (s.serveRecipeRead st tag p) := by
  simp only [State.serveRecipeRead]; split
  · exact reply_moves _ tag _ ha
  · exact answer_moves _ tag _ ha

theorem validateSlot_moves {s : State} {st : Station} (tag : Byte) (i : SlotNo) (ha : (s.ports.get st).admits) :
    Moves s (s.validateSlot st tag i) := by
  have hset : (s.store.slots.get i).state = .editing ∨ (s.store.slots.get i).state = .valid →
      Moves s ((s.setStore (s.store.onSlot i (fun y => { y with state := .valid }))).answer st .validate tag .ok) := by
    intro h
    refine Moves.and (Move.store _ ⟨?_, ?_⟩).one (answer_moves _ tag _ (by simpa using ha))
    · refine slotsIn_onSlot _ ?_
      obtain h | h := h <;> simp [h]
    · rw [slotsIn_onSlot]
      · exact fun h => h
      · obtain h | h := h <;> simp [h]
  simp only [State.validateSlot]; split
  · exact answer_moves _ tag _ ha
  · exact answer_moves _ tag _ ha
  · exact answer_moves _ tag _ ha
  · next h =>
    split
    · exact reply_moves _ tag _ ha
    · exact hset (Or.inl h)
  · next h =>
    split
    · exact reply_moves _ tag _ ha
    · exact hset (Or.inr h)

theorem serveValidate_moves {s : State} {st : Station} (tag : Byte) (p : List Byte) (ha : (s.ports.get st).admits) :
    Moves s (s.serveValidate st tag p) := by
  simp only [State.serveValidate]; split
  · exact answer_moves _ tag _ ha
  · exact validateSlot_moves tag _ ha

theorem selectSlot_moves {s : State} {st : Station} (tag : Byte) (i : SlotNo) (ha : (s.ports.get st).admits) :
    Moves s (s.selectSlot st tag i) := by
  simp only [State.selectSlot]; split
  · exact answer_moves _ tag _ ha
  · exact answer_moves _ tag _ ha
  · exact selectReply_moves tag _ ha
  · split
    · exact (Move.store _ (withdraw_kept _)).one.and ((selectReply_moves tag _ (by simpa using ha)).and (recipeNotice_moves _ _))
    · exact selectReply_moves tag _ ha
  · next h =>
    have hc : ∀ t, Moves s ((s.setStore (s.store.choose i)).selectReply st tag t) := fun t =>
      (Move.store _ (choose_kept h)).one.and (selectReply_moves tag t (by simpa using ha))
    split
    · exact (hc _).and (recipeNotice_moves _ _)
    · exact (hc _).and (activatePending_moves _)

theorem serveSelect_moves {s : State} {st : Station} (tag : Byte) (p : List Byte) (ha : (s.ports.get st).admits) :
    Moves s (s.serveSelect st tag p) := by
  simp only [State.serveSelect]; split
  · exact answer_moves _ tag _ ha
  · exact selectSlot_moves tag _ ha

theorem handMachine_moves (s : State) (old : MachineRecord) : Moves s (s.handMachine old) := by
  refine (Moves.and (Move.speed _ ?_).one (rejudgeAtSpeed_moves _)).and (setBrk_moves ?_ ?_ ?_ ?_)
  · exact fun h => h
  all_goals rfl

theorem invalidate_kept (st : Store) (b : Bool) (m : MachineRecord) : SlotsKept st ⟨b, m, st.slots.map Slot.invalidate⟩ := by
  have h : ∀ x : SlotState, x = .active ∨ x = .pending → ∀ y : Slot, y.invalidate.state = x ↔ y.state = x := by
    intro x hx y
    obtain rfl | rfl := hx <;> simp only [Slot.invalidate] <;> split <;> simp_all
  exact ⟨slotsIn_map (h _ (Or.inl rfl)) _ _, fun hp => by rw [slotsIn_map (h _ (Or.inr rfl))]; exact hp⟩

theorem acceptMachine_moves {s : State} {st : Station} (tag : Byte) (c : Status) (m : MachineRecord)
    (ha : (s.ports.get st).admits) : Moves s (s.acceptMachine st tag c m) :=
  (Move.store _ (invalidate_kept s.store true m)).one.and ((machineReply_moves _ tag _ (by simpa using ha)).and
    ((handMachine_moves _ _).and (recipeNotice_moves _ _)))

theorem serveMachineWrite_moves {s : State} {st : Station} (tag : Byte) (p : List Byte) (ha : (s.ports.get st).admits) :
    Moves s (s.serveMachineWrite st tag p) := by
  simp only [State.serveMachineWrite]; split
  · split
    · exact machineReply_moves _ tag _ ha
    · simp only [State.judgeMachine]; split
      · exact machineReply_moves _ tag _ ha
      · exact acceptMachine_moves tag _ _ ha
  · exact machineReply_moves _ tag _ ha

theorem serveSubscribe_moves {s : State} {st : Station} (tag : Byte) (p : List Byte) (ha : (s.ports.get st).admits) :
    Moves s (s.serveSubscribe st tag p) := by
  simp only [State.serveSubscribe]; split
  · exact answer_moves _ tag _ ha
  · refine (Move.resubscribe _ ha.1).one.and (reply_moves _ tag _ ?_)
    rw [State.onPort_get]; exact ha

/-- Every request, once admitted. READ SCAN is not served while another is pending (R183). -/
theorem serve_moves {s : State} {st : Station} (k : RequestKind) (tag : Byte) (p : List Byte) (ha : (s.ports.get st).admits)
    (hp : k.servedWhilePending = false → (s.ports.get st).pending = none) : Moves s (s.serve k st tag p) := by
  cases k with
  | status => exact serveStatus_moves tag ha
  | readScan => exact serveReadScan_moves tag p ha (hp rfl)
  | readTrend => exact reply_moves _ tag _ ha
  | readPoints => exact serveReadPoints_moves tag p ha
  | readStandardization => exact reply_moves _ tag _ ha
  | cancel => exact serveCancel_moves tag ha
  | mode => exact serveMode_moves tag p ha
  | clearFault => exact serveClearFault_moves tag ha
  | resume => exact serveResume_moves tag ha
  | takeCount => exact serveTakeCount_moves tag ha
  | restartProfiles => exact serveRestart_moves tag ha
  | recipeWrite => exact serveRecipeWrite_moves tag p ha
  | recipeRead => exact serveRecipeRead_moves tag p ha
  | validate => exact serveValidate_moves tag p ha
  | select => exact serveSelect_moves tag p ha
  | machineWrite => exact serveMachineWrite_moves tag p ha
  | machineRead => exact machineReply_moves _ tag _ ha
  | subscribe => exact serveSubscribe_moves tag p ha

theorem judgeKnown_moves {s : State} {st : Station} (k : RequestKind) (tag : Byte) (p : List Byte)
    (ha : (s.ports.get st).admits) : Moves s (s.judgeKnown k st tag p) := by
  simp only [State.judgeKnown]; split
  · exact answer_moves _ tag _ ha
  · split
    · exact answer_moves _ tag _ ha
    · next h =>
      refine serve_moves k tag p ha fun hk => ?_
      simpa [hk] using h

theorem judgeKind_moves {s : State} {st : Station} (kind tag : Byte) (p : List Byte) (ha : (s.ports.get st).admits) :
    Moves s (s.judgeKind st kind tag p) := by
  simp only [State.judgeKind]; split
  · exact (Move.reply _ ha).one
  · exact judgeKnown_moves _ tag p ha

theorem hunt_moves (s : State) (st : Station) : Moves s (s.onPort st Port.hunt) := (Move.port st Port.hunt {}).one

theorem telegram_moves (s : State) (st : Station) (kind tag : Byte) (p : List Byte) : Moves s (s.telegram st kind tag p) := by
  have h : Moves s (s.onPort st Port.hear) := (Move.port st Port.hear { present := fun _ _ => rfl }).one
  simp only [State.telegram]; split
  · next hr =>
    refine h.and (judgeKind_moves kind tag p ⟨?_, ?_⟩)
    · simp [Port.hear]
    · simpa [Port.hasRoom, Config.replyRoom] using hr
  · exact h.and (Move.port st (fun q => { q with dropped := true }) {}).one

theorem telegramArrival_moves (s : State) (st : Station) (kind tag : Byte) (p : List Byte) :
    Moves s (s.telegramArrival st kind tag p) := by
  simp only [State.telegramArrival]; split
  · exact (hunt_moves s st).and (telegram_moves _ st kind tag p)
  · exact hunt_moves s st

/-! ## The receivers -/

theorem takeChar_moves (s : State) (st : Station) (c : Character) : Moves s (s.takeChar st c) := by
  have hbegin : Moves s (s.onPort st (fun p => p.beginRx c.data)) := (Move.port st (fun p => p.beginRx c.data) {}).one
  simp only [State.takeChar]; split
  · split
    · exact hbegin
    · exact Moves.refl s
  · split
    · exact hunt_moves s st
    · split
      · exact hbegin
      · simp only [State.storeChar]; split
        · exact (Move.port st (fun p => { p with rx := .receiving _, gapTimer := .running Config.gap }) {}).one
        · exact hunt_moves s st
        · exact telegramArrival_moves s st _ _ _

theorem takeLine_moves (s : State) (st : Station) (e : LineEvent) : Moves s (s.takeLine st e) := by
  have h : Moves s (s.startBit st) := (Move.port st (fun p => { p with gapTimer := .stopped }) {}).one
  cases e with
  | startBit => exact h
  | character c => exact h.and (takeChar_moves _ st c)

theorem setHeadRx_moves (s : State) (x : Option (List Byte)) : Moves s (s.setHeadRx x) := setLink_moves s _

theorem takeHeadChar_moves (s : State) (c : Character) : Moves s (s.takeHeadChar c) := by
  simp only [State.takeHeadChar]; split
  · exact setHeadRx_moves s _
  · split
    · exact setHeadRx_moves s _
    · split
      · exact Moves.refl s
      · simp only [State.storeHeadChar]; split
        · exact setHeadRx_moves s _
        · exact (setHeadRx_moves s _).and (declareSlot_moves _ _)

/-! ## The traverse controller's commands -/

theorem arrival_moves (s : State) : Moves s s.arrival := by
  simp only [State.arrival]
  split
  · next h =>
    split
    · exact arriveApproach_moves (.of_state (by simp [h, measuringLeg]))
    · exact Moves.refl s
  iterate 2
    next h =>
      split
      · split
        · exact completeScan_moves _ (by simp [h, measuringLeg])
        · exact Moves.refl s
      · split
        · exact completeScan_moves _ (by simp [h, measuringLeg])
        · exact Moves.refl s
      · exact Moves.refl s
  · next h =>
    split
    · exact arrivePoint_moves (.of_state (by simp [h, measuringLeg]))
    · exact Moves.refl s
  · next h =>
    split
    · exact arriveParked_moves (.of_state (by simp [h, measuringLeg]))
    · exact Moves.refl s
  all_goals exact Moves.refl s

theorem indexFound_moves {s : State} (h : s.head.state = .homing) : Moves s s.indexFound := by
  refine Moves.and (setHead_moves s ?_ ?_) (arriveParked_moves (.of_state ?_))
  · rfl
  · rfl
  · simp [h, measuringLeg]

/-! ## The commands -/

theorem declareIf_moves (s : State) (b : Bool) (d : SlotDecl) : Moves s (s.declareIf b d) := by
  simp only [State.declareIf]; split
  · exact declareSlot_moves s d
  · exact Moves.refl s

theorem threadingExpiry_moves_of_threading {s : State} (h : s.brk.state = .threading) : Moves s s.threadingExpiry :=
  threadingExpiry_moves (by simp [h])

/-- A station's port torn down and its hold released (R181). -/
def State.removed (s : State) (st : Station) : State :=
  let s := s.onPort st Port.tornDown
  s.setRing (s.ring.release st)

theorem absence_moves (s : State) (st : Station) : Moves (s.removed st) (s.absence st) :=
  (setSlot_moves _ st .none).and (redecideIfParked_moves _)

/-- What a command other than a reset comes to: changes, with the transmitters' choice or without need of one; the end of
a transmission and a station's absence remove something first. -/
inductive Outcomes (c : Instr) (s t : State) : Prop where
  | settled (u : State) (h : Moves s u) (ht : t = u.settle)
  | still (h : Moves s t) (ht : Settled s → Settled t)
  | transmitted (st : Station) (hc : c = .lastCharacterSent st) (ht : t = (s.transmitted st).settle)
  | absent (st : Station) (u : State) (hc : c = .presenceTimerExpiry st) (h : Moves (s.removed st) u) (ht : t = u.settle)

/-- The receiver's part of a port is nothing to its transmitter. -/
theorem settled_onPort_rx {s : State} (st : Station) (r : RxState) (g : Timer) (h : Settled s) :
    Settled (s.onPort st (fun p => { p with rx := r, gapTimer := g })) := by
  have hport : ∀ j, Port.choose (s.ports.get j) = s.ports.get j := fun j => by
    rw [← State.settle_get, h]
  have hrx : ∀ p : Port, Port.choose p = p → Port.choose { p with rx := r, gapTimer := g } = { p with rx := r, gapTimer := g } := by
    intro p hp
    have e : Port.choose { p with rx := r, gapTimer := g } = { Port.choose p with rx := r, gapTimer := g } := by
      cases p with
      | mk rx gap present timer pend replies dropped tx sub notices =>
        cases tx <;> cases replies <;> cases notices <;> rfl
    rw [e, hp]
  have hports : ((s.onPort st (fun p => { p with rx := r, gapTimer := g })).ports).map Port.choose
      = (s.onPort st (fun p => { p with rx := r, gapTimer := g })).ports := by
    refine Four.ext_get fun j => ?_
    rw [Four.get_map]
    by_cases hj : j = st
    · rw [hj, State.onPort_get]; exact hrx _ (hport st)
    · rw [State.onPort_get_ne _ _ hj]; exact hport j
  rw [Settled, State.settle, State.onPorts, hports]; rfl

/-- Where the ports are as they were, so are the transmitters' choices. -/
theorem settled_of_ports {s t : State} (h : t.ports = s.ports) (hs : Settled s) : Settled t := by
  have e : s.ports.map Port.choose = s.ports := congrArg State.ports hs
  rw [Settled, State.settle, State.onPorts, h, e, ← h]; rfl

theorem request_outcomes (c : Instr) {s t : State} (k : RequestKind) (st : Station) (tag : Byte) (p : List Byte)
    (h : s.request k st tag p = .next t) : Outcomes c s t := by
  simp only [State.request, State.done, Host.Outcome.next.injEq] at h
  exact .settled _ (telegramArrival_moves s st _ tag p) h.symm

/-- A step that ends with the transmitters' choice. -/
theorem done_outcomes (c : Instr) {s u t : State} (hm : Moves s u) (h : u.done = .next t) : Outcomes c s t := by
  simp only [State.done, Host.Outcome.next.injEq] at h
  exact .settled u hm h.symm

/-- A step that leaves the queues of the ports alone. -/
theorem next_outcomes (c : Instr) {s u t : State} (hm : Moves s u) (hs : Settled s → Settled u)
    (h : (Host.Outcome.next u : Host.Outcome State Fault Refusal) = .next t) : Outcomes c s t := by
  cases h; exact .still hm hs

theorem ite_moves {s t : State} {c : Prop} [Decidable c] (h : c → Moves s t) : Moves s (if c then t else s) := by
  split
  · exact h ‹_›
  · exact Moves.refl s

theorem exec_outcomes {c : Instr} {s t : State} (h : exec c s = .next t) (hr : c ≠ .deviceReset) : Outcomes c s t := by
  have hdeclare : ∀ d, Moves s ((s.beforeSlot d).declareSlot d) := fun d => (beforeSlot_moves s d).and (declareSlot_moves _ d)
  cases c with
  | deviceReset => exact absurd rfl hr
  | sampleTelegramArrival x => exact done_outcomes _ ((setHeadRx_moves s _).and (declareSlot_moves _ _)) h
  | missingSlot => exact done_outcomes _ (declareIf_moves s _ _) h
  | windowEnd d => exact done_outcomes _ (ite_moves fun _ => hdeclare d) h
  | headCommandSent =>
    refine next_outcomes _ (setLink_moves s _) (settled_of_ports ?_) h
    rfl
  | stdSlotLimit d => exact done_outcomes _ (ite_moves fun _ => hdeclare d) h
  | tileTimerExpiry => exact done_outcomes _ (ite_moves fun _ => tileExpired_moves s) h
  | withdrawTimerExpiry => exact done_outcomes _ (ite_moves fun _ => (stuckTile_moves s).and (faultEntry_moves _ _)) h
  | encoderCount dir =>
    refine done_outcomes _ (Moves.and (setHead_moves s ?_ ?_) (arrival_moves _)) h <;> rfl
  | indexPulse => exact done_outcomes _ (ite_moves fun hs => indexFound_moves hs) h
  | drvRdyLow => exact done_outcomes _ ((setPins_moves s _).and (ite_moves fun _ => faultUnlessFaulted_moves _ _)) h
  | drvRdyHigh =>
    refine next_outcomes _ ((setPins_moves s _).and (ite_moves fun _ => drive_moves _ _ _)) (settled_of_ports ?_) h
    split <;> rfl
  | encoderLossTimerExpiry => exact done_outcomes _ (ite_moves fun _ => faultUnlessFaulted_moves s _) h
  | overtravel sw b => exact done_outcomes _ ((setPins_moves s _).and (ite_moves fun _ => faultUnlessFaulted_moves _ _)) h
  | homingTimerExpiry => exact done_outcomes _ (ite_moves fun _ => faultEntry_moves s _) h
  | pointPeriodEnd d => exact done_outcomes _ (ite_moves fun _ => hdeclare d) h
  | waitTimerExpiry st => exact done_outcomes _ (endPending_moves s st _) h
  | tachPulse => exact next_outcomes _ (Move.speed _ Speed.pulse_bounds).one (settled_of_ports rfl) h
  | speedGateEnd => exact next_outcomes _ (gateEnd_moves s) (settled_of_ports (by simp)) h
  | lossTimerExpiry =>
    refine next_outcomes _ (ite_moves fun _ => lossExpiry_moves s) (settled_of_ports ?_) h
    split <;> simp
  | detectorLevelChange d b =>
    refine next_outcomes _ (t := t) (u := if s.pins.det.get d = b then s else s.levelChange d b) ?_ (settled_of_ports ?_) h
    · split
      · exact Moves.refl s
      · exact levelChange_moves s d b
    · split <;> simp
  | debounceExpiry d => exact done_outcomes _ (ite_moves fun _ => debounceExpiry_moves s d) h
  | absentWindowEnd x => exact done_outcomes _ (ite_moves fun _ => (setHeadRx_moves s _).and (declareSlot_moves _ _)) h
  | threadingTimerExpiry => exact done_outcomes _ (ite_moves fun hs => threadingExpiry_moves_of_threading hs.1) h
  | gapTimerExpiry st =>
    refine next_outcomes _ (ite_moves fun _ => hunt_moves s st) (fun hs => ?_) h
    split
    · exact settled_onPort_rx st .hunt .stopped hs
    · exact hs
  | telegramDropped st => exact next_outcomes _ (hunt_moves s st) (settled_onPort_rx st .hunt .stopped) h
  | presenceTimerExpiry st =>
    simp only [exec, execPresenceTimerExpiry, State.done, Host.Outcome.next.injEq] at h
    split at h
    · exact .absent st _ rfl (absence_moves s st) h.symm
    · exact .settled s (Moves.refl s) h.symm
  | lastCharacterSent st =>
    simp only [exec, execLastCharacterSent, State.done, Host.Outcome.next.injEq] at h
    exact .transmitted st rfl h.symm
  | unknownKind st kind tag p => exact done_outcomes _ (telegramArrival_moves s st kind tag p) h
  | status st tag p => exact request_outcomes _ .status st tag p h
  | readScan st tag p => exact request_outcomes _ .readScan st tag p h
  | readTrend st tag p => exact request_outcomes _ .readTrend st tag p h
  | readPoints st tag p => exact request_outcomes _ .readPoints st tag p h
  | readStandardization st tag p => exact request_outcomes _ .readStandardization st tag p h
  | cancel st tag p => exact request_outcomes _ .cancel st tag p h
  | mode st tag p => exact request_outcomes _ .mode st tag p h
  | clearFault st tag p => exact request_outcomes _ .clearFault st tag p h
  | resume st tag p => exact request_outcomes _ .resume st tag p h
  | takeCount st tag p => exact request_outcomes _ .takeCount st tag p h
  | restartProfiles st tag p => exact request_outcomes _ .restartProfiles st tag p h
  | recipeWrite st tag p => exact request_outcomes _ .recipeWrite st tag p h
  | recipeRead st tag p => exact request_outcomes _ .recipeRead st tag p h
  | validate st tag p => exact request_outcomes _ .validate st tag p h
  | select st tag p => exact request_outcomes _ .select st tag p h
  | machineWrite st tag p => exact request_outcomes _ .machineWrite st tag p h
  | machineRead st tag p => exact request_outcomes _ .machineRead st tag p h
  | subscribe st tag p => exact request_outcomes _ .subscribe st tag p h
  | stationCharacterTaken st e => exact done_outcomes _ (takeLine_moves s st e) h
  | headLinkCharacter x => exact done_outcomes _ (takeHeadChar_moves s x) h

/-! ## The step -/

/-- The state right after device reset. -/
def State.restarted (s : State) : State := State.resetAt s.pins s.pending

theorem exec_deviceReset (s : State) : exec .deviceReset s = .next s.restarted.homingBegun.settle := rfl

theorem tick_moves (s : State) : Moves s s.tick := by
  refine setBrk_moves ?_ ?_ ?_ ?_ <;> rfl

theorem setPending_moves (s : State) (x : List Instr) : Moves s (s.setPending x) := Quiet.moves {}

theorem step_of_nil {s : State} (h : s.pending = []) : step s = .next s.tick := by simp [step, h]

theorem step_of_cons {s : State} {c : Instr} {rest : List Instr} (h : s.pending = c :: rest) :
    step s = exec c (s.setPending rest) := by simp [step, h]

end Sys2Proof.Machine
end


section
/-! SUPPORT AND PROOF. The counters, the BREAK relay, the head link before its first arrival and the recipe slots under
every step (Laws 8, 10 and 12). -/

namespace Sys2Proof.Machine

open Sys2Proof Sys2Proof.Safety

/-! ## What every command keeps -/

/-- A condition that every change keeps, and what a step does beside: the transmitters' choice, the end of a transmission,
a station's absence, device reset. -/
structure Kept (P : State → Prop) : Prop where
  move : ∀ s t, Move s t → P s → P t
  settle : ∀ s, P s → P s.settle
  transmitted : ∀ s st, P s → P (s.transmitted st)
  removed : ∀ s st, P s → P (s.removed st)
  restarted : ∀ s : State, P s.restarted

theorem Kept.exec {P : State → Prop} (hP : Kept P) {c : Instr} {s t : State} (h : Machine.exec c s = .next t) (hs : P s) : P t := by
  by_cases hr : c = .deviceReset
  · subst hr
    rw [exec_deviceReset] at h
    cases h
    exact hP.settle _ ((homingBegun_moves _).keeps hP.move (hP.restarted s))
  · cases exec_outcomes h hr with
    | settled u hm ht => exact ht ▸ hP.settle _ (hm.keeps hP.move hs)
    | still hm _ => exact hm.keeps hP.move hs
    | transmitted st _ ht => exact ht ▸ hP.settle _ (hP.transmitted _ st hs)
    | absent st u _ hm ht => exact ht ▸ hP.settle _ (hm.keeps hP.move (hP.removed _ st hs))

theorem Kept.step {P : State → Prop} (hP : Kept P) {s t : State} (h : Machine.step s = .next t) (hs : P s) : P t := by
  cases hp : s.pending with
  | nil =>
    rw [step_of_nil hp] at h
    cases h
    exact (tick_moves s).keeps hP.move hs
  | cons c rest =>
    rw [step_of_cons hp] at h
    exact hP.exec h ((setPending_moves s rest).keeps hP.move hs)

/-! ## The break supervisor -/

theorem BrkKept.refl (b : Supervisor) : BrkKept b b := ⟨fun h => h, fun h => h, fun h => h⟩

theorem BrkKept.of_eq {a b : Supervisor} (h : b = a) : BrkKept a b := h ▸ .refl a

/-- Every change keeps the supervisor's bounds and its relay. -/
theorem Move.brkKept {s t : State} (h : Move s t) : BrkKept s.brk t.brk := by
  cases h with
  | quiet h => exact .of_eq h.brk
  | brk b h _ => exact h
  | activate i b h _ => exact h
  | _ => exact .of_eq (by simp [State.closing])

theorem breakRelay_move {s t : State} (h : Move s t) (hs : BreakRelay s) : BreakRelay t := h.brkKept.relay hs

/-! ## The counters of every block but the head link -/

/-- The bounds of Law 12 but for the head link's. -/
structure UnitBounds (s : State) : Prop where
  breaks : s.brk.count ≤ 65535
  recoveries : s.brk.recoveryCount ≤ 8
  holes : s.hole.counter ≤ 65535
  run : s.hole.run ≤ 33
  fails : s.std.failCount ≤ 3
  scans : s.std.scanCounter ≤ 255
  speed : SpeedBounds s.speed
  trend : s.trend.length ≤ 16
  points : s.points.ring.length ≤ 32
  records : s.ring.records.length = 8

/-- The bounds of Law 12 of the head link. -/
def LinkBounds (l : HeadLink) : Prop := l.slotCount < 64 ∧ l.badCount ≤ l.slotCount

theorem counterBounds_iff (s : State) : CounterBounds s ↔ UnitBounds s ∧ LinkBounds s.link := by
  constructor
  · rintro ⟨h1, h2, h3, h4, h5, h6, h7, h8, h9, h10, h11, h12, h13, h14⟩
    exact ⟨⟨h1, h2, h3, h4, h5, h6, ⟨h7, h8, h9⟩, h12, h13, h14⟩, h10, h11⟩
  · rintro ⟨⟨h1, h2, h3, h4, h5, h6, ⟨h7, h8, h9⟩, h12, h13, h14⟩, h10, h11⟩
    exact ⟨h1, h2, h3, h4, h5, h6, h7, h8, h9, h10, h11, h12, h13, h14⟩

/-- A change that raises none of the counters but those of the supervisor. -/
theorem UnitBounds.keep {s t : State} (h : UnitBounds s) (hb : BrkKept s.brk t.brk)
    (holes : t.hole.counter ≤ s.hole.counter := by simp) (run : t.hole.run ≤ s.hole.run := by simp)
    (fails : t.std.failCount ≤ s.std.failCount := by simp) (scans : t.std.scanCounter ≤ s.std.scanCounter := by simp)
    (speed : t.speed = s.speed := by simp) (trend : t.trend = s.trend := by simp)
    (points : t.points.ring = s.points.ring := by simp)
    (records : t.ring.records.length = s.ring.records.length := by simp) : UnitBounds t :=
  { breaks := hb.count h.breaks
    recoveries := hb.recoveries h.recoveries
    holes := holes.trans h.holes
    run := run.trans h.run
    fails := fails.trans h.fails
    scans := scans.trans h.scans
    speed := by rw [speed]; exact h.speed
    trend := by rw [trend]; exact h.trend
    points := by rw [points]; exact h.points
    records := by rw [records]; exact h.records }

theorem servePending_length (s : State) (i : Nat) (st : Station) :
    (s.servePending i st).ring.records.length = s.ring.records.length := by
  simp only [State.servePending]; split
  · rfl
  · split
    · exact Ring.modify_length _ _ _
    · rfl

theorem unitBounds_move {s t : State} (h : Move s t) (hs : UnitBounds s) : UnitBounds t := by
  have hb := h.brkKept
  cases h with
  | quiet h =>
    exact hs.keep hb h.hole_counter h.hole_run h.std_fail h.std_scans h.speed h.trend h.points (by rw [h.ring])
  | hole x h => exact { hs with holes := (h hs.holes hs.run).1, run := (h hs.holes hs.run).2 }
  | std x h => exact { hs with fails := (h hs.fails hs.scans).1, scans := (h hs.fails hs.scans).2 }
  | speed x h => exact { hs with speed := h hs.speed }
  | points x h => exact { hs with points := h hs.points }
  | close i h => exact { hs with trend := keepNewest_length_le _ _, records := (Ring.modify_length _ _ _).trans hs.records }
  | startScan dir a h => exact hs.keep hb (records := by rw [startScan_ring, Ring.modify_length])
  | void => exact hs.keep hb (records := by rw [voided_ring, Ring.onFilling_length])
  | mark f h => exact hs.keep hb (records := Ring.onFilling_length _ _)
  | serve i st h => exact hs.keep hb (records := servePending_length _ _ _)
  | serveScan tag q ha hp hu hc => exact hs.keep hb (records := Ring.modify_length _ _ _)
  | _ => exact hs.keep hb

@[simp] theorem Ring.release_length (r : Ring) (st : Station) : (r.release st).records.length = r.records.length :=
  List.length_map ..

theorem transmitted_length (s : State) (st : Station) :
    (s.transmitted st).ring.records.length = s.ring.records.length := by
  simp only [State.transmitted]; split <;> simp

theorem unitBounds_and_breakRelay_kept : Kept (fun s => UnitBounds s ∧ BreakRelay s) where
  move _ _ h hs := ⟨unitBounds_move h hs.1, breakRelay_move h hs.2⟩
  settle s hs := ⟨hs.1.keep (.of_eq (by simp)), by rw [BreakRelay, settle_brk]; exact hs.2⟩
  transmitted s st hs :=
    ⟨hs.1.keep (.of_eq (by simp)) (records := transmitted_length s st), by rw [BreakRelay, transmitted_brk]; exact hs.2⟩
  removed s st hs := ⟨{ hs.1 with records := (Ring.release_length _ _).trans hs.1.records }, hs.2⟩
  restarted s := by
    refine ⟨?_, ?_⟩
    · constructor <;> simp [State.restarted, State.resetAt, Supervisor.reset, Hole.reset, StdUnit.reset, Ring.reset, Config.ringSize, SpeedBounds,
        Speed.reset, Points.reset]
    · simp [BreakRelay, State.restarted, State.resetAt, Supervisor.reset]

/-! ## The head link receiver -/

/-- The link after the whole declaration of a slot: the 64th of a window ends it (R4). -/
def HeadLink.declared (l : HeadLink) (d : SlotDecl) : HeadLink :=
  let l' := l.declare d
  if 64 ≤ l'.slotCount then l'.windowEnd else l'

theorem linkWindowEnd_received (s : State) :
    s.linkWindowEnd.link.received = (if 64 ≤ s.link.slotCount then s.link.windowEnd else s.link).received := by
  have htold : s.windowTold.link.received = s.link.windowEnd.received := by
    simp only [State.windowTold]; split <;> simp
  split
  · next h =>
    rw [linkWindowEnd_eq h]; split
    · rw [linkLost_link_received, htold]
    · exact htold
  · next h => rw [State.linkWindowEnd_of_lt (by omega)]

/-- The end of a window commutes with what the head commands on their way are. -/
theorem HeadLink.windowEnd_received {a b : HeadLink} (h : a.received = b.received) :
    (if 64 ≤ a.slotCount then a.windowEnd else a).received = (if 64 ≤ b.slotCount then b.windowEnd else b).received := by
  have hw : ∀ l : HeadLink, l.windowEnd.received = l.received.windowEnd := fun _ => rfl
  rw [(HeadLink.received_eq h).2.2.2.2.1]
  split
  · rw [hw, hw, h]
  · exact h

theorem declareSlot_received (s : State) (d : SlotDecl) : (s.declareSlot d).link.received = (s.link.declared d).received := by
  simp only [State.declareSlot, pointPeriodEnd_link_received, linkWindowEnd_received, HeadLink.declared]
  exact HeadLink.windowEnd_received (by simp)

/-- The link with other bytes of a telegram in progress. -/
def HeadLink.listening (l : HeadLink) (x : Option (List Byte)) : HeadLink := { l with rx := x }

/-- What a command other than a reset does to the receiver: a slot at most. -/
inductive LinkOutcome (s t : State) : Prop where
  | listened (x : Option (List Byte)) (h : t.link.received = (s.link.listening x).received)
  | declared (x : Option (List Byte)) (d : SlotDecl) (h : t.link.received = ((s.link.listening x).declared d).received)

theorem LinkOutcome.same {s t : State} (h : t.link.received = s.link.received) : LinkOutcome s t := .listened s.link.rx h

theorem linkOutcome_declareSlot (s : State) (d : SlotDecl) : LinkOutcome s (s.declareSlot d) :=
  .declared s.link.rx d (declareSlot_received s d)

theorem linkOutcome_setHeadRx_declareSlot (s : State) (x : Option (List Byte)) (d : SlotDecl) :
    LinkOutcome s ((s.setHeadRx x).declareSlot d) :=
  .declared x d (declareSlot_received _ d)

theorem linkOutcome_beforeSlot_declareSlot (s : State) (d : SlotDecl) : LinkOutcome s ((s.beforeSlot d).declareSlot d) := by
  cases d with
  | arrival t => exact linkOutcome_setHeadRx_declareSlot s none (.arrival t)
  | missing => exact linkOutcome_declareSlot s .missing

theorem linkOutcome_ite {s u : State} {p : Prop} [Decidable p] (h : LinkOutcome s u) : LinkOutcome s (if p then u else s) := by
  split
  · exact h
  · exact .same rfl

theorem linkOutcome_takeHeadChar (s : State) (c : Character) : LinkOutcome s (s.takeHeadChar c) := by
  have hrx : ∀ x, LinkOutcome s (s.setHeadRx x) := fun x => .listened x rfl
  simp only [State.takeHeadChar]; split
  · exact hrx _
  · split
    · exact hrx _
    · split
      · exact .same rfl
      · simp only [State.storeHeadChar]; split
        · exact hrx _
        · exact linkOutcome_setHeadRx_declareSlot s none _

theorem linkOutcome_done {s u t : State} (hu : LinkOutcome s u) (h : u.done = .next t) : LinkOutcome s t := by
  simp only [State.done, Host.Outcome.next.injEq] at h
  subst h
  cases hu with
  | listened x h => exact .listened x ((settle_link_received u).trans h)
  | declared x d h => exact .declared x d ((settle_link_received u).trans h)

/-- A command that leaves the receiver alone. -/
theorem linkOutcome_of_done {s u t : State} (h : u.done = .next t) (hu : u.link.received = s.link.received := by simp) :
    LinkOutcome s t := linkOutcome_done (.same hu) h

theorem linkOutcome_of_next {s u t : State} (h : (Host.Outcome.next u : Host.Outcome State Fault Refusal) = .next t)
    (hu : u.link.received = s.link.received := by simp) : LinkOutcome s t := by
  cases h; exact .same hu

theorem ite_received {s u : State} {p : Prop} [Decidable p] (h : u.link.received = s.link.received) :
    (if p then u else s).link.received = s.link.received := by
  split
  · exact h
  · rfl

theorem exec_link {c : Instr} {s t : State} (h : exec c s = .next t) (hr : c ≠ .deviceReset) : LinkOutcome s t := by
  cases c with
  | deviceReset => exact absurd rfl hr
  | sampleTelegramArrival x => exact linkOutcome_done (linkOutcome_setHeadRx_declareSlot s none _) h
  | missingSlot => exact linkOutcome_done (linkOutcome_ite (linkOutcome_declareSlot s _)) h
  | windowEnd d => exact linkOutcome_done (linkOutcome_ite (linkOutcome_beforeSlot_declareSlot s d)) h
  | stdSlotLimit d => exact linkOutcome_done (linkOutcome_ite (linkOutcome_beforeSlot_declareSlot s d)) h
  | pointPeriodEnd d => exact linkOutcome_done (linkOutcome_ite (linkOutcome_beforeSlot_declareSlot s d)) h
  | absentWindowEnd x => exact linkOutcome_done (linkOutcome_ite (linkOutcome_setHeadRx_declareSlot s none _)) h
  | headLinkCharacter x => exact linkOutcome_done (linkOutcome_takeHeadChar s x) h
  | headCommandSent => exact linkOutcome_of_next h rfl
  | drvRdyHigh => exact linkOutcome_of_next h (ite_received (by simp))
  | lossTimerExpiry => exact linkOutcome_of_next h (ite_received (by simp))
  | gapTimerExpiry st => exact linkOutcome_of_next h (ite_received (by simp [State.dropTelegram]))
  | telegramDropped st => exact linkOutcome_of_next h (by simp [State.dropTelegram])
  | detectorLevelChange d b =>
    refine linkOutcome_of_next (u := if s.pins.det.get d = b then s else s.levelChange d b) h ?_
    split <;> simp
  | tachPulse => exact linkOutcome_of_next h
  | speedGateEnd => exact linkOutcome_of_next h
  | encoderCount dir => exact linkOutcome_of_done h
  | waitTimerExpiry st => exact linkOutcome_of_done h
  | lastCharacterSent st => exact linkOutcome_of_done h
  | stationCharacterTaken st e => exact linkOutcome_of_done h
  | drvRdyLow => exact linkOutcome_of_done h (ite_received (by simp))
  | overtravel sw b => exact linkOutcome_of_done h (ite_received (by simp))
  | tileTimerExpiry => exact linkOutcome_of_done h (ite_received (by simp))
  | withdrawTimerExpiry => exact linkOutcome_of_done h (ite_received (by simp))
  | indexPulse => exact linkOutcome_of_done h (ite_received (by simp))
  | encoderLossTimerExpiry => exact linkOutcome_of_done h (ite_received (by simp))
  | homingTimerExpiry => exact linkOutcome_of_done h (ite_received (by simp))
  | debounceExpiry d => exact linkOutcome_of_done h (ite_received (by simp))
  | threadingTimerExpiry => exact linkOutcome_of_done h (ite_received (by simp))
  | presenceTimerExpiry st => exact linkOutcome_of_done h (ite_received (by simp))
  | _ => exact linkOutcome_of_done (u := s.telegramArrival _ _ _ _) h

theorem LinkBounds.declared {l : HeadLink} (h : LinkBounds l) (d : SlotDecl) : LinkBounds (l.declared d) := by
  have hc := HeadLink.declare_slotCount l d
  have hb : (l.declare d).badCount ≤ (l.declare d).slotCount := by
    obtain ⟨-, hb⟩ := h
    rw [hc]
    cases d with
    | missing => exact Nat.succ_le_succ hb
    | arrival t =>
      have hf := (HeadLink.received_eq l.firstArrival_received).2.2.2.2.2.1
      have hg := Bool.toNat_le (!slotGood l (sampleCheckOk t) t.seq)
      simp only [HeadLink.declare, HeadLink.arrive, hf]; omega
  simp only [HeadLink.declared]; split
  · exact ⟨Nat.zero_lt_succ 63, le_rfl⟩
  · exact ⟨by omega, hb⟩

theorem HeadLink.declared_timer (l : HeadLink) (d : SlotDecl) : (l.declared d).missingTimer ≠ .stopped := by
  simp only [HeadLink.declared]
  cases d <;> split <;> simp [HeadLink.windowEnd, HeadLink.declare, HeadLink.arrive, HeadLink.miss]

theorem LinkBounds.of_received {a b : HeadLink} (h : a.received = b.received) (hb : LinkBounds b) : LinkBounds a := by
  obtain ⟨-, -, -, -, hs, hc, -⟩ := HeadLink.received_eq h
  rwa [LinkBounds, hs, hc]

theorem linkBounds_exec {c : Instr} {s t : State} (h : exec c s = .next t) (hr : c ≠ .deviceReset) (hs : LinkBounds s.link) :
    LinkBounds t.link := by
  cases exec_link h hr with
  | listened x h => exact .of_received h hs
  | declared x d h => exact .of_received h (LinkBounds.declared (l := s.link.listening x) hs d)

theorem untimedLinkIsLost_exec {c : Instr} {s t : State} (h : exec c s = .next t) (hr : c ≠ .deviceReset)
    (hs : UntimedLinkIsLost s) : UntimedLinkIsLost t := by
  cases exec_link h hr with
  | listened x h =>
    obtain ⟨-, hstate, -, -, -, -, htimer⟩ := HeadLink.received_eq h
    rw [UntimedLinkIsLost, hstate, htimer]
    exact hs
  | declared x d h =>
    obtain ⟨-, -, -, -, -, -, htimer⟩ := HeadLink.received_eq h
    intro ht
    exact absurd (htimer.symm.trans ht) (HeadLink.declared_timer _ d)

end Sys2Proof.Machine

namespace Sys2Proof.Safety

open Sys2Proof Sys2Proof.Machine

/-- Settles O54: every change keeps the bounds of the units and the relay, a slot those of the link, its 64th by ending the
window; a slot leaves the missing-slot timer running. -/
theorem keepsCountersAndRelay : Obligations.KeepsCountersAndRelay := by
  have hreset : ∀ s : State, s.restarted.homingBegun.settle.link.received = HeadLink.reset.received := fun s => by simp; rfl
  constructor
  · rintro s t ⟨hc, hb⟩ h
    obtain ⟨hu, hl⟩ := (counterBounds_iff s).mp hc
    obtain ⟨htu, htb⟩ := unitBounds_and_breakRelay_kept.step h ⟨hu, hb⟩
    refine ⟨(counterBounds_iff t).mpr ⟨htu, ?_⟩, htb⟩
    cases hp : s.pending with
    | nil =>
      rw [step_of_nil hp] at h
      cases h
      exact hl
    | cons c rest =>
      rw [step_of_cons hp] at h
      by_cases hr : c = .deviceReset
      · subst hr
        cases h
        exact .of_received (hreset _) ⟨by decide, by decide⟩
      · exact linkBounds_exec h hr hl
  · intro s t hs h
    cases hp : s.pending with
    | nil =>
      rw [step_of_nil hp] at h
      cases h
      exact hs
    | cons c rest =>
      rw [step_of_cons hp] at h
      by_cases hr : c = .deviceReset
      · subst hr
        cases h
        exact fun _ => (HeadLink.received_eq (hreset _)).2.1
      · exact untimedLinkIsLost_exec h hr hs

end Sys2Proof.Safety
end


section
/-! SUPPORT AND PROOF. The recipe slots and the break state under every step (Law 10). -/

namespace Sys2Proof.Machine

open Sys2Proof Sys2Proof.Safety

theorem Slot.yield_state (y : Slot) : y.yield.state ≠ .active ∧ y.yield.state ≠ .pending := by
  simp only [Slot.yield]; split <;> simp_all

/-- An activation leaves one slot ACTIVE (R169). -/
theorem slotsIn_activate_active (st : Store) (i : SlotNo) : slotsIn (st.activate i) .active = 1 := by
  have h : ∀ y : Slot, (y.yield.state == SlotState.active) = false := fun y => by simp [y.yield_state.1]
  cases i <;> simp [slotsIn, Store.activate, Four.set, Four.map, h]

/-- An activation leaves no slot PENDING (R169). -/
theorem slotsIn_activate_pending (st : Store) (i : SlotNo) : slotsIn (st.activate i) .pending = 0 := by
  have h : ∀ y : Slot, (y.yield.state == SlotState.pending) = false := fun y => by simp [y.yield_state.2]
  cases i <;> simp [slotsIn, Store.activate, Four.set, Four.map, h]

/-- Where a change leaves the store and whether the break state is IDLE, the recipe slots are kept. -/
theorem recipeSlots_of_eq {s t : State} (hs : RecipeSlots s) (hstore : t.store = s.store)
    (hb : t.brk.state = .idle ↔ s.brk.state = .idle) : RecipeSlots t := by
  obtain ⟨ha, hp, hi⟩ := hs
  rw [RecipeSlots, hstore]
  exact ⟨ha, hp, hi.trans hb.symm⟩

theorem recipeSlots_move {s t : State} (h : Move s t) (hs : RecipeSlots s) : RecipeSlots t := by
  cases h with
  | quiet h => exact recipeSlots_of_eq hs h.store (by rw [h.brk])
  | brk b h hi => exact recipeSlots_of_eq hs rfl hi
  | store x h =>
    obtain ⟨ha, hp, hi⟩ := hs
    refine ⟨?_, h.pending hp, ?_⟩
    · rw [State.setStore_store, h.active]; exact ha
    · rw [State.setStore_store, h.active]; exact hi
  | activate i b h hi =>
    have ha := slotsIn_activate_active s.store i
    have hp := slotsIn_activate_pending s.store i
    refine ⟨?_, ?_, ?_⟩
    · rw [State.setBrk_store, State.setStore_store, ha]
    · rw [State.setBrk_store, State.setStore_store, hp]; exact Nat.zero_le 1
    · rw [State.setBrk_store, State.setStore_store, ha]; simp [hi]
  | _ => exact recipeSlots_of_eq hs (by simp) (by simp)

theorem recipeSlots_kept : Kept RecipeSlots where
  move _ _ := recipeSlots_move
  settle _ hs := recipeSlots_of_eq hs (by simp) (by simp)
  transmitted _ _ hs := recipeSlots_of_eq hs (by simp) (by simp)
  removed _ _ hs := hs
  restarted _ :=
    ⟨(by decide : slotsIn Store.reset .active ≤ 1), (by decide : slotsIn Store.reset .pending ≤ 1), fun _ => rfl, fun _ => rfl⟩

end Sys2Proof.Machine

namespace Sys2Proof.Safety

open Sys2Proof Sys2Proof.Machine

/-- Settles O55: the store and the break state change together, in an activation. -/
theorem keepsRecipeSlots : Obligations.KeepsRecipeSlots := fun _ _ hs h => recipeSlots_kept.step h hs

end Sys2Proof.Safety
end

section
/-! SUPPORT AND PROOF. The FILLING record under every step (Law 1), and the record that a scan start takes (R89). -/

namespace Sys2Proof.Machine

open Sys2Proof Sys2Proof.Safety

/-! ## The pick -/

/-- The pick among COMPLETE records so far: none while no record is reusable, else the furthest behind newest. -/
structure Ring.BestOf (g : Ring) (seen : List Nat) (best : Option Nat) : Prop where
  none : best = none → ∀ i ∈ seen, (g.at i).reusable = false
  some : ∀ k, best = some k → k ∈ seen ∧ (g.at k).reusable = true
    ∧ ∀ i ∈ seen, (g.at i).reusable = true → g.behind (g.at i) ≤ g.behind (g.at k)

theorem Ring.bestOf_older {g : Ring} {seen : List Nat} {best : Option Nat} (h : g.BestOf seen best) (i : Nat) :
    g.BestOf (seen ++ [i]) (g.older best i) := by
  simp only [Ring.older]
  split
  · next hi =>
    cases best with
    | none => 
      have hn := h.none rfl
      refine ⟨by simp, fun k hk => ?_⟩
      obtain rfl : i = k := by simpa using hk
      refine ⟨by simp, hi, fun j hj hr => ?_⟩
      rcases List.mem_append.mp hj with hj | hj
      · simp [hn j hj] at hr
      · simp_all
    | some b =>
      obtain ⟨hb, hr, hmax⟩ := h.some b rfl
      dsimp only
      split
      · next hlt =>
        refine ⟨by simp, fun k hk => ?_⟩
        obtain rfl : i = k := by simpa using hk
        refine ⟨by simp, hi, fun j hj hjr => ?_⟩
        rcases List.mem_append.mp hj with hj | hj
        · exact (hmax j hj hjr).trans hlt.le
        · simp_all
      · next hge =>
        refine ⟨by simp, fun k hk => ?_⟩
        obtain rfl : b = k := by simpa using hk
        refine ⟨by simp [hb], hr, fun j hj hjr => ?_⟩
        rcases List.mem_append.mp hj with hj | hj
        · exact hmax j hj hjr
        · obtain rfl : j = i := by simpa using hj
          exact not_lt.mp hge
  · next hi =>
    have hi : (g.at i).reusable = false := by simpa using hi
    refine ⟨fun hn j hj => ?_, fun k hk => ?_⟩
    · rcases List.mem_append.mp hj with hj | hj
      · exact h.none hn j hj
      · simp_all
    · obtain ⟨hb, hr, hmax⟩ := h.some k hk
      refine ⟨by simp [hb], hr, fun j hj hjr => ?_⟩
      rcases List.mem_append.mp hj with hj | hj
      · exact hmax j hj hjr
      · simp_all

theorem Ring.bestOf_foldl {g : Ring} {seen : List Nat} {best : Option Nat} (h : g.BestOf seen best) (l : List Nat) :
    g.BestOf (seen ++ l) (l.foldl g.older best) := by
  induction l generalizing seen best with
  | nil => simpa using h
  | cons i l ih => simpa using ih (Ring.bestOf_older h i)

/-- The search through the whole ring. -/
theorem Ring.bestOf_range (g : Ring) :
    g.BestOf (List.range g.records.length) ((List.range g.records.length).foldl g.older Option.none) :=
  Ring.bestOf_foldl (seen := []) ⟨fun _ => by simp, fun _ h => by cases h⟩ _

theorem Ring.pick_of_open {g : Ring} {i : Nat} (h : g.records.findIdx? ScanRecord.open_ = some i) : g.pick = i := by
  simp [Ring.pick, h]

theorem Ring.pick_of_not_open {g : Ring} (h : g.records.findIdx? ScanRecord.open_ = none) :
    g.pick = ((List.range g.records.length).foldl g.older none).getD 0 := by
  simp [Ring.pick, h]

/-- With no record open, the pick is the oldest of those that may be used again (R89). -/
theorem Ring.pick_oldest {g : Ring} (h : g.records.findIdx? ScanRecord.open_ = none) {i : Nat} (hi : i < g.records.length)
    (hr : (g.at i).reusable = true) :
    g.pick < g.records.length ∧ (g.at g.pick).reusable = true
      ∧ ∀ j < g.records.length, (g.at j).reusable = true → g.behind (g.at j) ≤ g.behind (g.at g.pick) := by
  have hbest := g.bestOf_range
  rw [Ring.pick_of_not_open h]
  cases hk : (List.range g.records.length).foldl g.older none with
  | none => simp [hbest.none hk i (List.mem_range.mpr hi)] at hr
  | some k =>
    obtain ⟨hmem, hkr, hmax⟩ := hbest.some k hk
    exact ⟨List.mem_range.mp hmem, hkr, fun j hj => hmax j (List.mem_range.mpr hj)⟩

theorem Ring.pick_lt {g : Ring} (h : 0 < g.records.length) : g.pick < g.records.length := by
  cases ho : g.records.findIdx? ScanRecord.open_ with
  | some i =>
    rw [Ring.pick_of_open ho]
    exact (List.findIdx?_eq_some_iff_getElem.mp ho).1
  | none =>
    rw [Ring.pick_of_not_open ho]
    cases hk : (List.range g.records.length).foldl g.older none with
    | none => exact h
    | some k => exact List.mem_range.mp (g.bestOf_range.some k hk).1

/-! ## How many records are FILLING -/

theorem Ring.getElem?_at {g : Ring} {i : Nat} (h : i < g.records.length) : g.records[i]? = some (g.at i) := by
  rw [Ring.at, List.getD_eq_getElem?_getD, List.getElem?_eq_getElem h]; rfl

theorem Ring.at_of_getElem? {g : Ring} {i : Nat} {r : ScanRecord} (h : g.records[i]? = some r) : g.at i = r := by
  rw [Ring.at, List.getD_eq_getElem?_getD, h]; rfl

/-- A changed record counts as it now stands. -/
theorem fillingCount_modify {g : Ring} {i : Nat} (f : ScanRecord → ScanRecord) (h : i < g.records.length) :
    fillingCount (g.modify i f) + ((g.at i).status == .filling).toNat
      = fillingCount g + ((f (g.at i)).status == .filling).toNat := by
  have hat : g.records[i] = g.at i := by
    have := Ring.getElem?_at h
    rwa [List.getElem?_eq_getElem h, Option.some.injEq] at this
  have hpos : ((g.at i).status == .filling) = true → 0 < fillingCount g := fun hf =>
    List.countP_pos_iff.mpr ⟨g.at i, List.mem_of_getElem? (Ring.getElem?_at h), hf⟩
  have e : (g.modify i f).records = g.records.set i (f (g.at i)) := by
    rw [Ring.modify, List.modify_eq_set_getElem?, List.getElem?_eq_getElem h, hat]; rfl
  rw [fillingCount, e, List.countP_set h, hat]
  change fillingCount g - _ + _ + _ = _
  cases hg : ((g.at i).status == .filling) <;> cases hf : ((f (g.at i)).status == .filling) <;> simp [hg] at hpos ⊢ <;> omega

/-- A change of contents only counts the same. -/
theorem fillingCount_modify_of_status {g : Ring} {f : ScanRecord → ScanRecord} (h : ∀ r, (f r).status = r.status) (i : Nat) :
    fillingCount (g.modify i f) = fillingCount g := by
  by_cases hi : i < g.records.length
  · have := fillingCount_modify f hi
    rw [h] at this; omega
  · rw [Ring.modify, List.modify_eq_self (not_lt.mp hi)]

theorem fillingCount_eq_zero_iff (g : Ring) : fillingCount g = 0 ↔ g.filling = none := by
  rw [fillingCount, List.countP_eq_zero, Ring.filling, List.findIdx?_eq_none_iff]
  simp

theorem fillingCount_onFilling_of_status {g : Ring} {f : ScanRecord → ScanRecord} (h : ∀ r, (f r).status = r.status) :
    fillingCount (g.onFilling f) = fillingCount g := by
  simp only [Ring.onFilling]; split
  · rfl
  · exact fillingCount_modify_of_status h _

/-- The FILLING record, filled, is one less. -/
theorem fillingCount_modify_filling {g : Ring} {i : Nat} {f : ScanRecord → ScanRecord} (hi : g.filling = some i)
    (hf : (f (g.at i)).status ≠ .filling) : fillingCount (g.modify i f) + 1 = fillingCount g := by
  obtain ⟨hlt, hat⟩ := Ring.filling_some hi
  have := fillingCount_modify f hlt
  rw [hat, beq_eq_false_iff_ne.mpr hf] at this
  exact this

theorem servePending_ring_or (s : State) (i : Nat) (st : Station) :
    (s.servePending i st).ring = s.ring ∨ (s.servePending i st).ring = s.ring.hold i st := by
  simp only [State.servePending]; split
  · exact Or.inl rfl
  · split
    · exact Or.inr rfl
    · exact Or.inl rfl

/-! ## Law 1 -/

theorem scansFill_of_eq {s t : State} (hs : ScansFillOneRecord s) (hl : t.ring.records.length = s.ring.records.length)
    (hc : fillingCount t.ring = fillingCount s.ring) (hh : t.head = s.head) : ScansFillOneRecord t := by
  obtain ⟨hlen, hcount, hleg⟩ := hs
  rw [ScansFillOneRecord, hl, hc, hh]
  exact ⟨hlen, hcount, hleg⟩

theorem fillingCount_hold (g : Ring) (i : Nat) (st : Station) : fillingCount (g.hold i st) = fillingCount g :=
  fillingCount_modify_of_status (f := fun x => { x with holds := x.holds.set st true }) (fun _ => rfl) i

theorem scansFill_move {s t : State} (h : Move s t) (hs : ScansFillOneRecord s) : ScansFillOneRecord t := by
  have hsame := hs
  obtain ⟨hlen, hcount, hleg⟩ := hs
  cases h with
  | quiet h =>
    rw [ScansFillOneRecord, h.ring, h.scan]
    refine ⟨hlen, hcount, fun hscan => ?_⟩
    obtain e | hu := h.state
    · rw [e]; exact hleg hscan
    · simp [hu hleg] at hscan
  | mark f h =>
    exact scansFill_of_eq hsame (Ring.onFilling_length _ _) (fillingCount_onFilling_of_status fun r => (h r).1) rfl
  | void =>
    rw [ScansFillOneRecord, voided_ring, Ring.onFilling_length, voided_head]
    refine ⟨hlen, ?_, by simp⟩
    cases hf : s.ring.filling with
    | none => simpa [Ring.onFilling, hf] using (fillingCount_eq_zero_iff _).mpr hf
    | some i =>
      have := fillingCount_modify_filling (f := fun r => { r with status := .void }) hf (by simp)
      have := Bool.toNat_le s.head.scan.isSome
      simp only [Ring.onFilling, hf, Option.isSome_none, Bool.toNat_false]
      omega
  | startScan dir a hu =>
    have hscan := hu hleg
    have hpick : s.ring.pick < s.ring.records.length := Ring.pick_lt (by omega)
    have h0 : ((s.ring.at s.ring.pick).status == .filling) = false := by
      have hn : fillingCount s.ring = 0 := by simpa [hscan] using hcount
      have := List.countP_eq_zero.mp hn _ (List.mem_of_getElem? (Ring.getElem?_at hpick))
      simpa using this
    have hm := fillingCount_modify (fun _ => s.adopt.freshRecord dir) hpick
    rw [ScansFillOneRecord, startScan_ring, Ring.modify_length, startScan_head_scan, startScan_head_state]
    refine ⟨hlen, ?_, fun _ => by cases dir <;> rfl⟩
    simpa [h0, hcount, hscan, State.freshRecord] using hm
  | close i h =>
    have hc : fillingCount (s.closing i).ring + 1 = fillingCount s.ring :=
      fillingCount_modify_filling (f := fun _ => s.closedRecord (s.ring.at i)) h (by simp [State.closedRecord])
    have := Bool.toNat_le s.head.scan.isSome
    refine ⟨(Ring.modify_length _ _ _).trans hlen, ?_, by simp⟩
    simp only [closing_head, Option.isSome_none, Bool.toNat_false]
    omega
  | scanOver h => exact ⟨hlen, (fillingCount_eq_zero_iff _).mpr h, by simp⟩
  | serve i st h =>
    refine scansFill_of_eq hsame (servePending_length s i st) ?_ (by simp)
    obtain e | e := servePending_ring_or s i st <;> rw [e]
    rw [fillingCount_hold]
  | serveScan tag q ha hp hu hc => exact scansFill_of_eq hsame (Ring.modify_length _ _ _) (fillingCount_hold _ _ _) rfl
  | _ => exact scansFill_of_eq hsame (by simp) (by simp) (by simp)

theorem fillingCount_release (g : Ring) (st : Station) : fillingCount (g.release st) = fillingCount g := by
  rw [fillingCount, Ring.release, List.countP_map]; rfl

theorem transmitted_ring (s : State) (st : Station) :
    (s.transmitted st).ring = if (s.ports.get st).sendsScan then s.ring.release st else s.ring := by
  simp only [State.transmitted]; split <;> simp

theorem scansFill_kept : Kept ScansFillOneRecord where
  move _ _ := scansFill_move
  settle _ hs := scansFill_of_eq hs (by simp) (by simp) (by simp)
  transmitted s st hs := by
    refine scansFill_of_eq hs (transmitted_length s st) ?_ (by simp)
    rw [transmitted_ring]; split
    · exact fillingCount_release _ _
    · rfl
  removed s st hs := scansFill_of_eq hs (Ring.release_length _ _) (fillingCount_release _ _) rfl
  restarted _ := ⟨rfl, rfl, fun h => by cases h⟩

end Sys2Proof.Machine

namespace Sys2Proof.Safety

open Sys2Proof Sys2Proof.Machine

/-- Settles O57: a scan starts where none is in progress and takes the picked record; its record is closed or void as it
ends. -/
theorem keepsOneFillingRecord : Obligations.KeepsOneFillingRecord := fun _ _ hs h => scansFill_kept.step h hs

end Sys2Proof.Safety
end


section
/-! SUPPORT AND PROOF. The held records under every step (Laws 1 and 2, R93). -/

namespace Sys2Proof.Machine

open Sys2Proof Sys2Proof.Safety

/-! ## The records by index, and who holds them -/

/-- A condition of a FREE record holds of every record exactly if it holds at every index. -/
theorem Ring.forall_records_iff {g : Ring} {P : ScanRecord → Prop} (h : P .free) :
    (∀ r ∈ g.records, P r) ↔ ∀ i, P (g.at i) := by
  constructor
  · intro hr i
    by_cases hi : i < g.records.length
    · exact hr _ (List.mem_of_getElem? (Ring.getElem?_at hi))
    · rw [Ring.at, List.getD_eq_default _ _ (not_lt.mp hi)]; exact h
  · intro hi r hr
    obtain ⟨i, hri⟩ := List.mem_iff_getElem?.mp hr
    exact Ring.at_of_getElem? hri ▸ hi i

theorem ScanRecord.free_holds (st : Station) : ScanRecord.free.holds.get st = false := by cases st <;> rfl

theorem unheld_iff_at {s : State} {st : Station} : Unheld s st ↔ ∀ i, (s.ring.at i).holds.get st = false :=
  Ring.forall_records_iff (ScanRecord.free_holds st)

theorem heldAreComplete_iff_at {s : State} :
    HeldAreComplete s ↔ ∀ i, (s.ring.at i).holds.any id = true → (s.ring.at i).status = .complete :=
  Ring.forall_records_iff (P := fun r => r.holds.any id = true → r.status = .complete) (fun h => by cases h)

theorem Four.any_iff_get (f : Four Bool) : f.any id = true ↔ ∃ st, f.get st = true := by
  constructor
  · intro h
    simp only [Four.any, id, Bool.or_eq_true] at h
    obtain ((h | h) | h) | h := h
    exacts [⟨.n0, h⟩, ⟨.n1, h⟩, ⟨.n2, h⟩, ⟨.n3, h⟩]
  · rintro ⟨st, h⟩
    cases st <;> simp_all [Four.any, Four.get]

theorem heldAreComplete_iff {s : State} :
    HeldAreComplete s ↔ ∀ i st, (s.ring.at i).holds.get st = true → (s.ring.at i).status = .complete := by
  rw [heldAreComplete_iff_at]
  refine forall_congr' fun i => ?_
  rw [Four.any_iff_get]
  exact ⟨fun h st hst => h ⟨st, hst⟩, fun h ⟨st, hst⟩ => h st hst⟩

/-- What Law 2 says of one station. -/
structure StationHolds (s : State) (st : Station) : Prop where
  once : ∀ i j, (s.ring.at i).holds.get st = true → (s.ring.at j).holds.get st = true → i = j
  unheld : (s.ports.get st).present = false ∨ (s.ports.get st).pending ≠ none → Unheld s st
  present : (s.ports.get st).pending ≠ none → (s.ports.get st).present = true

theorem holdsKept_iff (s : State) : HoldsKept s ↔ HeldAreComplete s ∧ ∀ st, StationHolds s st := by
  refine and_congr_right fun _ => forall_congr' fun st => ?_
  have hget : ∀ i, (s.ring.at i).holds.get st = true → s.ring.records[i]? = some (s.ring.at i) := fun i h => by
    by_cases hi : i < s.ring.records.length
    · exact Ring.getElem?_at hi
    · rw [Ring.at, List.getD_eq_default _ _ (not_lt.mp hi), ScanRecord.free_holds] at h
      cases h
  constructor
  · rintro ⟨h1, h2, h3⟩
    exact ⟨fun i j hi hj => h1 i j _ _ (hget i hi) (hget j hj) hi hj, h2, h3⟩
  · rintro ⟨h1, h2, h3⟩
    refine ⟨fun i j a b ha hb hi hj => h1 i j ?_ ?_, h2, h3⟩
    · rwa [Ring.at_of_getElem? ha]
    · rwa [Ring.at_of_getElem? hb]

/-! ## What a change does to the ring -/

/-- A record is left, or is FILLING and changed or closed, or is taken for a scan, or gets a holder. -/
inductive RingStep (s t : State) : Prop where
  | same (h : t.ring = s.ring)
  | contents (i : Nat) (f : ScanRecord → ScanRecord) (hi : s.ring.filling = some i) (hf : (f (s.ring.at i)).holds = (s.ring.at i).holds)
      (h : t.ring.records = (s.ring.modify i f).records)
  | taken (r : ScanRecord) (hr : r.holds = ⟨false, false, false, false⟩) (hu : Unscanned s)
      (h : t.ring = s.ring.modify s.ring.pick (fun _ => r))
  | held (i : Nat) (st : Station) (hc : (s.ring.at i).status = .complete) (h : t.ring = s.ring.hold i st)
      (hs : (s.ports.get st).pending ≠ none ∨ Unheld s st ∧ (s.ports.get st).present = true)
      (ht : (t.ports.get st).pending = none)

theorem RingStep.onFilling {s t : State} {f : ScanRecord → ScanRecord} (hf : ∀ r, (f r).holds = r.holds)
    (h : t.ring = s.ring.onFilling f) : RingStep s t := by
  cases hi : s.ring.filling with
  | none => exact .same (by rw [h, Ring.onFilling, hi])
  | some i => exact .contents i f hi (hf _) (by rw [h, Ring.onFilling, hi])

theorem servePending_cases (s : State) (i : Nat) (st : Station) :
    s.servePending i st = s ∨ ∃ r, (s.ports.get st).pending = some r
      ∧ s.servePending i st = (s.onPort st (fun p => { p with pending := none })).serveScan st r.tag r.query i := by
  cases h : (s.ports.get st).pending with
  | none => exact Or.inl (servePending_of_none i h)
  | some r =>
    rw [servePending_of_some i h]
    split
    · exact Or.inr ⟨r, rfl, rfl⟩
    · exact Or.inl rfl

theorem Move.ringStep {s t : State} (h : Move s t) : RingStep s t := by
  cases h with
  | quiet h => exact .same h.ring
  | mark f h => exact .onFilling (fun r => (h r).2) rfl
  | void => exact .onFilling (f := fun r => { r with status := .void }) (fun _ => rfl) (voided_ring s)
  | startScan dir a hu => exact .taken _ rfl hu (startScan_ring s dir a)
  | close i h => exact .contents i _ h rfl rfl
  | serve i st h =>
    obtain e | ⟨r, hr, e⟩ := servePending_cases s i st <;> rw [e]
    · exact .same rfl
    · exact .held i st h rfl (Or.inl (by simp [hr])) (by simp [State.serveScan, State.reply, Port.queueReply])
  | @serveScan st tag q i ha hp hu hc =>
    exact .held i st hc rfl (Or.inr ⟨hu, ha.1⟩) (by simpa [State.serveScan, State.reply, Port.queueReply] using hp)
  | _ => exact .same (by simp)

/-! ## What a change does to a port's request and presence -/

/-- A PRESENT station stays PRESENT, and a request becomes pending only at a PRESENT station that holds nothing. -/
structure PortStep (s t : State) (st : Station) : Prop where
  present : (s.ports.get st).present = true → (t.ports.get st).present = true
  pending : (t.ports.get st).pending ≠ none →
    (s.ports.get st).pending ≠ none ∨ Unheld s st ∧ (s.ports.get st).present = true

theorem PortStep.of_eq {s t : State} {st : Station} (h : t.ports.get st = s.ports.get st) : PortStep s t st :=
  ⟨fun hp => h ▸ hp, fun hp => Or.inl (h ▸ hp)⟩

/-- Only one port is changed, and it keeps its request and its presence. -/
theorem PortStep.onPort {s t : State} {st : Station} {f : Port → Port} (h : t.ports = (s.onPort st f).ports)
    (hp : (s.ports.get st).present = true → (f (s.ports.get st)).present = true)
    (hq : (f (s.ports.get st)).pending ≠ none →
      (s.ports.get st).pending ≠ none ∨ Unheld s st ∧ (s.ports.get st).present = true) (j : Station) : PortStep s t j := by
  by_cases hj : j = st
  · subst hj
    refine ⟨?_, ?_⟩ <;> rw [h, State.onPort_get]
    · exact hp
    · exact hq
  · exact .of_eq (by rw [h, State.onPort_get_ne _ _ hj])

/-- A served READ SCAN is a reply, at the ports. -/
theorem serveScan_onPort (s : State) (st : Station) (tag : Byte) (q : ScanQuery) (i : Nat) :
    (s.serveScan st tag q i).ports = (s.onPort st (fun p => p.queueReply ⟨some .readScan, tag, .scan i q⟩)).ports := rfl

theorem Move.portStep {s t : State} (h : Move s t) (j : Station) : PortStep s t j := by
  cases h with
  | quiet h => exact .of_eq (by rw [h.ports])
  | offer n =>
    obtain ⟨-, hq, -, hp, -⟩ := Port.offer_kept n (s.ports.get j)
    refine ⟨?_, ?_⟩ <;> rw [State.offer_get]
    · rw [hp]; exact fun h => h
    · rw [hq]; exact Or.inl
  | endPending st b =>
    cases hr : (s.ports.get st).pending with
    | none => exact .of_eq (by simp [State.endPending, hr])
    | some r =>
      refine .onPort (st := st) (f := fun p => Port.queueReply { p with pending := none } ⟨some .readScan, r.tag, b⟩) ?_ ?_ ?_ j
      · simp [State.endPending, hr, State.reply]
      · exact fun h => h
      · exact fun h => absurd rfl h
  | reply r h => exact .onPort rfl (fun h => h) Or.inl j
  | makePending tag q m wait ha hu => exact .onPort rfl (fun h => h) (fun _ => Or.inr ⟨hu, ha.1⟩) j
  | @serveScan st tag q i ha hp hu hc =>
    exact .onPort (s := s) (t := s.serveScan st tag q i) (st := st) (f := fun p => p.queueReply ⟨some .readScan, tag, .scan i q⟩) rfl (fun h => h) Or.inl j
  | port st f h => exact .onPort rfl (h.present _) (by rw [h.pending]; exact Or.inl) j
  | resubscribe x h => exact .onPort rfl (fun h => h) Or.inl j
  | serve i st h =>
    obtain e | ⟨r, hr, e⟩ := servePending_cases s i st <;> rw [e]
    · exact .of_eq rfl
    · refine .onPort (st := st) (f := fun p => Port.queueReply { p with pending := none } ⟨some .readScan, r.tag, .scan i r.query⟩)
        ?_ ?_ ?_ j
      · rw [serveScan_onPort, State.onPort_onPort]
      · exact fun h => h
      · exact fun h => absurd rfl h
  | _ => exact .of_eq (by simp)

/-! ## Law 2 -/

/-- A change other than a new hold takes holders away at most. -/
theorem RingStep.holds {s t : State} (h : RingStep s t) {j : Nat} {st : Station} (ht : (t.ring.at j).holds.get st = true) :
    (s.ring.at j).holds.get st = true ∨ ((t.ports.get st).pending = none
      ∧ ((s.ports.get st).pending ≠ none ∨ Unheld s st ∧ (s.ports.get st).present = true)
      ∧ ∃ i, t.ring = s.ring.hold i st) := by
  cases h with
  | same h => exact Or.inl (h ▸ ht)
  | contents i f hi hf h =>
    have e : t.ring.at j = (s.ring.modify i f).at j := by simp only [Ring.at, h]
    rw [e, Ring.at_modify] at ht
    split at ht
    · next hij => obtain ⟨rfl, -⟩ := hij; rw [hf] at ht; exact Or.inl ht
    · exact Or.inl ht
  | taken r hr hu h =>
    rw [h, Ring.at_modify] at ht
    split at ht
    · rw [hr] at ht; cases st <;> cases ht
    · exact Or.inl ht
  | held i st' hc h hs htp =>
    by_cases hst : st = st'
    · subst hst; exact Or.inr ⟨htp, hs, i, h⟩
    · rw [h, Ring.hold, Ring.at_modify] at ht
      split at ht
      · rw [Four.get_set_ne _ _ hst] at ht; exact Or.inl ht
      · exact Or.inl ht

theorem heldAreComplete_move {s t : State} (h : Move s t) (hs : HeldAreComplete s) : HeldAreComplete t := by
  rw [heldAreComplete_iff] at hs ⊢
  intro j st ht
  cases h.ringStep with
  | same h => rw [h] at ht ⊢; exact hs j st ht
  | contents i f hi hf h =>
    have e : t.ring.at j = (s.ring.modify i f).at j := by simp only [Ring.at, h]
    rw [e, Ring.at_modify] at ht ⊢
    split at ht
    · next hij =>
      obtain ⟨rfl, -⟩ := hij
      rw [hf] at ht
      have hc := hs i st ht
      rw [(Ring.filling_some hi).2] at hc
      cases hc
    · next hij => rw [if_neg hij]; exact hs j st ht
  | taken r hr hu h =>
    rw [h, Ring.at_modify] at ht ⊢
    split at ht
    · rw [hr] at ht; cases st <;> cases ht
    · next hij => rw [if_neg hij]; exact hs j st ht
  | held i st' hc h hsp htp =>
    rw [h, Ring.hold_at_status]
    rw [h, Ring.hold, Ring.at_modify] at ht
    split at ht
    · next hij => obtain ⟨rfl, -⟩ := hij; exact hc
    · exact hs j st ht

theorem stationHolds_move {s t : State} (h : Move s t) {st : Station} (hs : StationHolds s st) : StationHolds t st := by
  have hring := h.ringStep
  obtain ⟨hpresent, hpending⟩ := h.portStep st
  have hunheld : (s.ports.get st).pending ≠ none ∨ Unheld s st ∧ (s.ports.get st).present = true → Unheld s st := by
    rintro (h | ⟨h, -⟩)
    · exact hs.unheld (Or.inr h)
    · exact h
  have hpres : (t.ports.get st).pending ≠ none → (t.ports.get st).present = true := fun hp => by
    obtain h | ⟨-, h⟩ := hpending hp
    · exact hpresent (hs.present h)
    · exact hpresent h
  refine ⟨fun i j hi hj => ?_, fun hp => ?_, hpres⟩
  · by_cases hold : ∃ k, t.ring = s.ring.hold k st ∧ Unheld s st
    · obtain ⟨k, e, hu⟩ := hold
      rw [unheld_iff_at] at hu
      have hk : ∀ j, (t.ring.at j).holds.get st = true → k = j := fun j hj => by
        rw [e, Ring.hold, Ring.at_modify] at hj
        split at hj
        · next h => exact h.1
        · rw [hu j] at hj; cases hj
      rw [← hk i hi, ← hk j hj]
    · have hsame : ∀ j, (t.ring.at j).holds.get st = true → (s.ring.at j).holds.get st = true := fun j hj => by
        obtain h | ⟨-, h, k, e⟩ := hring.holds hj
        · exact h
        · exact absurd ⟨k, e, hunheld h⟩ hold
      exact hs.once i j (hsame i hi) (hsame j hj)
  · have hu : Unheld s st := by
      obtain hp | hp := hp
      · refine hs.unheld (Or.inl ?_)
        by_contra hn
        simp [hpresent (by simpa using hn)] at hp
      · exact hunheld (hpending hp)
    rw [unheld_iff_at] at hu ⊢
    intro j
    by_contra hj
    obtain h | ⟨hn, hw, -⟩ := hring.holds (by simpa using hj)
    · rw [hu j] at h; cases h
    · obtain hp | hp := hp
      · have : (s.ports.get st).present = true := by
          obtain h | ⟨-, h⟩ := hw
          · exact hs.present h
          · exact h
        simp [hpresent this] at hp
      · exact hp hn

/-! ## The ends of holds -/

theorem Ring.release_at (g : Ring) (st : Station) (i : Nat) :
    (g.release st).at i = { g.at i with holds := (g.at i).holds.set st false } := by
  by_cases hi : i < g.records.length
  · simp [Ring.at, Ring.release, List.getD_eq_getElem?_getD, List.getElem?_eq_getElem hi]
  · simp only [Ring.at, Ring.release, List.getD_eq_getElem?_getD, List.getElem?_map, List.getElem?_eq_none (not_lt.mp hi)]
    cases st <;> rfl

theorem heldAreComplete_release {s t : State} {st : Station} (h : t.ring = s.ring.release st) (hs : HeldAreComplete s) :
    HeldAreComplete t := by
  rw [heldAreComplete_iff] at hs ⊢
  intro i st' hi
  rw [h, Ring.release_at] at hi ⊢
  by_cases hst : st' = st
  · subst hst; simp at hi
  · exact hs i st' (by rwa [Four.get_set_ne _ _ hst] at hi)

theorem heldAreComplete_of_ring {s t : State} (h : t.ring = s.ring) (hs : HeldAreComplete s) : HeldAreComplete t := by
  rw [HeldAreComplete, h]; exact hs

theorem unheld_restarted (s : State) (st : Station) : Unheld s.restarted st := fun r hr => by
  rw [List.eq_of_mem_replicate (show r ∈ List.replicate 8 ScanRecord.free from hr)]
  exact ScanRecord.free_holds st

theorem heldAreComplete_kept : Kept HeldAreComplete where
  move _ _ := heldAreComplete_move
  settle _ := heldAreComplete_of_ring (by simp)
  transmitted s st hs := by
    by_cases h : (s.ports.get st).sendsScan = true
    · exact heldAreComplete_release (by rw [transmitted_ring, if_pos h]) hs
    · exact heldAreComplete_of_ring (by rw [transmitted_ring, if_neg h]) hs
  removed _ _ := heldAreComplete_release rfl
  restarted s := heldAreComplete_iff.mpr fun i st h => by
    rw [unheld_iff_at.mp (unheld_restarted s st)] at h; cases h

/-- A station whose holds shrink, its request and its presence as they were. -/
theorem StationHolds.mono {s t : State} {st : Station} (hs : StationHolds s st)
    (hr : ∀ i, (t.ring.at i).holds.get st = true → (s.ring.at i).holds.get st = true)
    (hp : (t.ports.get st).present = (s.ports.get st).present) (hq : (t.ports.get st).pending = (s.ports.get st).pending) :
    StationHolds t st := by
  refine ⟨fun i j hi hj => hs.once i j (hr i hi) (hr j hj), fun h => ?_, fun h => ?_⟩
  · rw [hp, hq] at h
    have hu := hs.unheld h
    rw [unheld_iff_at] at hu ⊢
    intro i
    by_contra hi
    have := hr i (by simpa using hi)
    rw [hu i] at this; cases this
  · rw [hp]; exact hs.present (hq ▸ h)

theorem Ring.release_holds {g : Ring} {st j : Station} {i : Nat} (h : ((g.release st).at i).holds.get j = true) :
    (g.at i).holds.get j = true := by
  rw [Ring.release_at] at h
  by_cases hj : j = st
  · subst hj; simp at h
  · rwa [Four.get_set_ne _ _ hj] at h

theorem Port.lastCharacter_kept (p : Port) : p.lastCharacter.present = p.present ∧ p.lastCharacter.pending = p.pending := by
  simp only [Port.lastCharacter]; split
  · exact ⟨rfl, rfl⟩
  · exact ⟨rfl, rfl⟩
  · split <;> exact ⟨rfl, rfl⟩

theorem transmitted_ports (s : State) (st : Station) : (s.transmitted st).ports = (s.onPort st Port.lastCharacter).ports := by
  simp only [State.transmitted]; split <;> rfl

theorem transmitted_get (s : State) (st j : Station) :
    (s.transmitted st).ports.get j = if j = st then (s.ports.get st).lastCharacter else s.ports.get j := by
  rw [transmitted_ports]; split
  · next h => rw [h, State.onPort_get]
  · next h => rw [State.onPort_get_ne _ _ h]

theorem stationHolds_transmitted {s : State} (st : Station) {j : Station} (hs : StationHolds s j) :
    StationHolds (s.transmitted st) j := by
  refine hs.mono (fun i h => ?_) ?_ ?_
  · rw [transmitted_ring] at h
    split at h
    · exact Ring.release_holds h
    · exact h
  all_goals
    rw [transmitted_get]; split
    · next hj => subst hj; simp [Port.lastCharacter_kept]
    · rfl

theorem stationHolds_removed {s : State} (st : Station) {j : Station} (hs : StationHolds s j) :
    StationHolds (s.removed st) j := by
  by_cases hj : j = st
  · subst hj
    have hnone : ∀ i, ((s.removed j).ring.at i).holds.get j = false := fun i => by
      change ((s.ring.release j).at i).holds.get j = false
      rw [Ring.release_at]; exact Four.get_set_same ..
    have hpend : ((s.removed j).ports.get j).pending = none := by simp [State.removed, Port.tornDown, Port.reset]
    refine ⟨fun i k hi _ => ?_, fun _ => unheld_iff_at.mpr hnone, fun h => absurd hpend h⟩
    rw [hnone] at hi; cases hi
  · refine hs.mono (fun i h => Ring.release_holds h) ?_ ?_
    all_goals
      have : (s.removed st).ports.get j = s.ports.get j := State.onPort_get_ne s _ hj
      rw [this]

theorem holdsKept_kept : Kept HoldsKept where
  move s t h hs := by
    rw [holdsKept_iff] at hs ⊢
    exact ⟨heldAreComplete_move h hs.1, fun st => stationHolds_move h (hs.2 st)⟩
  settle s hs := by
    rw [holdsKept_iff] at hs ⊢
    refine ⟨heldAreComplete_kept.settle s hs.1, fun st => (hs.2 st).mono (fun i h => by simpa using h) ?_ ?_⟩
    all_goals rw [State.settle_get]; simp [Port.choose_kept]
  transmitted s st hs := by
    rw [holdsKept_iff] at hs ⊢
    exact ⟨heldAreComplete_kept.transmitted s st hs.1, fun j => stationHolds_transmitted st (hs.2 j)⟩
  removed s st hs := by
    rw [holdsKept_iff] at hs ⊢
    exact ⟨heldAreComplete_kept.removed s st hs.1, fun j => stationHolds_removed st (hs.2 j)⟩
  restarted s := by
    rw [holdsKept_iff]
    refine ⟨heldAreComplete_kept.restarted s, fun st => ⟨fun i j hi => ?_, fun _ => unheld_restarted s st, fun h => ?_⟩⟩
    · rw [unheld_iff_at.mp (unheld_restarted s st)] at hi; cases hi
    · cases st <;> exact absurd rfl h

/-! ## A held record is not picked -/

/-- With no record FILLING the ring has one to use again: each station holds one of the eight at most. -/
theorem exists_reusable {s : State} (hs : HoldsKept s) (hl : s.ring.records.length = 8) (hf : s.ring.filling = none)
    (ho : s.ring.records.findIdx? ScanRecord.open_ = none) : ∃ i < 8, (s.ring.at i).reusable = true := by
  rw [holdsKept_iff] at hs
  by_contra hn
  push Not at hn
  have hheld : ∀ i : Fin 8, ∃ st, (s.ring.at i).holds.get st = true := fun i => by
    have hmem : s.ring.at i ∈ s.ring.records := List.mem_of_getElem? (Ring.getElem?_at (by omega))
    have h1 := List.findIdx?_eq_none_iff.mp ho _ hmem
    have h2 := List.findIdx?_eq_none_iff.mp hf _ hmem
    have h3 := hn i i.isLt
    have hc : (s.ring.at i).status = .complete := by
      cases h : (s.ring.at i).status <;> simp_all [ScanRecord.open_]
    rw [← Four.any_iff_get]
    simpa [ScanRecord.reusable, hc] using h3
  choose f hf using hheld
  have hcode : Function.Injective Ix4.code := by
    intro a b; cases a <;> cases b <;> decide
  have hlt : ∀ st, Ix4.code st < 4 := fun st => by cases st <;> decide
  obtain ⟨i, j, hij, he⟩ := Fintype.exists_ne_map_eq_of_card_lt (fun i => (⟨Ix4.code (f i), hlt _⟩ : Fin 4)) (by simp)
  have he : f i = f j := hcode (Fin.mk.inj_iff.mp he)
  exact hij (Fin.ext ((hs.2 (f i)).once i j (hf i) (by rw [he]; exact hf j)))

theorem pick_unheld {s : State} (hs : HoldsKept s) (hfill : ScansFillOneRecord s) (hu : Unscanned s) (st : Station) :
    (s.ring.at s.ring.pick).holds.get st = false := by
  obtain ⟨hlen, hcount, hleg⟩ := hfill
  have hf : s.ring.filling = none := (fillingCount_eq_zero_iff _).mp (by simpa [hu hleg] using hcount)
  cases ho : s.ring.records.findIdx? ScanRecord.open_ with
  | some i =>
    rw [Ring.pick_of_open ho]
    obtain ⟨hlt, hopen, -⟩ := List.findIdx?_eq_some_iff_getElem.mp ho
    by_contra hn
    have hc := heldAreComplete_iff.mp hs.1 i st (by simpa using hn)
    have hat : s.ring.records[i] = s.ring.at i := (Ring.at_of_getElem? (List.getElem?_eq_getElem hlt)).symm
    rw [hat] at hopen
    simp [ScanRecord.open_, hc] at hopen
  | none =>
    obtain ⟨i, hi, hr⟩ := exists_reusable hs hlen hf ho
    obtain ⟨-, hpick, -⟩ := Ring.pick_oldest ho (by omega) hr
    by_contra hn
    have hany := (Four.any_iff_get _).mpr ⟨st, by simpa using hn⟩
    simp [ScanRecord.reusable, hany] at hpick

/-! ## A held record stays -/

/-- The record at an index is held by a station and is a given record but for its hold set. -/
def HeldAs (s : State) (st : Station) (i : Nat) (r : ScanRecord) : Prop :=
  (s.ring.at i).holds.get st = true ∧ { s.ring.at i with holds := r.holds } = r

/-- What a held record stays under. -/
def HoldLaws (s : State) : Prop := HoldsKept s ∧ ScansFillOneRecord s

theorem holdLaws_kept : Kept HoldLaws where
  move s t h hs := ⟨holdsKept_kept.move s t h hs.1, scansFill_kept.move s t h hs.2⟩
  settle s hs := ⟨holdsKept_kept.settle s hs.1, scansFill_kept.settle s hs.2⟩
  transmitted s st hs := ⟨holdsKept_kept.transmitted s st hs.1, scansFill_kept.transmitted s st hs.2⟩
  removed s st hs := ⟨holdsKept_kept.removed s st hs.1, scansFill_kept.removed s st hs.2⟩
  restarted s := ⟨holdsKept_kept.restarted s, scansFill_kept.restarted s⟩

theorem heldAs_move {s t : State} {st : Station} {i : Nat} {r : ScanRecord} (h : Move s t) (hs : HoldLaws s)
    (hr : HeldAs s st i r) : HeldAs t st i r := by
  obtain ⟨hheld, hsame⟩ := hr
  cases h.ringStep with
  | same h => rw [HeldAs, h]; exact ⟨hheld, hsame⟩
  | contents j f hj hf h =>
    have e : t.ring.at i = (s.ring.modify j f).at i := by simp only [Ring.at, h]
    have hij : ¬(j = i ∧ i < s.ring.records.length) := by
      rintro ⟨rfl, -⟩
      have hc := heldAreComplete_iff.mp hs.1.1 j st hheld
      rw [(Ring.filling_some hj).2] at hc
      cases hc
    rw [HeldAs, e, Ring.at_modify, if_neg hij]
    exact ⟨hheld, hsame⟩
  | taken x hx hu h =>
    have hij : ¬(s.ring.pick = i ∧ i < s.ring.records.length) := by
      rintro ⟨rfl, -⟩
      rw [pick_unheld hs.1 hs.2 hu] at hheld
      cases hheld
    rw [HeldAs, h, Ring.at_modify, if_neg hij]
    exact ⟨hheld, hsame⟩
  | held j st' hc h _ _ =>
    rw [HeldAs, h, Ring.hold, Ring.at_modify]
    split
    · refine ⟨?_, hsame⟩
      rw [Four.get_set]; split
      · rfl
      · exact hheld
    · exact ⟨hheld, hsame⟩

theorem heldAs_of_ring {s t : State} {st : Station} {i : Nat} {r : ScanRecord} (h : t.ring = s.ring) (hr : HeldAs s st i r) :
    HeldAs t st i r := by rw [HeldAs, h]; exact hr

/-- The end of another station's holds. -/
theorem heldAs_release {s t : State} {st j : Station} {i : Nat} {r : ScanRecord} (h : t.ring = s.ring.release j) (hj : st ≠ j)
    (hr : HeldAs s st i r) : HeldAs t st i r := by
  rw [HeldAs, h, Ring.release_at]
  exact ⟨by rw [Four.get_set_ne _ _ hj]; exact hr.1, hr.2⟩

theorem heldAs_moves {s t : State} {st : Station} {i : Nat} {r : ScanRecord} (h : Moves s t) (hs : HoldLaws s)
    (hr : HeldAs s st i r) : HeldAs t st i r :=
  (h.keeps (P := fun s => HoldLaws s ∧ HeldAs s st i r)
    (fun s t hm hp => ⟨holdLaws_kept.move s t hm hp.1, heldAs_move hm hp.1 hp.2⟩) ⟨hs, hr⟩).2

theorem heldAs_exec {c : Instr} {s t : State} {st : Station} {i : Nat} {r : ScanRecord} (h : exec c s = .next t)
    (hr : c ≠ .deviceReset) (hl : c ≠ .lastCharacterSent st) (hp : c ≠ .presenceTimerExpiry st) (hs : HoldLaws s)
    (hheld : HeldAs s st i r) : HeldAs t st i r := by
  cases exec_outcomes h hr with
  | settled u hm ht => exact ht ▸ heldAs_of_ring (by simp) (heldAs_moves hm hs hheld)
  | still hm _ => exact heldAs_moves hm hs hheld
  | transmitted j hc ht =>
    have hj : st ≠ j := fun e => hl (e ▸ hc)
    rw [ht]
    refine heldAs_of_ring (settle_ring _) ?_
    by_cases hscan : (s.ports.get j).sendsScan = true
    · exact heldAs_release (by rw [transmitted_ring, if_pos hscan]) hj hheld
    · exact heldAs_of_ring (by rw [transmitted_ring, if_neg hscan]) hheld
  | absent j u hc hm ht =>
    have hj : st ≠ j := fun e => hp (e ▸ hc)
    rw [ht]
    exact heldAs_of_ring (settle_ring _)
      (heldAs_moves hm (holdLaws_kept.removed s j hs) (heldAs_release (s := s) rfl hj hheld))

end Sys2Proof.Machine

namespace Sys2Proof.Safety

open Sys2Proof Sys2Proof.Machine

/-- Settles O58: a hold is of a COMPLETE record; a scan takes an unheld one, as four stations hold four of eight at most. -/
theorem keepsHeldRecordsComplete : Obligations.KeepsHeldRecordsComplete := by
  refine ⟨fun s t hs h => heldAreComplete_kept.step h hs, fun s t hs h => holdsKept_kept.step h hs, ?_⟩
  intro s t c rest st i r hholds hfill hpend hstep hr hl hp hget hheld
  rw [step_of_cons hpend] at hstep
  have hrest := (setPending_moves s rest).keeps holdLaws_kept.move ⟨hholds, hfill⟩
  have hi : i < t.ring.records.length := by
    rw [(holdLaws_kept.exec hstep hrest).2.1]
    have := (List.getElem?_eq_some_iff.mp hget).1
    rwa [hfill.1] at this
  have hat := Ring.at_of_getElem? hget
  obtain ⟨h1, h2⟩ := heldAs_exec (st := st) (i := i) (r := r) hstep hr hl hp hrest
    ⟨by rw [State.setPending_ring, hat]; exact hheld, by rw [State.setPending_ring, hat]⟩
  exact ⟨t.ring.at i, Ring.getElem?_at hi, h1, h2⟩

end Sys2Proof.Safety
end


section
/-! SUPPORT AND PROOF. The queues of the ports under every step (Law 9). -/

namespace Sys2Proof.Machine

open Sys2Proof Sys2Proof.Safety

/-! ## One port -/

/-- A transmitter that is sending has what it sends (R185). -/
def txHas (p : Port) : Prop :=
  match p.tx with
  | .idle => True
  | .reply => p.replies ≠ []
  | .notice => p.notices ≠ []

/-- Law 9 at a port whose transmitter may have its choice still to make. -/
structure PortFits (p : Port) : Prop where
  count : p.count ≤ 4
  kinds : (p.notices.map (fun e => e.content.kind)).Nodup
  followUps : ∀ e ∈ p.notices, followUpFits e = true
  tx : txHas p
  absent : p.present = false → p.replies = [] ∧ p.notices = [] ∧ p.pending = none ∧ p.sub = .reset

/-- Law 9 is its weaker form with the transmitter's choice made. -/
theorem portKept_iff (p : Port) : portKept p ↔ PortFits p ∧ p.choose = p := by
  have habsent : absentClean p = true ↔
      (p.present = false → p.replies = [] ∧ p.notices = [] ∧ p.pending = none ∧ p.sub = .reset) := by
    cases h : p.present <;> simp [absentClean, h, and_assoc]
  have htx : txFits p = true ↔ txHas p ∧ p.choose = p := by
    cases p with
    | mk rx gap present timer pend replies dropped tx sub notices =>
      cases tx <;> cases replies <;> cases notices <;> simp [txFits, txHas, Port.choose]
  constructor
  · rintro ⟨h1, h2, h3, h4, h5⟩
    obtain ⟨ht, hc⟩ := htx.mp h4
    exact ⟨⟨h1, h2, h3, ht, habsent.mp h5⟩, hc⟩
  · rintro ⟨⟨h1, h2, h3, h4, h5⟩, hc⟩
    exact ⟨h1, h2, h3, htx.mpr ⟨h4, hc⟩, habsent.mpr h5⟩

/-- A port with the queues, the request and the settings of another. -/
theorem PortFits.of_eq {p q : Port} (h : PortFits p) (hr : q.replies = p.replies) (hn : q.notices = p.notices)
    (hq : q.pending = p.pending) (ht : q.tx = p.tx) (hs : q.sub = p.sub) (hp : p.present = true → q.present = true) :
    PortFits q where
  count := by rw [Port.count, hr, hq]; exact h.count
  kinds := by rw [hn]; exact h.kinds
  followUps := by rw [hn]; exact h.followUps
  tx := by rw [txHas, ht, hr, hn]; exact h.tx
  absent := fun hq' => by
    rw [hr, hn, hq, hs]
    refine h.absent ?_
    by_contra hc
    simp [hp (by simpa using hc)] at hq'

theorem PortFits.choose {p : Port} (h : PortFits p) : PortFits p.choose := by
  obtain ⟨hr, hn, hq, hp, hs, -⟩ := p.choose_kept
  refine ⟨by rw [Port.count, hr, hq]; exact h.count, by rw [hn]; exact h.kinds, by rw [hn]; exact h.followUps, ?_,
    by rw [hp, hr, hn, hq, hs]; exact h.absent⟩
  have htx := h.tx
  cases p with
  | mk rx gap present timer pend replies dropped tx sub notices =>
    cases tx <;> cases replies <;> cases notices <;> simp_all [txHas, Port.choose]

/-! ## The notice queue -/

theorem replaceOrAppend_ne_nil (n : Notice) (l : List NoticeEntry) : replaceOrAppend n l ≠ [] := by
  cases l with
  | nil => simp [replaceOrAppend]
  | cons e rest => simp only [replaceOrAppend]; split <;> simp

theorem mem_replaceOrAppend {n : Notice} {l : List NoticeEntry} {e : NoticeEntry} (h : e ∈ replaceOrAppend n l) :
    e = ⟨n, none⟩ ∨ e ∈ l := by
  induction l with
  | nil => exact Or.inl (by simpa [replaceOrAppend] using h)
  | cons x rest ih =>
    simp only [replaceOrAppend] at h
    split at h
    · obtain h | h := List.mem_cons.mp h
      · exact Or.inl h
      · exact Or.inr (List.mem_cons_of_mem _ h)
    · obtain h | h := List.mem_cons.mp h
      · exact Or.inr (h ▸ List.mem_cons_self)
      · exact (ih h).imp id (List.mem_cons_of_mem _)

/-- A notice of a kind takes the place of the one waiting, so no kind comes twice (R192). -/
theorem replaceOrAppend_nodup {n : Notice} {l : List NoticeEntry} (h : (l.map (fun e => e.content.kind)).Nodup) :
    ((replaceOrAppend n l).map (fun e => e.content.kind)).Nodup := by
  induction l with
  | nil => simp [replaceOrAppend]
  | cons x rest ih =>
    rw [List.map_cons, List.nodup_cons] at h
    obtain ⟨hx, hrest⟩ := h
    simp only [replaceOrAppend]; split
    · next hk => rw [List.map_cons, List.nodup_cons, ← hk]; exact ⟨hx, hrest⟩
    · next hk =>
      rw [List.map_cons, List.nodup_cons]
      refine ⟨fun hm => ?_, ih hrest⟩
      obtain ⟨e, he, hek⟩ := List.mem_map.mp hm
      obtain rfl | he := mem_replaceOrAppend he
      · exact hk hek.symm
      · exact hx (List.mem_map.mpr ⟨e, he, hek⟩)

/-- A notice is taken by a PRESENT station alone (R190). -/
theorem Port.takes_present {p : Port} {n : Notice} (h : p.takes n = true) : p.present = true := by
  simp only [Port.takes, Bool.and_eq_true] at h; exact h.1.1

/-- A taken notice is at the head behind the entry being sent, or takes its place in the queue (R192, R193). -/
theorem Port.enqueue_cases (p : Port) (n : Notice) :
    p.enqueue n = { p with notices := replaceOrAppend n p.notices }
      ∨ ∃ e rest, p.notices = e :: rest ∧ ((e.content.kind = n.kind ∧ p.enqueue n = { p with notices := ⟨e.content, some n⟩ :: rest })
        ∨ (e.content.kind ≠ n.kind ∧ p.enqueue n = { p with notices := e :: replaceOrAppend n rest })) := by
  simp only [Port.enqueue]; split
  · next e rest ht hn =>
    refine Or.inr ⟨e, rest, hn, ?_⟩
    split
    · next hk => exact Or.inl ⟨hk, rfl⟩
    · next hk => exact Or.inr ⟨hk, rfl⟩
  · exact Or.inl rfl

/-- A port with another notice queue. -/
theorem PortFits.setNotices {p : Port} (h : PortFits p) (hp : p.present = true) {l : List NoticeEntry} (hl : l ≠ [])
    (hk : (l.map (fun e => e.content.kind)).Nodup) (hf : ∀ e ∈ l, followUpFits e = true) : PortFits { p with notices := l } where
  count := h.count
  kinds := hk
  followUps := hf
  tx := by
    have ht := h.tx
    cases htx : p.tx <;> simp_all [txHas]
  absent := fun ha => by simp [hp] at ha

theorem PortFits.enqueue {p : Port} (h : PortFits p) (n : Notice) (hp : p.present = true) : PortFits (p.enqueue n) := by
  have hnew : followUpFits ⟨n, none⟩ = true := rfl
  have hk := h.kinds
  have hf := h.followUps
  obtain e | ⟨e, rest, hn, ⟨hkind, eq⟩ | ⟨hkind, eq⟩⟩ := p.enqueue_cases n
  · rw [e]
    refine h.setNotices hp (replaceOrAppend_ne_nil _ _) (replaceOrAppend_nodup hk) fun e he => ?_
    obtain rfl | he := mem_replaceOrAppend he
    · exact hnew
    · exact hf e he
  · rw [eq]
    rw [hn] at hk hf
    refine h.setNotices hp (by simp) hk fun x hx => ?_
    obtain rfl | hx := List.mem_cons.mp hx
    · simp [followUpFits, hkind]
    · exact hf x (List.mem_cons_of_mem _ hx)
  · rw [eq]
    rw [hn] at hk hf
    rw [List.map_cons, List.nodup_cons] at hk
    refine h.setNotices hp (by simp) ?_ fun x hx => ?_
    · rw [List.map_cons, List.nodup_cons]
      refine ⟨fun hm => ?_, replaceOrAppend_nodup hk.2⟩
      obtain ⟨x, hx, hxk⟩ := List.mem_map.mp hm
      obtain rfl | hx := mem_replaceOrAppend hx
      · exact hkind hxk.symm
      · exact hk.1 (List.mem_map.mpr ⟨x, hx, hxk⟩)
    · obtain rfl | hx := List.mem_cons.mp hx
      · exact hf _ List.mem_cons_self
      · obtain rfl | hx := mem_replaceOrAppend hx
        · exact hnew
        · exact hf x (List.mem_cons_of_mem _ hx)

theorem PortFits.offer {p : Port} (h : PortFits p) (n : Notice) : PortFits (Port.offer n p) := by
  simp only [Port.offer]; split
  · next ht => exact h.enqueue n (Port.takes_present ht)
  · exact h

/-! ## The reply queue and the request -/

theorem PortFits.queueReply {p : Port} (h : PortFits p) (hp : p.present = true) (hc : p.count < 4) (r : Reply) :
    PortFits (p.queueReply r) where
  count := by simp only [Port.count, Port.queueReply, List.length_append, List.length_singleton] at hc ⊢; omega
  kinds := h.kinds
  followUps := h.followUps
  tx := by
    have ht := h.tx
    cases htx : p.tx <;> simp_all [txHas, Port.queueReply]
  absent := fun ha => by simp [Port.queueReply, hp] at ha

/-- A pending request becomes its reply: the port's count stays (R184). -/
theorem PortFits.endPending {p : Port} (h : PortFits p) {r : PendingRead} (hr : p.pending = some r) (x : Reply) :
    PortFits (Port.queueReply { p with pending := none } x) := by
  have hp : p.present = true := by
    by_contra hn
    simp [(h.absent (by simpa using hn)).2.2.1] at hr
  have hc : p.count ≤ 4 := h.count
  have hcount : (Port.count { p with pending := none }) < 4 := by simp [Port.count, hr] at hc ⊢; omega
  refine PortFits.queueReply ⟨hcount.le, h.kinds, h.followUps, h.tx, ?_⟩ hp hcount x
  exact fun ha => absurd (hp.symm.trans ha) (by simp)

theorem PortFits.makePending {p : Port} (h : PortFits p) (ha : p.admits) (r : PendingRead) :
    PortFits { p with pending := some r } where
  count := by
    have hc := ha.2
    have := Nat.zero_le p.pending.isSome.toNat
    simp only [Port.count, Option.isSome_some, Bool.toNat_true] at hc ⊢; omega
  kinds := h.kinds
  followUps := h.followUps
  tx := h.tx
  absent := fun hn => by simp [ha.1] at hn

/-- An entry stays under a new subscription (R194). -/
def Subscription.leaves (x : Subscription) (e : NoticeEntry) : Bool :=
  e.content.kind == .breakState || x.includes e.content.kind

/-- A SUBSCRIBE removes what leaves the mask, but an entry being sent loses its follow-up alone (R194). -/
theorem Port.resubscribe_cases (p : Port) (x : Subscription) :
    p.resubscribe x = { p with sub := x, notices := p.notices.filter x.leaves } ∧ (p.tx = .notice → p.notices = [])
      ∨ ∃ e rest, p.notices = e :: rest ∧ p.resubscribe x = { p with
          sub := x, notices := (if x.leaves e then e else { e with followUp := none }) :: rest.filter x.leaves } := by
  cases p with
  | mk rx gap present timer pend replies dropped tx sub notices =>
    cases tx with
    | idle => exact Or.inl ⟨rfl, by simp⟩
    | reply => exact Or.inl ⟨rfl, by simp⟩
    | notice =>
      cases notices with
      | nil => exact Or.inl ⟨rfl, fun _ => rfl⟩
      | cons e rest => exact Or.inr ⟨e, rest, rfl, rfl⟩

/-- The entries that a new mask leaves are some of the entries (R194). -/
theorem PortFits.resubscribe {p : Port} (h : PortFits p) (hp : p.present = true) (x : Subscription) :
    PortFits (p.resubscribe x) := by
  have hk := h.kinds
  have hf := h.followUps
  have htx := h.tx
  have hfilter : ∀ l : List NoticeEntry, (l.map (fun e => e.content.kind)).Nodup →
      ((l.filter x.leaves).map (fun e => e.content.kind)).Nodup := fun l hl => hl.sublist (List.filter_sublist.map _)
  obtain ⟨eq, hn⟩ | ⟨e, rest, hn, eq⟩ := p.resubscribe_cases x <;> rw [eq]
  · refine ⟨h.count, hfilter _ hk, fun e he => hf e (List.mem_of_mem_filter he), ?_, fun ha => by simp [hp] at ha⟩
    cases ht : p.tx <;> simp_all [txHas]
  · rw [hn] at hk hf
    rw [List.map_cons, List.nodup_cons] at hk
    have hcontent : (if x.leaves e = true then e else { e with followUp := none }).content = e.content := by split <;> rfl
    refine ⟨h.count, ?_, fun y hy => ?_, ?_, fun ha => by simp [hp] at ha⟩
    · rw [List.map_cons, List.nodup_cons, hcontent]
      refine ⟨fun hm => hk.1 ?_, hfilter _ hk.2⟩
      obtain ⟨y, hy, hyk⟩ := List.mem_map.mp hm
      exact List.mem_map.mpr ⟨y, List.mem_of_mem_filter hy, hyk⟩
    · obtain rfl | hy := List.mem_cons.mp hy
      · split
        · exact hf _ List.mem_cons_self
        · rfl
      · exact hf y (List.mem_cons_of_mem _ (List.mem_of_mem_filter hy))
    · cases ht : p.tx <;> simp_all [txHas]

/-- The telegram sent leaves its queue; a follow-up content goes to the back (R185, R193). -/
theorem PortFits.lastCharacter {p : Port} (h : PortFits p) : PortFits p.lastCharacter := by
  have hk := h.kinds
  have hf := h.followUps
  have habsent := h.absent
  have hc : p.count ≤ 4 := h.count
  simp only [Port.lastCharacter]; split
  · exact h
  · refine ⟨?_, hk, hf, trivial, fun ha => ?_⟩
    · simp only [Port.count, List.length_tail] at hc ⊢; omega
    · obtain ⟨hr, hrest⟩ := habsent ha
      exact ⟨by simp [hr], hrest⟩
  · split
    · exact ⟨hc, hk, hf, trivial, habsent⟩
    · next e rest hn =>
      have hpresent : p.present = true := by
        by_contra hp
        simp [(habsent (by simpa using hp)).2.1] at hn
      rw [hn] at hk hf
      rw [List.map_cons, List.nodup_cons] at hk
      have hrest : ∀ y ∈ rest, followUpFits y = true := fun y hy => hf y (List.mem_cons_of_mem _ hy)
      have he : followUpFits e = true := hf e List.mem_cons_self
      cases hfu : e.followUp with
      | none => exact ⟨hc, hk.2, hrest, trivial, fun ha => absurd (hpresent.symm.trans ha) (by simp)⟩
      | some n =>
        have hkind : n.kind = e.content.kind := by simpa [followUpFits, hfu] using he
        refine ⟨hc, ?_, fun y hy => ?_, trivial, fun ha => absurd (hpresent.symm.trans ha) (by simp)⟩
        · dsimp only
          rw [List.map_append, List.map_singleton, hkind]
          exact (List.nodup_append_comm).mp (List.nodup_cons.mpr hk)
        · obtain hy | hy := List.mem_append.mp hy
          · exact hrest y hy
          · obtain rfl := List.mem_singleton.mp hy; rfl

theorem portFits_reset : PortFits .reset := ⟨by decide, by simp [Port.reset], by simp [Port.reset], trivial, fun _ => ⟨rfl, rfl, rfl, rfl⟩⟩

theorem PortFits.tornDown (p : Port) : PortFits p.tornDown :=
  portFits_reset.of_eq rfl rfl rfl rfl rfl (fun h => h)

/-! ## All ports -/

/-- Law 9 but for the transmitters' choice. -/
def PortsFit (s : State) : Prop := ∀ st, PortFits (s.ports.get st)

theorem portQueues_iff (s : State) : PortQueues s ↔ PortsFit s ∧ Settled s := by
  have hchoose : Settled s ↔ ∀ st, (s.ports.get st).choose = s.ports.get st := by
    refine ⟨fun h st => by rw [← State.settle_get, h], fun h => ?_⟩
    have e : s.ports.map Port.choose = s.ports := Four.ext_get fun st => by rw [Four.get_map, h]
    rw [Settled, State.settle, State.onPorts, e]; rfl
  rw [hchoose, PortsFit, ← forall_and]
  exact forall_congr' fun st => portKept_iff _

theorem PortsFit.of_ports {s t : State} (h : t.ports = s.ports) (hs : PortsFit s) : PortsFit t := by
  rw [PortsFit, h]; exact hs

theorem PortsFit.onPort {s t : State} {st : Station} {f : Port → Port} (hs : PortsFit s) (h : t.ports = (s.onPort st f).ports)
    (hf : PortFits (f (s.ports.get st))) : PortsFit t := by
  intro j
  rw [h]
  by_cases hj : j = st
  · rw [hj, State.onPort_get]; exact hf
  · rw [State.onPort_get_ne _ _ hj]; exact hs j

theorem portsFit_move {s t : State} (h : Move s t) (hs : PortsFit s) : PortsFit t := by
  cases h with
  | quiet h => exact .of_ports h.ports hs
  | offer n => exact fun st => by rw [State.offer_get]; exact (hs st).offer n
  | endPending st b =>
    cases hr : (s.ports.get st).pending with
    | none => simpa [State.endPending, hr] using hs
    | some r =>
      refine hs.onPort (st := st) (f := fun p => Port.queueReply { p with pending := none } ⟨some .readScan, r.tag, b⟩) ?_
        ((hs st).endPending hr _)
      simp [State.endPending, hr, State.reply]
  | reply r h => exact hs.onPort rfl ((hs _).queueReply h.1 h.2 r)
  | makePending tag q m wait ha hu => exact hs.onPort rfl ((hs _).makePending ha _)
  | @serveScan st tag q i ha hp hu hc =>
    exact hs.onPort (serveScan_onPort s st tag q i) ((hs st).queueReply ha.1 ha.2 _)
  | port st f h =>
    exact hs.onPort rfl ((hs st).of_eq (h.replies _) (h.notices _) (h.pending _) (h.tx _) (h.sub _) (h.present _))
  | resubscribe x h => exact hs.onPort rfl ((hs _).resubscribe h x)
  | serve i st h =>
    obtain e | ⟨r, hr, e⟩ := servePending_cases s i st <;> rw [e]
    · exact hs
    · refine hs.onPort (st := st)
        (f := fun p => Port.queueReply { p with pending := none } ⟨some .readScan, r.tag, .scan i r.query⟩) ?_
        ((hs st).endPending hr _)
      rw [serveScan_onPort, State.onPort_onPort]
  | _ => exact .of_ports (by simp) hs

theorem portsFit_kept : Kept PortsFit where
  move _ _ := portsFit_move
  settle s hs := fun st => by rw [State.settle_get]; exact (hs st).choose
  transmitted s st hs := hs.onPort (transmitted_ports s st) (hs st).lastCharacter
  removed s st hs := hs.onPort (st := st) rfl (.tornDown _)
  restarted s := fun st => by cases st <;> exact portFits_reset

/-- A command keeps every transmitter's choice made. -/
theorem settled_exec {c : Instr} {s t : State} (h : exec c s = .next t) (hs : Settled s) : Settled t := by
  by_cases hr : c = .deviceReset
  · subst hr
    cases h
    exact State.settle_settle _
  · cases exec_outcomes h hr with
    | settled u _ ht => rw [ht]; exact State.settle_settle u
    | still _ ht => exact ht hs
    | transmitted st _ ht => rw [ht]; exact State.settle_settle _
    | absent st u _ _ ht => rw [ht]; exact State.settle_settle u

theorem settled_step {s t : State} (h : step s = .next t) (hs : Settled s) : Settled t := by
  cases hp : s.pending with
  | nil =>
    rw [step_of_nil hp] at h
    cases h
    exact settled_of_ports (s := s) rfl hs
  | cons c rest =>
    rw [step_of_cons hp] at h
    exact settled_exec h (settled_of_ports (s := s) rfl hs)

end Sys2Proof.Machine

namespace Sys2Proof.Safety

open Sys2Proof Sys2Proof.Machine

/-- Settles O59: every change keeps the queues, and a command ends with the transmitters' choice where it could be due. -/
theorem keepsPortQueues : Obligations.KeepsPortQueues := by
  intro s t hs h
  rw [portQueues_iff] at hs ⊢
  exact ⟨portsFit_kept.step h hs.1, settled_step h hs.2⟩

end Sys2Proof.Safety
end


section
/-! SUPPORT AND PROOF. The head under the break hold under every step (Law 7). -/

namespace Sys2Proof.Machine

open Sys2Proof Sys2Proof.Safety

/-! ## The scan in progress is on its leg -/

theorem ScanOnLeg.of_none {s : State} (h : s.head.scan = none) : ScanOnLeg s := fun hs => by simp [h] at hs

theorem ScanOnLeg.of_head {s t : State} (h : t.head = s.head) (hs : ScanOnLeg s) : ScanOnLeg t := by
  rw [ScanOnLeg, h]; exact hs

theorem scanOnLeg_move {s t : State} (h : Move s t) (hs : ScanOnLeg s) : ScanOnLeg t := by
  cases h with
  | quiet h =>
    obtain e | hu := h.state
    · rw [ScanOnLeg, h.scan, e]; exact hs
    · exact .of_none (by rw [h.scan]; exact hu hs)
  | void => exact .of_none (by simp)
  | startScan dir a hu => exact fun _ => by rw [startScan_head_state]; cases dir <;> rfl
  | close i h => exact .of_none (by simp)
  | scanOver h => exact .of_none rfl
  | _ => exact .of_head (by simp) hs

theorem scanOnLeg_kept : Kept ScanOnLeg where
  move _ _ := scanOnLeg_move
  settle _ := .of_head (by simp)
  transmitted _ _ := .of_head (by simp)
  removed _ _ hs := hs
  restarted _ := .of_none rfl

/-! ## The head where the break hold has it -/

/-- Under the break hold the head is HOMING, PARKED, RETURNING or FAULT. -/
def HeadHeld (s : State) : Prop := s.holdPresent = true → heldState s.head.state = true

theorem HeadHeld.of_state {s : State} (h : heldState s.head.state = true) : HeadHeld s := fun _ => h

theorem HeadHeld.of_not {s : State} (h : s.holdPresent = false) : HeadHeld s := fun hn => by simp [h] at hn

theorem holdPresent_of_brk {s t : State} (h : t.brk.state = s.brk.state) : t.holdPresent = s.holdPresent := by
  simp [State.holdPresent, h]

/-- The break state stays; a head that the hold admits stays one. -/
theorem HeadHeld.of_brk {s t : State} (hs : HeadHeld s) (hb : t.brk.state = s.brk.state)
    (hh : s.holdPresent = true → heldState s.head.state = true → heldState t.head.state = true) : HeadHeld t := fun ht => by
  rw [holdPresent_of_brk hb] at ht
  exact hh ht (hs ht)

/-- The break state and the head state stay. -/
theorem HeadHeld.same {s t : State} (hs : HeadHeld s) (hb : t.brk.state = s.brk.state := by simp)
    (hh : t.head.state = s.head.state := by simp) : HeadHeld t := hs.of_brk hb fun _ h => hh ▸ h

theorem HeadHeld.ite {s u : State} {p : Prop} [Decidable p] (hs : HeadHeld s) (h : p → HeadHeld u) :
    HeadHeld (if p then u else s) := by
  split
  · exact h ‹_›
  · exact hs

/-! ## The head -/

theorem redecideIfParked_held {s : State} (hs : HeadHeld s) : HeadHeld s.redecideIfParked :=
  hs.of_brk (by simp) fun hold h => by rwa [(redecideIfParked_head_of_hold hold).1]

theorem stdEnded_held {s : State} (hs : HeadHeld s) : HeadHeld s.stdEnded :=
  hs.of_brk (by simp) fun _ h => by
    rw [stdEnded_of_ne]
    · exact h
    · intro hn; rw [hn] at h; cases h

theorem beginReturning_held (s : State) (g : Grant) : HeadHeld (s.beginReturning g) := fun h => by
  rw [holdPresent_of_brk (s := s) (by simp)] at h
  exact (beginReturning_of_hold g h).1

theorem arriveParked_held (s : State) : HeadHeld s.arriveParked := fun h => by
  rw [holdPresent_of_brk (s := s) (by simp)] at h
  rw [arriveParked_head_of_hold h]; rfl

theorem reaim_held {s : State} (hs : HeadHeld s) : HeadHeld s.reaim :=
  hs.of_brk (by simp) fun _ h => by
    rw [reaim_of_ne]
    · exact h
    · intro hn; rw [hn] at h; cases h

@[simp] theorem stdAbort_head_state (s : State) : s.stdAbort.head.state = s.head.state := by
  simp only [State.stdAbort, State.abortRefOut]; split
  · rfl
  · split <;> simp

/-- The entry to FAULT ends in FAULT, whatever its activation does. -/
theorem faultEntryWith_state {act : State → State} (hact : ∀ s, Away s → SameHead s (act s)) (cause : FaultCause) (s : State) :
    (s.faultEntryWith act cause).head.state = .fault := by
  rw [faultEntryWith_eq]
  have h := scanAbortWith_sameState hact (s := s.faulted cause) (by simp [Away])
  simpa using h

theorem faultEntry_held (s : State) (cause : FaultCause) : HeadHeld (s.faultEntry cause) :=
  .of_state (by rw [State.faultEntry, faultEntryWith_state fun s h => activatePending_sameHead h]; rfl)

theorem faultUnlessFaulted_held {s : State} (cause : FaultCause) (hs : HeadHeld s) : HeadHeld (s.faultUnlessFaulted cause) := by
  simp only [State.faultUnlessFaulted]; split
  · exact hs
  all_goals exact faultEntry_held s cause

/-- A head that a claim moves comes to where the hold admits it; any other stays. -/
theorem claimTakesEffectWith_held (act : State → State) {s : State} (hs : HeadHeld s) : HeadHeld (s.claimTakesEffectWith act) := by
  simp only [State.claimTakesEffectWith]; split
  · exact beginReturning_held _ _
  · exact beginReturning_held _ _
  · exact beginReturning_held _ _
  · exact .of_state (by simp [State.enterHead, State.grantTo, heldState])
  · exact hs.same (hh := rfl)
  · exact hs.same (hh := rfl)
  · exact hs
  · exact hs

/-- A claim leaves the head where the hold admits it, if it is one of the states that a claim leaves or moves. -/
theorem claimTakesEffectWith_heldState {act : State → State} {s : State} (hact : ∀ t, (act t).brk.state = t.brk.state)
    (h : s.holdPresent = true) : heldState (s.claimTakesEffectWith act).head.state = true
      ∧ (s.claimTakesEffectWith act).brk.state = s.brk.state := by
  have habort : ∀ t : State, (t.scanAbortWith act).brk.state = t.brk.state := fun t => by
    cases hs : t.head.scan with
    | none => rw [scanAbortWith_of_none _ hs]
    | some x => rw [scanAbortWith_of_some _ hs, hact]; simp
  simp only [State.claimTakesEffectWith]; split
  · refine ⟨(beginReturning_of_hold _ ?_).1, by simp [habort]⟩
    rwa [holdPresent_of_brk (s := s) (by simp [habort])]
  · exact ⟨(beginReturning_of_hold _ h).1, by simp⟩
  · exact ⟨(beginReturning_of_hold _ (by rwa [holdPresent_of_brk (s := s) (by simp)])).1, by simp⟩
  · exact ⟨by simp [State.enterHead, State.grantTo, heldState], by simp⟩
  · next hst => exact ⟨by simp [State.grantTo, hst, heldState], by simp⟩
  · next hst => exact ⟨by simp [State.grantTo, hst, heldState], by simp⟩
  · next hst => exact ⟨by simp [hst, heldState], rfl⟩
  · next hst => exact ⟨by simp [hst, heldState], rfl⟩

/-! ## The break states -/

theorem recoveringEntry_held (s : State) : HeadHeld s.recoveringEntry :=
  .of_not (by simp [recoveringEntry_eq, State.holdPresent, Supervisor.recovering])

theorem threadingExpiry_held {s : State} (hs : HeadHeld s) : HeadHeld s.threadingExpiry := by
  simp only [State.threadingExpiry]; split
  · exact recoveringEntry_held _
  · exact hs.same

theorem threadingEntry_held {s : State} (h : heldState s.head.state = true) : HeadHeld s.threadingEntry := by
  have ht : HeadHeld (s.setBrk (s.brk.threading s.recipe.brk.threadingHold)).breakNotice := .of_state (by simpa using h)
  simp only [threadingEntry_eq]; split
  · exact threadingExpiry_held ht
  · exact ht

theorem judgeThreading_held {s : State} (hs : HeadHeld s) : HeadHeld s.judgeThreading := by
  simp only [State.judgeThreading]
  exact hs.ite fun h => threadingEntry_held (hs (by simp [State.holdPresent, h.1]))

theorem breakEntryWith_held {act : State → State} (hact : ∀ t, (act t).brk.state = t.brk.state) (absent : Bool) (s : State) :
    HeadHeld (s.breakEntryWith act absent) := by
  have h := claimTakesEffectWith_heldState hact (s := s.setBrk (s.brk.broken absent)) (by simp [State.holdPresent, Supervisor.broken])
  rw [breakEntryWith_eq]
  exact judgeThreading_held (.of_state (by simpa using h.1))

theorem addCauses_held {s : State} (trips : PerDetector Bool) (hs : HeadHeld s) : HeadHeld (s.addCauses trips) :=
  hs.same (by simp [State.addCauses])

theorem judgeDetectorsWith_held {entry : State → State} (hentry : ∀ s, HeadHeld (entry s)) (trips clears : PerDetector Bool)
    {s : State} (hs : HeadHeld s) : HeadHeld (s.judgeDetectorsWith entry trips clears) := by
  obtain e | ⟨-, -, e⟩ | ⟨-, -, e⟩ | ⟨-, e⟩ := judgeDetectorsWith_cases entry trips clears s <;> rw [e]
  · exact hs
  · exact hentry s
  · exact addCauses_held trips hs
  · exact judgeThreading_held hs

theorem judgeActivationWith_held {entry : State → State} (hentry : ∀ s, HeadHeld (entry s)) (trips clears : PerDetector Bool)
    {s : State} (hs : HeadHeld s) : HeadHeld (s.judgeActivationWith entry trips clears) := by
  obtain ⟨-, -, e⟩ | ⟨-, -, e⟩ | ⟨-, e⟩ := judgeActivationWith_cases entry trips clears s <;> rw [e]
  · exact recoveringEntry_held s
  · exact hentry s
  · exact judgeDetectorsWith_held hentry trips clears hs

/-! ## Activation -/

theorem activate_held {s : State} (i : SlotNo) (hs : HeadHeld s) : HeadHeld (s.activate i) := by
  have hjudge : ∀ a b t, HeadHeld t → HeadHeld (State.judgeActivationWith (State.breakEntryWith id false) a b t) := fun a b _ ht =>
    judgeActivationWith_held (fun s => breakEntryWith_held (fun _ => rfl) false s) a b ht
  have ht := hjudge (newTrips (s.activated i).brk.det (s.activated i).rejudged) (newClears (s.activated i).brk.det (s.activated i).rejudged)
    ((s.activated i).setBrk { (s.activated i).brk with det := (s.activated i).rejudged }) hs.same
  simp only [State.activate, activateWith_eq]
  exact reaim_held (redecideIfParked_held ht.same)

theorem activatePending_held {s : State} (hs : HeadHeld s) : HeadHeld s.activatePending := by
  simp only [State.activatePending]; split
  · exact hs
  · exact activate_held _ hs

/-- An activation inside an entry to BREAK changes the causes and the detectors alone. -/
theorem activateInEntry_brk_state (s : State) : s.activateInEntry.brk.state = s.brk.state := by
  have hjudge : ∀ a b (t : State), (t.judgeInEntry a b).brk.state = t.brk.state := fun a b t => by
    simp only [State.judgeInEntry]; split
    · simp [State.addCauses]
    · rfl
  simp only [State.activateInEntry]; split
  · rfl
  · simp [activateWith_eq, hjudge]

theorem breakEntry_held (s : State) (absent : Bool) : HeadHeld (s.breakEntry absent) :=
  breakEntryWith_held activateInEntry_brk_state absent s

theorem parkTakesEffect_held {s : State} (hs : HeadHeld s) : HeadHeld s.parkTakesEffect := claimTakesEffectWith_held _ hs

/-! ## Slots -/

theorem absentWindowEnd_held {s : State} (hs : HeadHeld s) : HeadHeld s.absentWindowEnd := by
  have hn : HeadHeld s.absentNextWindow := hs.same
  simp only [State.absentWindowEnd]; split
  · split
    · exact hn.ite fun _ => breakEntry_held _ _
    · exact hn.ite fun _ => breakEntry_held _ _
    all_goals exact hn
  · exact hs

theorem takeSample_held {s : State} (t : Option SampleTelegram) (hs : HeadHeld s) : HeadHeld (s.takeSample t) := by
  cases t with
  | none => exact hs
  | some y =>
    simp only [State.takeSample]; split
    · exact absentWindowEnd_held hs.same
    · exact hs.same

@[simp] theorem stdCommit_head_state (s : State) : s.stdCommit.head.state = s.head.state := by
  simp [State.stdCommit, State.consumeStd]

@[simp] theorem stdFail_head_state (s : State) : s.stdFail.head.state = s.head.state := by
  simp [State.stdFail, State.consumeStd]

theorem withdrawEnd_held {s : State} (hs : HeadHeld s) : HeadHeld s.withdrawEnd := by
  simp only [State.withdrawEnd]; split
  · exact stdEnded_held hs.same
  · split
    · exact faultEntry_held _ _
    · exact stdEnded_held hs.same

theorem stdSlot_held {s : State} (raw : Option RawSample) (hs : HeadHeld s) : HeadHeld (s.stdSlot raw) := by
  simp only [State.stdSlot]; split
  · exact hs
  · exact hs.same
  · split
    · exact hs.same
    · exact hs.ite fun _ => hs.same
  · exact hs.ite fun _ => withdrawEnd_held hs

theorem linkLost_held {s : State} (hs : HeadHeld s) : HeadHeld s.linkLost := by
  simp only [State.linkLost]; split
  · exact hs.same
  · exact stdEnded_held hs.same

theorem linkWindowEnd_held {s : State} (hs : HeadHeld s) : HeadHeld s.linkWindowEnd := by
  have htold : HeadHeld s.windowTold := by
    simp only [State.windowTold]; split <;> exact hs.same
  by_cases h : 64 ≤ s.link.slotCount
  · rw [linkWindowEnd_eq h]
    exact htold.ite fun _ => linkLost_held htold
  · rw [State.linkWindowEnd_of_lt (by omega)]; exact hs

theorem pointPeriodEnd_held {s : State} (hs : HeadHeld s) : HeadHeld s.pointPeriodEnd :=
  hs.of_brk (by simp) fun _ h => by
    simp only [State.pointPeriodEnd]; split
    · next hp _ => rw [hp] at h; cases h
    · exact h

theorem declareSlot_held {s : State} (d : SlotDecl) (hs : HeadHeld s) : HeadHeld (s.declareSlot d) :=
  pointPeriodEnd_held (linkWindowEnd_held (stdSlot_held _ (takeSample_held _ hs.same)))

/-! ## Arrivals -/

theorem tallied_held {s : State} (dir : ScanDir) (hs : HeadHeld s) : HeadHeld (s.tallied dir) := by
  have hstd : HeadHeld (s.completeRecord dir).completeStd := hs.same
  have hrec : HeadHeld (s.completeRecord dir).completeStd.completeRecovery := by
    simp only [State.completeRecovery]; split
    · split
      · exact .of_not (by simp [State.holdPresent])
      · exact hstd.same
    · exact hstd
  exact HeadHeld.same (s := (s.completeRecord dir).completeStd.completeRecovery) hrec
    (by simp [State.tallied]) (by simp [State.tallied])

/-- A completion decides with the head still on its leg, where the break hold is absent. -/
theorem completeScan_held {s : State} (dir : ScanDir) (hs : HeadHeld s) : HeadHeld (s.completeScan dir) := by
  have ht : HeadHeld (s.tallied dir).activatePending := activatePending_held (tallied_held dir hs)
  by_cases hl : ∃ l, (s.tallied dir).activatePending.head.state = .scanning l
  · obtain ⟨l, hl⟩ := hl
    rw [completeScan_of_scanning hl]
    exact ht.of_brk (by simp) fun _ h => by rw [hl] at h; cases h
  · rw [completeScan_of_not_scanning (fun l h => hl ⟨l, h⟩)]
    exact ht

theorem arrival_held {s : State} (hs : HeadHeld s) : HeadHeld s.arrival := by
  have hnone : ∀ t : State, t.brk.state = s.brk.state → heldState s.head.state = false → HeadHeld t := fun t hb hst =>
    hs.of_brk hb fun _ h => by rw [hst] at h; cases h
  simp only [State.arrival]
  split
  · next h => exact hs.ite fun _ => hnone _ (by simp) (by rw [h]; rfl)
  iterate 2
    split
    · exact hs.ite fun _ => completeScan_held _ hs
    · exact hs.ite fun _ => completeScan_held _ hs
    · exact hs
  · next h => exact hs.ite fun _ => hnone _ (by simp) (by rw [h]; rfl)
  · exact hs.ite fun _ => arriveParked_held s
  all_goals exact hs

/-! ## Requests -/

theorem serveMode_held {s : State} (st : Station) (tag : Byte) (p : List Byte) (hs : HeadHeld s) : HeadHeld (s.serveMode st tag p) := by
  have hset : ∀ m c, HeadHeld ((s.setSlot st m).modeReply st tag c) := fun m c => hs.same (hh := by simp [State.setSlot])
  simp only [State.serveMode]; split
  · exact redecideIfParked_held (hset _ _)
  · exact redecideIfParked_held (parkTakesEffect_held (hset _ _))
  · exact redecideIfParked_held (HeadHeld.same (hset .standardize .ok))
  · simp only [State.modePoint]; split
    · exact hs.same
    · exact redecideIfParked_held (hset _ _)
  · exact hs.same

theorem homingBegun_held {s : State} (h : heldState s.head.state = true) : HeadHeld s.homingBegun := by
  have ht : HeadHeld (if s.pins.drvRdy then s.beginSearch else s) := .of_state (by split <;> exact h)
  simp only [State.homingBegun]
  generalize (if s.pins.drvRdy then s.beginSearch else s) = t at ht ⊢
  exact ht.ite fun _ => .of_state (by simp [heldState])

theorem serveClearFault_held {s : State} (st : Station) (tag : Byte) (hs : HeadHeld s) : HeadHeld (s.serveClearFault st tag) := by
  simp only [State.serveClearFault]; split
  · exact homingBegun_held (by simp [heldState])
  · exact hs.same

theorem selectSlot_held {s : State} (st : Station) (tag : Byte) (i : SlotNo) (hs : HeadHeld s) : HeadHeld (s.selectSlot st tag i) := by
  simp only [State.selectSlot]; split
  · exact hs.same
  · exact hs.same
  · exact hs.same
  · split <;> exact hs.same
  · split
    · exact hs.same
    · exact activatePending_held hs.same

theorem serveMachineWrite_brk_state (s : State) (st : Station) (tag : Byte) (p : List Byte) :
    (s.serveMachineWrite st tag p).brk.state = s.brk.state := by
  have haccept : ∀ c m, (s.acceptMachine st tag c m).brk.state = s.brk.state := fun c m => by
    simp [State.acceptMachine, State.handMachine]
  simp only [State.serveMachineWrite, State.judgeMachine]; split
  · split
    · simp
    · split
      · simp
      · exact haccept _ _
  · simp

theorem serve_held {s : State} (k : RequestKind) (st : Station) (tag : Byte) (p : List Byte) (hs : HeadHeld s) :
    HeadHeld (s.serve k st tag p) := by
  cases k with
  | mode => exact serveMode_held st tag p hs
  | clearFault => exact serveClearFault_held st tag hs
  | resume =>
    simp only [State.serve, State.serveResume]; split
    · exact recoveringEntry_held _
    · exact hs.same
  | select =>
    simp only [State.serve, State.serveSelect]; split
    · exact hs.same
    · exact selectSlot_held st tag _ hs
  | machineWrite => exact hs.same (serveMachineWrite_brk_state s st tag p) (by simp [State.serve])
  | _ => exact hs.same (by simp [State.serve]) (by simp [State.serve])

theorem telegramArrival_held {s : State} (st : Station) (kind tag : Byte) (p : List Byte) (hs : HeadHeld s) :
    HeadHeld (s.telegramArrival st kind tag p) := by
  have hkind : ∀ t, HeadHeld t → HeadHeld (t.judgeKind st kind tag p) := fun t ht => by
    simp only [State.judgeKind]; split
    · exact ht.same
    · simp only [State.judgeKnown]; split
      · exact ht.same
      · split
        · exact ht.same
        · exact serve_held _ st tag p ht
  simp only [State.telegramArrival]; split
  · simp only [State.telegram]; split
    · exact hkind _ hs.same
    · exact hs.same
  · exact hs.same

theorem takeLine_held {s : State} (st : Station) (e : LineEvent) (hs : HeadHeld s) : HeadHeld (s.takeLine st e) := by
  have hchar : ∀ t c, HeadHeld t → HeadHeld (t.takeChar st c) := fun t c ht => by
    simp only [State.takeChar]; split
    · exact HeadHeld.ite ht fun _ => ht.same
    · split
      · exact ht.same
      · split
        · exact ht.same
        · simp only [State.storeChar]; split
          · exact ht.same
          · exact ht.same
          · exact telegramArrival_held st _ _ _ ht
  cases e with
  | startBit => exact hs
  | character c => exact hchar (s.startBit st) c hs

theorem takeHeadChar_held {s : State} (c : Character) (hs : HeadHeld s) : HeadHeld (s.takeHeadChar c) := by
  have hrx : ∀ x, HeadHeld (s.setHeadRx x) := fun _ => hs
  simp only [State.takeHeadChar]; split
  · exact hrx _
  · split
    · exact hrx _
    · split
      · exact hs
      · simp only [State.storeHeadChar]; split
        · exact hrx _
        · exact declareSlot_held _ (hrx none)

/-! ## The commands -/

theorem held_done {u t : State} (h : u.done = .next t) (hu : HeadHeld u) : HeadHeld t := by
  cases h; exact hu.same

theorem held_next {u t : State} (h : (Host.Outcome.next u : Host.Outcome State Fault Refusal) = .next t) (hu : HeadHeld u) :
    HeadHeld t := by
  cases h; exact hu

theorem exec_held {c : Instr} {s t : State} (h : exec c s = .next t) (hs : HeadHeld s) : HeadHeld t := by
  have hdeclare : ∀ d, HeadHeld ((s.beforeSlot d).declareSlot d) := fun d => declareSlot_held d (by cases d <;> exact hs)
  cases c with
  | deviceReset => exact held_done h (homingBegun_held rfl)
  | sampleTelegramArrival x => exact held_done h (declareSlot_held _ hs)
  | missingSlot => exact held_done h (hs.ite fun _ => declareSlot_held _ hs)
  | windowEnd d => exact held_done h (hs.ite fun _ => hdeclare d)
  | headCommandSent => exact held_next h (hs)
  | stdSlotLimit d => exact held_done h (hs.ite fun _ => hdeclare d)
  | tileTimerExpiry => exact held_done h (hs.ite fun _ => hs.same)
  | withdrawTimerExpiry => exact held_done h (hs.ite fun _ => faultEntry_held _ _)
  | encoderCount dir => exact held_done h (arrival_held (hs))
  | indexPulse => exact held_done h (hs.ite fun _ => arriveParked_held _)
  | drvRdyLow => exact held_done h (HeadHeld.ite hs fun _ => faultUnlessFaulted_held _ hs)
  | drvRdyHigh => exact held_next h (HeadHeld.ite hs fun _ => hs)
  | encoderLossTimerExpiry => exact held_done h (hs.ite fun _ => faultUnlessFaulted_held _ hs)
  | overtravel sw b => exact held_done h (HeadHeld.ite hs fun _ => faultUnlessFaulted_held _ hs)
  | homingTimerExpiry => exact held_done h (hs.ite fun _ => faultEntry_held _ _)
  | pointPeriodEnd d => exact held_done h (hs.ite fun _ => hdeclare d)
  | waitTimerExpiry st => exact held_done h hs.same
  | tachPulse => exact held_next h hs
  | speedGateEnd => exact held_next h hs.same
  | lossTimerExpiry => exact held_next h (hs.ite fun _ => hs.same)
  | detectorLevelChange d b =>
    refine held_next (u := if s.pins.det.get d = b then s else s.levelChange d b) h ?_
    split
    · exact hs
    · exact hs
  | debounceExpiry d =>
    refine held_done h (hs.ite fun _ => judgeDetectorsWith_held (fun s => breakEntry_held s false) _ _ ?_)
    exact hs
  | absentWindowEnd x => exact held_done h (hs.ite fun _ => declareSlot_held _ hs)
  | threadingTimerExpiry => exact held_done h (hs.ite fun _ => threadingExpiry_held hs)
  | gapTimerExpiry st => exact held_next h (hs.ite fun _ => hs)
  | telegramDropped st => exact held_next h (hs)
  | presenceTimerExpiry st =>
    refine held_done h (hs.ite fun _ => redecideIfParked_held ?_)
    exact hs
  | lastCharacterSent st => exact held_done h hs.same
  | stationCharacterTaken st e => exact held_done h (takeLine_held st e hs)
  | headLinkCharacter x => exact held_done h (takeHeadChar_held x hs)
  | _ => exact held_done h (telegramArrival_held _ _ _ _ hs)

end Sys2Proof.Machine

namespace Sys2Proof.Safety

open Sys2Proof Sys2Proof.Machine

/-- Settles O56: a scan starts on its leg; every entry to BREAK moves the head off where the hold does not admit it, and
under the hold nothing moves it on. -/
theorem keepsHeadUnderHold : Obligations.KeepsHeadUnderHold := by
  rintro s t ⟨hleg, hheld⟩ h
  refine ⟨scanOnLeg_kept.step h hleg, ?_⟩
  cases hp : s.pending with
  | nil =>
    rw [step_of_nil hp] at h
    cases h
    exact hheld
  | cons c rest =>
    rw [step_of_cons hp] at h
    exact exec_held (s := s.setPending rest) h hheld

/-- Settles O60: State.reset is what the laws' proofs start from, but for the search that device reset begins. -/
theorem resetSatisfiesLaws : Obligations.ResetSatisfiesLaws := by
  obtain ⟨hunits, hrelay⟩ := unitBounds_and_breakRelay_kept.restarted State.reset
  obtain ⟨hholds, hfill⟩ := holdLaws_kept.restarted State.reset
  have hsettled : Settled State.reset := rfl
  exact ⟨(counterBounds_iff _).mpr ⟨hunits, by decide, by decide⟩, hrelay, recipeSlots_kept.restarted State.reset,
    ⟨scanOnLeg_kept.restarted State.reset, fun _ => rfl⟩, hfill, hholds.1,
    (portQueues_iff _).mpr ⟨portsFit_kept.restarted State.reset, hsettled⟩, hsettled, hholds, fun _ => rfl⟩

end Sys2Proof.Safety
end


section
/-! PROOF. The step and its front command, the levels, the queue and the pins, and device reset. -/

namespace Sys2Proof.Machine

open Sys2Proof Sys2Proof.Safety

/-! ## A command leaves the queue and the pins alone -/

/-- The queue is as it was, and so are the pins unless the command moves one. -/
def QueueAndPinsKept (c : Instr) (s t : State) : Prop := t.pending = s.pending ∧ (movesPin c = false → t.pins = s.pins)

theorem QueueAndPinsKept.settle {c : Instr} {s t : State} (h : QueueAndPinsKept c s t) : QueueAndPinsKept c s t.settle :=
  ⟨(settle_pending t).trans h.1, fun hc => (settle_pins t).trans (h.2 hc)⟩

theorem QueueAndPinsKept.ite {c : Instr} {s t : State} {p : Prop} [Decidable p] (h : QueueAndPinsKept c s t) :
    QueueAndPinsKept c s (if p then t else s) := by
  split
  · exact h
  · exact ⟨rfl, fun _ => rfl⟩

/-- A command that moves no pin. -/
theorem queueAndPinsKept_of_eq {c : Instr} {s t : State} (hq : t.pending = s.pending := by simp)
    (hp : t.pins = s.pins := by simp) : QueueAndPinsKept c s t := ⟨hq, fun _ => hp⟩

/-- A command that moves a pin. -/
theorem queueAndPinsKept_of_movesPin {c : Instr} {s t : State} (hc : movesPin c = true) (hq : t.pending = s.pending) :
    QueueAndPinsKept c s t := ⟨hq, fun h => by simp [hc] at h⟩

/-- A command that ends with the transmitters' choice. -/
theorem exists_done {c : Instr} {s u : State} (h : QueueAndPinsKept c s u) :
    ∃ t, u.done = .next t ∧ QueueAndPinsKept c s t := ⟨_, rfl, h.settle⟩

theorem exists_next {c : Instr} {s u : State} (h : QueueAndPinsKept c s u) :
    ∃ t, (Host.Outcome.next u : Host.Outcome State Fault Refusal) = .next t ∧ QueueAndPinsKept c s t := ⟨_, rfl, h⟩

theorem exec_queueAndPinsKept (c : Instr) (s : State) : ∃ t, exec c s = .next t ∧ QueueAndPinsKept c s t := by
  have hdeclare : ∀ d, QueueAndPinsKept c s ((s.beforeSlot d).declareSlot d) := fun d => by
    cases d <;> exact queueAndPinsKept_of_eq (by simp [State.beforeSlot, State.setHeadRx]) (by simp [State.beforeSlot, State.setHeadRx])
  cases c with
  | deviceReset => exact exists_done (queueAndPinsKept_of_eq (by simp [State.resetAt]) (by simp [State.resetAt]))
  | sampleTelegramArrival x => exact exists_done (hdeclare (.arrival x))
  | missingSlot => exact exists_done (hdeclare .missing).ite
  | windowEnd d => exact exists_done (hdeclare d).ite
  | headCommandSent => exact exists_next (queueAndPinsKept_of_eq rfl rfl)
  | stdSlotLimit d => exact exists_done (hdeclare d).ite
  | tileTimerExpiry => exact exists_done (.ite queueAndPinsKept_of_eq)
  | withdrawTimerExpiry => exact exists_done (.ite queueAndPinsKept_of_eq)
  | encoderCount dir => exact exists_done queueAndPinsKept_of_eq
  | indexPulse => exact exists_done (.ite queueAndPinsKept_of_eq)
  | drvRdyLow => exact exists_done (queueAndPinsKept_of_movesPin rfl (by split <;> simp))
  | drvRdyHigh => exact exists_next (queueAndPinsKept_of_movesPin rfl (by split <;> simp))
  | encoderLossTimerExpiry => exact exists_done (.ite queueAndPinsKept_of_eq)
  | overtravel sw b => exact exists_done (queueAndPinsKept_of_movesPin rfl (by split <;> simp))
  | homingTimerExpiry => exact exists_done (.ite queueAndPinsKept_of_eq)
  | pointPeriodEnd d => exact exists_done (hdeclare d).ite
  | waitTimerExpiry st => exact exists_done queueAndPinsKept_of_eq
  | tachPulse => exact exists_next (queueAndPinsKept_of_eq rfl rfl)
  | speedGateEnd => exact exists_next queueAndPinsKept_of_eq
  | lossTimerExpiry => exact exists_next (.ite queueAndPinsKept_of_eq)
  | detectorLevelChange d b => exact exists_next (queueAndPinsKept_of_movesPin rfl (by split <;> simp))
  | debounceExpiry d => exact exists_done (.ite queueAndPinsKept_of_eq)
  | absentWindowEnd x => exact exists_done (hdeclare (.arrival x)).ite
  | threadingTimerExpiry => exact exists_done (.ite queueAndPinsKept_of_eq)
  | gapTimerExpiry st => exact exists_next (.ite (t := s.dropTelegram st) (queueAndPinsKept_of_eq rfl rfl))
  | telegramDropped st => exact exists_next (queueAndPinsKept_of_eq rfl rfl)
  | presenceTimerExpiry st => exact exists_done (.ite queueAndPinsKept_of_eq)
  | lastCharacterSent st => exact exists_done queueAndPinsKept_of_eq
  | stationCharacterTaken st e => exact exists_done queueAndPinsKept_of_eq
  | headLinkCharacter x =>
    refine exists_done ?_
    simp only [State.takeHeadChar, State.storeHeadChar]
    split
    · exact queueAndPinsKept_of_eq rfl rfl
    · split
      · exact queueAndPinsKept_of_eq rfl rfl
      · split
        · exact queueAndPinsKept_of_eq rfl rfl
        · split
          · exact queueAndPinsKept_of_eq rfl rfl
          · exact hdeclare (.arrival _)
  | _ => exact exists_done (u := s.telegramArrival _ _ _ _) queueAndPinsKept_of_eq

/-! ## Speed -/

/-- Assessment stops, or goes on (R124). -/
theorem stopAssessment_eq (s : State) :
    s.stopAssessment = { s with absent := ⟨false, 0, 0, false⟩, hole := { s.hole with run := 0, marker := false } } := rfl

theorem computedSpeed_eq (gates increment : Nat) :
    computedSpeed gates increment = min 3000 ((2 * (gates * increment * 600) + 2 ^ 24) / 2 ^ 25) := by
  rfl

theorem Speed.gateByWatch_eq (u : Speed) : u.gateByWatch = gateTable u := by
  obtain ⟨increment, mdAcc, gateCount, gateTimer, speed, watch, refPulses, emptyGates, lossTimer, atSpeed⟩ := u
  cases watch <;> rfl

theorem gateTable_atSpeed (u : Speed) : (gateTable u).atSpeed = u.atSpeed := by
  simp only [gateTable]; split
  · split <;> rfl
  · rfl
  · rfl

/-- AT_SPEED re-judged; its clearing stops assessment (R116, R124). -/
theorem rejudgeAtSpeed_eq (s : State) :
    s.rejudgeAtSpeed = { s with
      speed := { s.speed with atSpeed := atSpeedNow s.store s.speed.speed }
      absent := if s.speed.atSpeed = true ∧ atSpeedNow s.store s.speed.speed = false then ⟨false, 0, 0, false⟩ else s.absent
      hole := if s.speed.atSpeed = true ∧ atSpeedNow s.store s.speed.speed = false then
        { s.hole with run := 0, marker := false } else s.hole } := by
  simp only [State.rejudgeAtSpeed, Bool.and_eq_true, Bool.not_eq_true']
  split <;> rfl

theorem tachLost_iff (st : Store) (u : Speed) :
    tachLost st u = true ↔ st.machineSet = true ∧ u.increment ≠ 0 ∧ st.machine.minRunSpeed ≤ u.speed := by
  simp [tachLost, and_assoc]

end Sys2Proof.Machine

namespace Sys2Proof.Safety

open Sys2Proof Sys2Proof.Machine

/-- Settles O1. -/
theorem frontCommandRuns : Obligations.FrontCommandRuns := fun _ _ _ h => step_of_cons h

/-- Settles O2: a transition sets the level by the polarity and the age to 0; an idle step adds one to each age. -/
theorem levelsAndTheirAges : Obligations.LevelsAndTheirAges := by
  refine ⟨fun d high s => ⟨fun h => ?same, fun h => ?changed⟩, fun s h => step_of_nil h⟩
  case same => simp only [exec, execDetectorLevelChange, if_pos h]
  case changed =>
    have hlevel : levelOf (s.store.machine.polarity.get d) high
        = decide (s.store.machine.polarity.get d = .high ↔ high = true) := by
      cases s.store.machine.polarity.get d <;> cases high <;> rfl
    simp only [exec, execDetectorLevelChange, if_neg h, State.levelChange, DetectorUnit.relevel, ← hlevel]
    rfl

/-- Settles O3: every command ends with a next state; only the pin events write a pin, and none the queue. -/
theorem everyCommandAnswersNext : Obligations.EveryCommandAnswersNext := exec_queueAndPinsKept

/-- Settles O34: the pulse, the gate end by the watch state, the expiry of a lost tach and of a stopped machine. -/
theorem speedUnitEvents : Obligations.SpeedUnitEvents := by
  refine ⟨⟨fun s => ?pulse, fun s => ?metres, fun s => ?held⟩, fun s => ?gate, fun s => ⟨fun h => ?off, fun h => ⟨?lost, ?stopped⟩⟩⟩
  case pulse =>
    cases hw : s.speed.watch <;> simp [exec, execTachPulse, Speed.pulse, hw] <;> rfl
  case metres =>
    have := s.speed.mdAcc.isLt
    rw [State.mdMetres, BitVec.toNat_ofNat]; omega
  case held => simp [State.tachHeld]
  case gate =>
    have e : exec .speedGateEnd s = .next (s.setSpeed s.speed.gateEnd).rejudgeAtSpeed := rfl
    rw [e, rejudgeAtSpeed_eq, Speed.gateEnd, Speed.gateByWatch_eq, ← gateTable_atSpeed s.speed]
    rfl
  case off =>
    simp [exec, execLossTimerExpiry, h, Timer.isRunning]
  case lost =>
    intro h1 h2 h3
    have hl := (tachLost_iff s.store s.speed).mpr ⟨h1, h2, h3⟩
    simp only [exec, execLossTimerExpiry, h, if_true, State.lossExpiry, hl]
    rfl
  case stopped =>
    intro hn
    have hl : tachLost s.store s.speed = false := by
      rw [← Bool.not_eq_true, tachLost_iff]
      rintro ⟨h1, h2, h3⟩
      rcases hn with hn | hn | hn
      · simp [h1] at hn
      · exact h2 hn
      · omega
    simp only [exec, execLossTimerExpiry, h, if_true, State.lossExpiry, hl]
    rfl

end Sys2Proof.Safety
end


section
/-! SUPPORT AND PROOF. A station's receiver (R177, R178) and its transmitter (R185, R193). -/

namespace Sys2Proof.Machine

open Sys2Proof Sys2Proof.Safety

/-! ## One character at the receiver (R177) -/

section

variable {s : State} {st : Station} {c : Character}

theorem takeChar_of_mark (he : c.framingError = false) (hm : c.mark = true) :
    s.takeChar st c = s.onPort st (fun p => p.beginRx c.data) := by
  cases h : (s.ports.get st).rx <;> simp [State.takeChar, h, he, hm]

theorem takeChar_of_hunt (h : (s.ports.get st).rx = .hunt) (hc : c.framingError = true ∨ c.mark = false) :
    s.takeChar st c = s := by
  obtain hc | hc := hc <;> simp [State.takeChar, h, hc]

theorem takeChar_of_error {chars : List Byte} (h : (s.ports.get st).rx = .receiving chars) (he : c.framingError = true) :
    s.takeChar st c = s.onPort st Port.hunt := by
  simp [State.takeChar, h, he]

theorem takeChar_of_unmarked {chars : List Byte} (h : (s.ports.get st).rx = .receiving chars) (he : c.framingError = false)
    (hm : c.mark = false) : s.takeChar st c = s.storeChar st chars c.data := by
  simp [State.takeChar, h, he, hm]

end

theorem rxTest_more {cs : List Byte} (h : cs.length < 4 ∨ rxLength cs ≤ 1100 ∧ cs.length < rxLength cs + 6) :
    rxTest cs = .more := by
  by_cases h4 : cs.length < 4
  · rw [rxTest, if_pos h4]
  · obtain ⟨hn, hl⟩ := h.resolve_left h4
    have hmax : ¬Config.maxPayload < rxLength cs := not_lt.mpr hn
    rw [rxTest, if_neg h4, if_neg hmax, if_pos hl]

theorem rxTest_drop {cs : List Byte} (h : 4 ≤ cs.length) (hn : 1100 < rxLength cs) : rxTest cs = .drop := by
  have hmax : Config.maxPayload < rxLength cs := hn
  rw [rxTest, if_neg (not_lt.mpr h), if_pos hmax]

theorem storeChar_of_more {s : State} {st : Station} {cs : List Byte} {b : Byte} (h : rxTest (cs ++ [b]) = .more) :
    s.storeChar st cs b = s.onPort st (fun p => { p with rx := .receiving (cs ++ [b]), gapTimer := .running 50 }) := by
  simp only [State.storeChar, h]; rfl

theorem storeChar_of_drop {s : State} {st : Station} {cs : List Byte} {b : Byte} (h : rxTest (cs ++ [b]) = .drop) :
    s.storeChar st cs b = s.onPort st Port.hunt := by
  simp only [State.storeChar, h]

/-! ## The commands of a receiver -/

theorem exec_character (st : Station) (c : Character) (s : State) :
    exec (.stationCharacterTaken st (.character c)) s = .next ((s.startBit st).takeChar st c).settle := rfl

theorem startBit_rx (s : State) (st : Station) : ((s.startBit st).ports.get st).rx = (s.ports.get st).rx := by
  rw [State.startBit_eq, State.onPort_get]

/-- Seen twice, a start bit is seen once. -/
theorem startBit_startBit (s : State) (st : Station) : (s.startBit st).startBit st = s.startBit st := by
  simp [State.startBit_eq]

/-- What a port is given after its start bit overwrites the gap timer. -/
theorem onPort_startBit (s : State) (st : Station) (f : Port → Port)
    (h : ∀ p : Port, f { p with gapTimer := .stopped } = f p) : (s.startBit st).onPort st f = s.onPort st f := by
  rw [State.startBit_eq, State.onPort_onPort]
  simp only [h]

theorem Port.choose_gapTimer (p : Port) : p.choose.gapTimer = p.gapTimer := by
  cases p with
  | mk rx gap present timer pend replies dropped tx sub notices =>
    cases tx <;> cases replies <;> cases notices <;> rfl

theorem exec_gapTimerExpiry_of_stopped {s : State} {st : Station} (h : (s.ports.get st).gapTimer = .stopped) :
    exec (.gapTimerExpiry st) s = .next s := by
  simp [exec, execGapTimerExpiry, h, Timer.isRunning]

end Sys2Proof.Machine

namespace Sys2Proof.Safety

open Sys2Proof Sys2Proof.Machine

/-- Settles O48: the receiver's cases one after another. -/
theorem stationReceiver : Obligations.StationReceiver := by
  intro s st c
  refine ⟨?marked, ?ignored, ?receiving, rfl, ?gapAfterStart, ?twice, ?gap, exec_gapTimerExpiry_of_stopped, rfl⟩
  case marked =>
    intro he hm
    rw [exec_character, takeChar_of_mark he hm, onPort_startBit _ _ _ fun _ => rfl]
    rfl
  case ignored =>
    intro h hc
    rw [exec_character, takeChar_of_hunt (by rwa [startBit_rx]) hc, State.startBit_eq]
  case receiving =>
    intro chars h
    have hrx : ((s.startBit st).ports.get st).rx = .receiving chars := by rwa [startBit_rx]
    refine ⟨fun he => ?_, fun he hm => ⟨fun hl hn => ?_, fun hm' => ?_⟩⟩
    · rw [exec_character, takeChar_of_error hrx he, onPort_startBit _ _ _ fun _ => rfl]
      rfl
    · rw [exec_character, takeChar_of_unmarked hrx he hm, storeChar_of_drop (rxTest_drop hl hn),
        onPort_startBit _ _ _ fun _ => rfl]
      rfl
    · rw [exec_character, takeChar_of_unmarked hrx he hm, storeChar_of_more (rxTest_more hm'),
        onPort_startBit _ _ _ fun _ => rfl]
  case gapAfterStart =>
    refine exec_gapTimerExpiry_of_stopped ?_
    rw [State.settle_get, Port.choose_gapTimer, State.onPort_get]
  case twice =>
    rw [← State.startBit_eq, exec_character, exec_character, startBit_startBit]
  case gap =>
    intro h
    simp only [exec, execGapTimerExpiry, if_pos h]
    rfl

end Sys2Proof.Safety
end


section
/-! SUPPORT AND PROOF. A telegram's characters one after another, on a station link (R176, R177) and on the head link
(R1, R197). -/

namespace Sys2Proof.Machine

open Sys2Proof Sys2Proof.Safety

/-! ## Running commands from the queue -/

/-- The last step of a run. -/
theorem run_one (s : State) : core.run 1 s = step s := by
  have hcore : core.step s = step s := rfl
  simp only [Host.Core.run, hcore]
  cases step s <;> rfl

theorem run_succ_of_cons {s t : State} {c : Instr} {rest : List Instr} (k : Nat) (hp : s.pending = c :: rest)
    (h : exec c (s.setPending rest) = .next t) : core.run (k + 1) s = core.run k t := by
  have hstep : core.step s = .next t := (step_of_cons hp).trans h
  simp only [Host.Core.run, hstep]

theorem run_one_of_cons {s : State} {c : Instr} {rest : List Instr} (hp : s.pending = c :: rest) :
    core.run 1 s = exec c (s.setPending rest) := by
  rw [run_one, step_of_cons hp]

/-! ## Bytes of a word -/

/-- A word's two bytes, the low one first. -/
theorem le16_toNat (c : BitVec 16) : le16 c.toNat = [c.setWidth 8, (c >>> 8).setWidth 8] := by
  simp only [le16, List.cons.injEq, and_true]
  constructor
  · exact BitVec.eq_of_toNat_eq (by simp)
  · refine BitVec.eq_of_toNat_eq ?_
    simp [Nat.shiftRight_eq_div_pow]

/-- A field at an offset is its two bytes (R196). -/
theorem ofNat_bytes (x y : Byte) : BitVec.ofNat 16 (x.toNat + 256 * y.toNat) = y ++ x := by
  refine BitVec.eq_of_toNat_eq ?_
  have hx := x.isLt
  have hy := y.isLt
  rw [BitVec.toNat_ofNat, BitVec.toNat_append, ← Nat.shiftLeft_add_eq_or_of_lt hx, Nat.shiftLeft_eq]
  omega

/-! ## A station's receiver in the middle of a telegram -/

/-- The state with these characters received and these commands to come. -/
def State.fed (s : State) (st : Station) (cs : List Byte) (rest : List Instr) : State :=
  (s.onPort st (fun p => { p with rx := .receiving cs, gapTimer := .running 50 })).setPending rest

/-- An unmarked character with its stop bit. -/
def unmarked (st : Station) (b : Byte) : Instr := .stationCharacterTaken st (.character ⟨false, false, b⟩)

section

variable {s : State} {st : Station}

theorem fed_rx (cs : List Byte) (rest : List Instr) :
    (((s.fed st cs rest).startBit st).ports.get st).rx = .receiving cs := by
  rw [startBit_rx, State.fed, State.setPending_ports, State.onPort_get]

/-- A port given its receiver's part anew forgets what the characters have left there. -/
theorem fed_onPort (cs : List Byte) (rest : List Instr) (r : RxState) (g : Timer) :
    ((s.fed st cs rest).startBit st).onPort st (fun p => { p with rx := r, gapTimer := g })
      = (s.onPort st (fun p => { p with rx := r, gapTimer := g })).setPending rest := by
  have hcomm : ∀ (u : State) (f : Port → Port), (u.setPending rest).onPort st f = (u.onPort st f).setPending rest := fun _ _ => rfl
  rw [State.startBit_eq, State.fed, hcomm, hcomm, State.onPort_onPort, State.onPort_onPort]

theorem exec_unmarked_fed {cs : List Byte} {b : Byte} (rest : List Instr) (hs : Settled s) (h : rxTest (cs ++ [b]) = .more) :
    exec (unmarked st b) (s.fed st cs rest) = .next (s.fed st (cs ++ [b]) rest) := by
  have hset : (s.fed st (cs ++ [b]) rest).settle = s.fed st (cs ++ [b]) rest :=
    settled_of_ports (s := s.onPort st _) rfl (settled_onPort_rx st (.receiving (cs ++ [b])) (.running 50) hs)
  rw [unmarked, exec_character, takeChar_of_unmarked (fed_rx cs rest) rfl rfl, storeChar_of_more h, fed_onPort]
  exact congrArg _ hset

/-- The characters that leave the telegram unfinished are stored. -/
theorem run_fed (hs : Settled s) (rest : List Instr) (k : Nat) (l : List Byte) (cs : List Byte)
    (h : ∀ n, 1 ≤ n → n ≤ l.length → rxTest (cs ++ l.take n) = .more) :
    core.run (l.length + k) (s.fed st cs (l.map (unmarked st) ++ rest)) = core.run k (s.fed st (cs ++ l) rest) := by
  induction l generalizing cs with
  | nil => simp
  | cons b l ih =>
    have hb : rxTest (cs ++ [b]) = .more := by simpa using h 1 le_rfl (by simp)
    rw [List.length_cons, Nat.add_right_comm]
    rw [run_succ_of_cons (s := s.fed st cs ((b :: l).map (unmarked st) ++ rest)) (c := unmarked st b)
      (t := s.fed st (cs ++ [b]) (l.map (unmarked st) ++ rest)) _ rfl (exec_unmarked_fed _ hs hb)]
    rw [ih (cs ++ [b]) fun n h1 hn => by
      have := h (n + 1) (by omega) (by simpa using hn)
      simpa using this]
    simp

end

/-! ## The whole telegram -/

/-- The characters of a telegram up to its check (12.1). -/
def telegramHead (kind tag : Byte) (p : List Byte) : List Byte :=
  [kind, tag, BitVec.ofNat 8 p.length, BitVec.ofNat 8 (p.length / 256)] ++ p

theorem telegramHead_length (kind tag : Byte) (p : List Byte) : (telegramHead kind tag p).length = p.length + 4 := by
  simp [telegramHead]

theorem rxLength_of_head {kind tag : Byte} {p : List Byte} (hp : p.length ≤ 1100) (l : List Byte) :
    rxLength ([kind, tag, BitVec.ofNat 8 p.length, BitVec.ofNat 8 (p.length / 256)] ++ l) = p.length := by
  simp [rxLength, u16At, u8At]; omega

theorem rxTest_take {kind tag : Byte} {p check : List Byte} (hp : p.length ≤ 1100) {n : Nat} (hn : n < p.length + 6) :
    rxTest ((telegramHead kind tag p ++ check).take n) = .more := by
  refine rxTest_more ?_
  by_cases h4 : n < 4
  · exact Or.inl (by rw [List.length_take]; omega)
  · obtain ⟨m, rfl⟩ : ∃ m, n = m + 4 := ⟨n - 4, by omega⟩
    have e : (telegramHead kind tag p ++ check).take (m + 4)
        = [kind, tag, BitVec.ofNat 8 p.length, BitVec.ofNat 8 (p.length / 256)] ++ (p ++ check).take m := by
      simp [telegramHead]
    rw [e, rxLength_of_head hp, ← e, List.length_take]
    exact Or.inr ⟨hp, by omega⟩

theorem rxTest_whole {kind tag : Byte} {p check : List Byte} (hp : p.length ≤ 1100) (hc : check.length = 2) :
    rxTest (telegramHead kind tag p ++ check) =
      if le16 (crc16 (telegramHead kind tag p)).toNat = check then .arrive kind tag p else .drop := by
  have hlen : rxLength (telegramHead kind tag p ++ check) = p.length := by
    rw [telegramHead, List.append_assoc, rxLength_of_head hp]
  have hl : (telegramHead kind tag p ++ check).length = p.length + 6 := by simp [telegramHead_length, hc]
  have hmax : ¬Config.maxPayload < p.length := not_lt.mpr hp
  have htake : (telegramHead kind tag p ++ check).take (p.length + 4) = telegramHead kind tag p :=
    List.take_left' (telegramHead_length kind tag p)
  have hdrop : ((telegramHead kind tag p ++ check).drop (p.length + 4)).take 2 = check := by
    rw [List.drop_left' (telegramHead_length kind tag p), List.take_of_length_le hc.le]
  rw [rxTest, hlen, hl, if_neg (by omega), if_neg hmax, if_neg (lt_irrefl _), rxJudge, hlen, htake, hdrop]
  split
  · simp [telegramHead]
  · rfl

/-- All but the last character of a telegram. -/
theorem run_telegram {s : State} {st : Station} {kind tag : Byte} {p check : List Byte} (hs : Settled s) (hp : p.length ≤ 1100)
    (hc : check.length = 2) (h : s.pending = wireCharacters st (telegramHead kind tag p ++ check)) :
    ∃ cs b, cs ++ [b] = telegramHead kind tag p ++ check
      ∧ core.run (p.length + 6) s = exec (unmarked st b) (s.fed st cs []) := by
  set tail : List Byte := [tag, BitVec.ofNat 8 p.length, BitVec.ofNat 8 (p.length / 256)] ++ p ++ check with htail
  have hwhole : telegramHead kind tag p ++ check = kind :: tail := by simp [telegramHead, htail]
  have hne : tail ≠ [] := by simp [htail]
  have hsplit : tail.dropLast ++ [tail.getLast hne] = tail := List.dropLast_append_getLast hne
  have hlen : tail.dropLast.length = p.length + 4 := by simp [htail, hc]
  refine ⟨kind :: tail.dropLast, tail.getLast hne, ?_, ?_⟩
  · rw [List.cons_append, hsplit, hwhole]
  · have hpend : s.pending = .stationCharacterTaken st (.character ⟨true, false, kind⟩)
        :: (tail.dropLast.map (unmarked st) ++ [unmarked st (tail.getLast hne)]) := by
      rw [h, hwhole, wireCharacters]
      conv_lhs => rw [← hsplit]
      rw [List.map_append]; rfl
    have hfirst : ∀ rest, exec (.stationCharacterTaken st (.character ⟨true, false, kind⟩)) (s.setPending rest)
        = .next (s.fed st [kind] rest) := fun rest => by
      have hset : (s.fed st [kind] rest).settle = s.fed st [kind] rest :=
        settled_of_ports (s := s.onPort st _) rfl (settled_onPort_rx st (.receiving [kind]) (.running 50) hs)
      rw [exec_character, takeChar_of_mark rfl rfl, onPort_startBit _ _ _ fun _ => rfl]
      exact congrArg _ hset
    have hmore : ∀ n, 1 ≤ n → n ≤ tail.dropLast.length → rxTest ([kind] ++ tail.dropLast.take n) = .more := fun n _ hn => by
      have e : [kind] ++ tail.dropLast.take n = (telegramHead kind tag p ++ check).take (n + 1) := by
        rw [hwhole, List.take_succ_cons]
        conv_rhs => rw [← hsplit]
        rw [List.take_append_of_le_length hn]; rfl
      rw [e]
      exact rxTest_take hp (by omega)
    have hrun := run_fed (st := st) hs [unmarked st (tail.getLast hne)] 1 tail.dropLast [kind] hmore
    rw [hlen] at hrun
    rw [run_succ_of_cons (p.length + 5) hpend (hfirst _), hrun]
    exact run_one_of_cons rfl

/-- A telegram's arrival puts the receiver to rest, whatever it has received. -/
theorem telegramArrival_fed (s : State) (st : Station) (cs : List Byte) (kind tag : Byte) (p : List Byte) :
    ((s.fed st cs []).startBit st).telegramArrival st kind tag p = (s.setPending []).telegramArrival st kind tag p := by
  have e : ((s.fed st cs []).startBit st).onPort st Port.hunt = (s.setPending []).onPort st Port.hunt :=
    fed_onPort cs [] .hunt .stopped
  rw [State.telegramArrival, State.telegramArrival, e]

theorem exec_requestOf (k : RequestKind) (st : Station) (tag : Byte) (p : List Byte) (s : State) :
    exec (requestOf k st tag p) s = s.request k st tag p := by
  cases k <;> rfl

theorem exec_unknownKind (st : Station) (kind tag : Byte) (p : List Byte) (s : State) :
    exec (.unknownKind st kind tag p) s = .next (s.telegramArrival st kind tag p).settle := rfl

/-! ## The head link's receiver (R1) -/

section

variable {s : State} {c : Character}

theorem exec_headLinkCharacter (c : Character) (s : State) :
    exec (.headLinkCharacter c) s = .next (s.takeHeadChar c).settle := rfl

theorem takeHeadChar_of_error (h : c.framingError = true) : s.takeHeadChar c = s.setHeadRx none := by
  simp [State.takeHeadChar, h]

theorem takeHeadChar_of_mark (h : c.framingError = false) (hm : c.mark = true) :
    s.takeHeadChar c = s.setHeadRx (some [c.data]) := by
  simp [State.takeHeadChar, h, hm]

theorem takeHeadChar_of_none (h : c.framingError = false) (hm : c.mark = false) (hrx : s.link.rx = none) :
    s.takeHeadChar c = s := by
  simp [State.takeHeadChar, h, hm, hrx]

theorem takeHeadChar_of_some {bytes : List Byte} (h : c.framingError = false) (hm : c.mark = false)
    (hrx : s.link.rx = some bytes) : s.takeHeadChar c = s.storeHeadChar bytes c.data := by
  simp [State.takeHeadChar, h, hm, hrx]

theorem storeHeadChar_of_lt {bytes : List Byte} (b : Byte) (h : bytes.length < 9) :
    s.storeHeadChar bytes b = s.setHeadRx (some (bytes ++ [b])) := by
  rw [State.storeHeadChar]
  exact if_pos (by simp; omega)

/-- The tenth character brings the arrival. -/
theorem storeHeadChar_of_nine {bytes : List Byte} (b : Byte) (h : bytes.length = 9) :
    s.storeHeadChar bytes b = (s.setHeadRx none).declareSlot (.arrival (sampleTelegramOf (bytes ++ [b]))) := by
  rw [State.storeHeadChar]
  exact if_neg (by simp; omega)

/-- The state with these bytes of a head telegram received and these commands to come. -/
def State.headFed (s : State) (bytes : List Byte) (rest : List Instr) : State := (s.setHeadRx (some bytes)).setPending rest

theorem exec_unmarked_headFed (hs : Settled s) (bytes : List Byte) (b : Byte) (rest : List Instr) (h : bytes.length < 9) :
    exec (.headLinkCharacter ⟨false, false, b⟩) (s.headFed bytes rest) = .next (s.headFed (bytes ++ [b]) rest) := by
  have hset : (s.headFed (bytes ++ [b]) rest).settle = s.headFed (bytes ++ [b]) rest := settled_of_ports (s := s) rfl hs
  rw [exec_headLinkCharacter, takeHeadChar_of_some (bytes := bytes) rfl rfl rfl, storeHeadChar_of_lt b h]
  exact congrArg _ hset

theorem run_headFed (hs : Settled s) (rest : List Instr) (k : Nat) (l bytes : List Byte) (h : bytes.length + l.length ≤ 9) :
    core.run (l.length + k) (s.headFed bytes (l.map (fun b => Instr.headLinkCharacter ⟨false, false, b⟩) ++ rest))
      = core.run k (s.headFed (bytes ++ l) rest) := by
  induction l generalizing bytes with
  | nil => simp
  | cons b l ih =>
    rw [List.length_cons] at h ⊢
    rw [Nat.add_right_comm, List.map_cons, List.cons_append]
    rw [run_succ_of_cons (s := s.headFed bytes _) (c := .headLinkCharacter ⟨false, false, b⟩)
      (t := s.headFed (bytes ++ [b]) (l.map (fun b => Instr.headLinkCharacter ⟨false, false, b⟩) ++ rest)) _ rfl
      (exec_unmarked_headFed hs bytes b _ (by omega))]
    rw [ih (bytes ++ [b]) (by simp; omega)]
    simp

end

end Sys2Proof.Machine

namespace Sys2Proof.Safety

open Sys2Proof Sys2Proof.Machine

/-- Settles O49: every proper beginning of the telegram leaves the receiver receiving, the last character judges the check,
and the arrival puts the receiver to rest. -/
theorem telegramArrives : Obligations.TelegramArrives := by
  intro s st kind tag p check hs hp hc head crc hpend
  obtain ⟨cs, b, hcs, hrun⟩ := run_telegram hs hp hc hpend
  have hcrc : le16 (crc16 (telegramHead kind tag p)).toNat = [crc.setWidth 8, (crc >>> 8).setWidth 8] := le16_toNat crc
  have hlast : exec (unmarked st b) (s.fed st cs []) = .next (((s.fed st cs []).startBit st).storeChar st cs b).settle := by
    rw [unmarked, exec_character, takeChar_of_unmarked (fed_rx cs []) rfl rfl]
  have htest := rxTest_whole (kind := kind) (tag := tag) hp hc
  rw [hcrc] at htest
  refine ⟨fun hok => ?_, fun hbad => ?_⟩
  · rw [if_pos hok.symm, ← hcs] at htest
    have harrive : core.run (p.length + 6) s = .next ((s.setPending []).telegramArrival st kind tag p).settle := by
      rw [hrun, hlast, State.storeChar, htest]
      exact congrArg (fun u : State => Host.Outcome.next u.settle) (telegramArrival_fed s st cs kind tag p)
    refine ⟨fun k hk => ?_, fun _ => harrive⟩
    rw [harrive, exec_requestOf, hk]
    rfl
  · rw [if_neg (fun h => hbad h.symm), ← hcs] at htest
    rw [hrun, hlast, storeChar_of_drop htest]
    have e : ((s.fed st cs []).startBit st).onPort st Port.hunt = (s.setPending []).onPort st Port.hunt :=
      fed_onPort cs [] .hunt .stopped
    have hset : ((s.setPending []).onPort st Port.hunt).settle = (s.setPending []).onPort st Port.hunt :=
      settled_onPort_rx st .hunt .stopped (settled_of_ports (s := s) rfl hs)
    rw [e, hset]
    rfl

/-- Settles O6: the receiver's cases, and nine characters stored before the tenth brings the arrival. -/
theorem headCharactersMakeArrival : Obligations.HeadCharactersMakeArrival := by
  refine ⟨fun c s => ⟨fun h => ?_, fun h hm => ?_, fun h hm hrx => ?_, fun bytes h hm hrx hl => ?_⟩, ?_⟩
  · rw [exec_headLinkCharacter, takeHeadChar_of_error h]; rfl
  · rw [exec_headLinkCharacter, takeHeadChar_of_mark h hm]; rfl
  · rw [exec_headLinkCharacter, takeHeadChar_of_none h hm hrx]
  · rw [exec_headLinkCharacter, takeHeadChar_of_some h hm hrx, storeHeadChar_of_lt _ hl]; rfl
  · intro s b0 b1 b2 b3 b4 b5 b6 b7 b8 b9 hs hpend
    have hfirst : ∀ rest, exec (.headLinkCharacter ⟨true, false, b0⟩) (s.setPending rest) = .next (s.headFed [b0] rest) := fun rest => by
      have hset : (s.headFed [b0] rest).settle = s.headFed [b0] rest := settled_of_ports (s := s) rfl hs
      rw [exec_headLinkCharacter, takeHeadChar_of_mark rfl rfl]
      exact congrArg _ hset
    have hrun := run_headFed hs [.headLinkCharacter ⟨false, false, b9⟩] 1 [b1, b2, b3, b4, b5, b6, b7, b8] [b0] (by simp)
    rw [run_succ_of_cons 9 hpend (hfirst _)]
    refine hrun.trans ?_
    rw [run_one_of_cons rfl, exec_headLinkCharacter,
      takeHeadChar_of_some (bytes := [b0, b1, b2, b3, b4, b5, b6, b7, b8]) rfl rfl rfl, storeHeadChar_of_nine b9 rfl]
    have e : sampleTelegramOf ([b0, b1, b2, b3, b4, b5, b6, b7, b8] ++ [b9])
        = { seq := b0, flags := b1, bwRaw := b3 ++ b2, waterRaw := b5 ++ b4, gapRaw := b7 ++ b6, check := b9 ++ b8 } := by
      simp [sampleTelegramOf, u16At, u8At, ofNat_bytes]
    rw [e]
    rfl

end Sys2Proof.Safety
end


section
/-! SUPPORT AND PROOF. Device reset (R23, R29) and the head commands (R6). -/

namespace Sys2Proof.Machine

open Sys2Proof Sys2Proof.Safety

/-! ## Device reset -/

/-- The reset values but for the head, which then homes. -/
theorem hasResetValues_setHead (pins : Pins) (q : List Instr) {h : Head} (hpos : h.position = 0) (hgrant : h.grant = .none)
    (hslots : h.slots = ⟨.none, .none, .none, .none⟩) (hscan : h.scan = none) :
    HasResetValues ((State.resetAt pins q).setHead h) := by
  have hdet : ∀ d, (Supervisor.reset pins.det).det.get d = ⟨pins.det.get d, 0, false⟩ := fun d => by cases d <;> rfl
  have hslot : ∀ i, (Store.reset.slots.get i) = ⟨.empty, 0, .default⟩ := fun i => by cases i <;> rfl
  have hport : ∀ st, (State.resetAt pins q).ports.get st = .reset := fun st => by cases st <;> rfl
  refine ⟨rfl, rfl, rfl, rfl, rfl, rfl, rfl, rfl, rfl, rfl, rfl, rfl, rfl, rfl, rfl, rfl, rfl, rfl, rfl, rfl, hpos, hgrant, hslots,
    hscan, rfl, rfl, rfl, rfl, rfl, rfl, rfl, rfl, rfl, rfl, rfl, rfl, rfl, rfl, rfl, rfl, rfl, rfl, rfl, rfl, rfl, rfl, rfl, rfl,
    rfl, rfl, rfl, rfl, rfl, rfl, rfl, rfl, rfl, rfl, rfl, hdet, rfl, rfl, rfl, rfl, rfl, fun i => ?_, hport⟩
  rw [show ((State.resetAt pins q).setHead h).store.slots.get i = ⟨.empty, 0, .default⟩ from hslot i]
  exact ⟨rfl, rfl, rfl, rfl, rfl, rfl, rfl, rfl, rfl, rfl, rfl⟩

/-- No switch asserted: the search begins, or waits for the drive. -/
theorem homingBegun_of_not_overtravel {s : State} (h : s.pins.overtravel = false) :
    s.homingBegun = if s.pins.drvRdy then s.beginSearch else s := by
  have hp : (if s.pins.drvRdy then s.beginSearch else s).pins = s.pins := by split <;> rfl
  simp only [State.homingBegun, hp, h]
  rfl

theorem homingBegun_of_overtravel {s : State} (h : s.pins.overtravel = true) :
    s.homingBegun = (if s.pins.drvRdy then s.beginSearch else s).faultStill .overtravel := by
  have hp : (if s.pins.drvRdy then s.beginSearch else s).pins = s.pins := by split <;> rfl
  simp only [State.homingBegun, hp, h, if_true]

/-- The head of a search, or of the wait for the drive. -/
def searchHead (h : Head) (ready : Bool) : Head :=
  if ready then { h with drvEn := true, drvDir := false, drvSpd := 1, encTimer := .running 100000 } else h

theorem beginSearch_if_eq (s : State) :
    (if s.pins.drvRdy then s.beginSearch else s) = s.setHead (searchHead s.head s.pins.drvRdy) := by
  cases h : s.pins.drvRdy <;> rfl

/-- A fault right after device reset: nothing but the head has changed. -/
theorem faultStill_restarted (pins : Pins) (q : List Instr) (ready : Bool) (cause : FaultCause) :
    (((State.resetAt pins q).setHead (searchHead .reset ready)).faultStill cause).settle
      = (State.resetAt pins q).setHead { searchHead .reset ready with
          state := .fault, cause := cause, grant := .none, drvEn := false, drvSpd := 0, encTimer := .stopped,
          homingTimer := .stopped } := by
  cases ready <;> rfl

theorem settle_restarted_setHead (pins : Pins) (q : List Instr) (h : Head) :
    ((State.resetAt pins q).setHead h).settle = (State.resetAt pins q).setHead h := rfl

/-! ## The head link outside a procedure (R6) -/

section

variable (s : State)

@[simp] theorem offer_link (n : Notice) : (s.offer n).link = s.link := rfl
@[simp] theorem headNotice_link : s.headNotice.link = s.link := rfl
@[simp] theorem settle_link : s.settle.link = s.link := rfl

@[simp] theorem toHead_link (h : HeadState) : (s.toHead h).link = s.link := by
  obtain e | e := toHead_cases s h <;> rw [e] <;> rfl

@[simp] theorem adopt_link : s.adopt.link = s.link := by
  simp only [State.adopt]; split <;> rfl

@[simp] theorem scanReady_link (dir : ScanDir) (a : Bool) : (s.scanReady dir a).link = s.link := by
  cases a <;> simp [State.scanReady, State.startRecord, State.endStretch, State.clearContinuity]

@[simp] theorem startScan_link (dir : ScanDir) (a : Bool) : (s.startScan dir a).link = s.link := by
  simp [startScan_eq, State.onLeg, State.drive]

@[simp] theorem startPeriod_link : s.startPeriod.link = s.link := by simp [State.startPeriod]

@[simp] theorem updateEdges_link (e : EdgeTracker) : (s.updateEdges e).link = s.link := by
  simp only [State.updateEdges]; split <;> rfl

@[simp] theorem deferredAtAbort_link : s.deferredAtAbort.link = s.link := by
  simp only [State.deferredAtAbort]; split
  · simp [State.profileRestart]
  · rfl

@[simp] theorem voided_link : s.voided.link = s.link := by
  simp [State.voided, State.voidRecord, State.endStretch, State.clearContinuity]

@[simp] theorem faulted_link (cause : FaultCause) : (s.faulted cause).link = s.link := by
  simp [State.faulted, State.driveOff]

theorem stdAbort_of_idle {s : State} (h : s.std.phase = .idle) : s.stdAbort = s := by
  simp [State.stdAbort, h]

end

/-! Outside a procedure no decision of the head raises a command. -/

section

variable {s : State}

theorem faultStill_link (cause : FaultCause) (h : s.std.phase = .idle) : (s.faultStill cause).link = s.link := by
  have habort : ((s.faulted cause).scanAbortWith id).link = s.link := by
    cases hs : s.head.scan with
    | none => rw [scanAbortWith_of_none _ (by simp [hs])]; simp
    | some x => rw [scanAbortWith_of_some _ (x := x) (by simp [hs])]; simp
  rw [State.faultStill, faultEntryWith_eq, stdAbort_of_idle (by simp [State.faulted, h])]
  exact habort

theorem beginApproach_link (g : Grant) (h : s.std.phase = .idle) : (s.beginApproach g).link = s.link := by
  have ha : (s.approaching g).link = s.link := by
    simp only [State.approaching]; split <;> simp [State.grantTo, State.drive]
  rw [beginApproach_eq]; split
  · exact faultStill_link _ h
  · split
    · rw [State.arriveApproach, startScan_link, ha]
    · exact ha

theorem arrivePoint_link : s.arrivePoint.link = s.link := by simp [State.arrivePoint, State.driveOff]

theorem beginPositioning_link (st : Station) (p : Nat) (h : s.std.phase = .idle) : (s.beginPositioning st p).link = s.link := by
  have hp : (s.positioning st p).link = s.link := by simp [State.positioning, State.grantTo, State.drive]
  rw [beginPositioning_eq]; split
  · exact faultStill_link _ h
  · split
    · rw [arrivePoint_link, hp]
    · exact hp

theorem stayParked_link (g : Grant) : (s.stayParked g).link = s.link := by
  simp only [State.stayParked, State.enterHead]; split <;> simp [State.grantTo]

theorem decideParkedOther_link (g : Grant) (h : s.std.phase = .idle) : (s.decideParkedOther g).link = s.link := by
  cases g with
  | scan => exact beginApproach_link _ h
  | point st p => exact beginPositioning_link st p h
  | _ => exact stayParked_link _

theorem standardizing_link : s.standardizing.link = s.link := by
  simp only [State.standardizing]; split <;> simp [State.grantTo]

theorem decideParked_link (h : s.std.phase = .idle) : s.decideParked.link = s.link := by
  rw [decideParked_eq]; split
  · rw [startStd_eq]; split
    · exact standardizing_link
    · rw [decideParkedOther_link _ (by simp [State.stdNoRecord, StdUnit.finish])]
      simp [State.stdNoRecord, State.consumeStd, State.stdNotice, standardizing_link]
  · exact decideParkedOther_link _ h

theorem beginReturning_link (g : Grant) (h : s.std.phase = .idle) : (s.beginReturning g).link = s.link := by
  have hr : (s.returning g).link = s.link := by simp [State.returning, State.grantTo, State.drive]
  rw [beginReturning_eq]; split
  · exact faultStill_link _ h
  · split
    · rw [State.arriveParked, decideParked_link (by simp [State.returning, State.driveOff, State.grantTo, State.drive, h])]
      simp [State.driveOff, hr]
    · exact hr

theorem pointPeriodEnd_link (h : s.std.phase = .idle) : s.pointPeriodEnd.link = s.link := by
  simp only [State.pointPeriodEnd]; split
  · split
    · simp only [State.decidePeriodEnd]; split
      · exact beginReturning_link _ h
      · split
        · simp [State.grantTo, State.recordPeriod]
        · exact beginPositioning_link _ _ h
      · exact beginApproach_link _ h
      all_goals exact beginReturning_link _ h
    · rfl
  · rfl

end

/-- A head command is being sent, or waits (R6). -/
theorem headTx_of_none {s : State} (h : s.link.sending = none) : s.headTx = none := by simp [State.headTx, h]

theorem headTx_of_some {s : State} {c : HeadCommand} (h : s.link.sending = some c) :
    s.headTx = some (sentCharacters (headCommandBytes c)) := by simp [State.headTx, h]

/-- A slot without an accepted sample, outside a procedure, that ends no window (R2). -/
theorem declareSlot_link_of_dropped {s : State} {d : SlotDecl} (hc : s.link.slotCount < 63) (hd : s.link.acceptedOf d = none)
    (h : s.std.phase = .idle) : (s.declareSlot d).link = s.link.declare d := by
  rw [State.declareSlot_plain d hc, hd]
  have hphase : ((s.setLink (s.link.declare d)).periodSlot.takeSample none).std.phase = .idle := h
  rw [Option.map_none, State.stdSlot_idle _ hphase, pointPeriodEnd_link hphase]
  rfl

end Sys2Proof.Machine

namespace Sys2Proof.Safety

open Sys2Proof Sys2Proof.Machine

/-- Settles O53: with no switch asserted the head searches or waits, else it faults; nothing else leaves its reset value. -/
theorem deviceResetState : Obligations.DeviceResetState := by
  refine ⟨fun s hA hB => ?_, fun s hot => ?_, ?_, rfl, rfl, rfl, rfl⟩
  · have hot : (State.resetAt s.pins s.pending).pins.overtravel = false := by
      simp [Pins.overtravel, State.resetAt, hA, hB]
    refine ⟨(State.resetAt s.pins s.pending).setHead (searchHead .reset s.pins.drvRdy), ?_, ?_, rfl, rfl, ?_⟩
    · rw [exec_deviceReset, State.restarted, homingBegun_of_not_overtravel hot, beginSearch_if_eq]
      rfl
    · apply hasResetValues_setHead <;> (cases s.pins.drvRdy <;> rfl)
    · cases h : s.pins.drvRdy <;> simp [searchHead, Head.reset, Config.homing]
  · have hot : (State.resetAt s.pins s.pending).pins.overtravel = true := by
      simpa [Pins.overtravel, State.resetAt] using hot
    have hexec : exec .deviceReset s = .next (((State.resetAt s.pins s.pending).setHead
        (searchHead .reset s.pins.drvRdy)).faultStill .overtravel).settle := by
      rw [exec_deviceReset, State.restarted, homingBegun_of_overtravel hot, beginSearch_if_eq]
      rfl
    rw [faultStill_restarted] at hexec
    refine ⟨_, hexec, ?_, rfl, rfl, rfl, rfl, rfl, rfl⟩
    apply hasResetValues_setHead <;> (cases s.pins.drvRdy <;> rfl)
  · exact hasResetValues_setHead .low [] (h := .reset) rfl rfl rfl rfl

/-- Settles O5: the first arrival raises REF_OUT, nothing else raises a command outside a procedure; the three characters. -/
theorem headCommandsOneAtATime : Obligations.HeadCommandsOneAtATime := by
  refine ⟨fun s => rfl, fun l c => ⟨fun h => by simp [HeadLink.raise, h], fun h => ?raised⟩, ?first, fun s => ⟨headTx_of_none, fun c h => ?sent⟩⟩
  case raised =>
    obtain ⟨x, hx⟩ := Option.ne_none_iff_exists'.mp h
    simp [HeadLink.raise, hx]
  case first =>
    intro t s htimer hlost hnone hcount hidle
    have hdropped : (s.setHeadRx none).link.acceptedOf (.arrival t) = none := by
      simp [HeadLink.acceptedOf, HeadLink.accepts, State.setHeadRx, hlost]
    have hlink := declareSlot_link_of_dropped (s := s.setHeadRx none) hcount hdropped hidle
    refine ⟨((s.setHeadRx none).declareSlot (.arrival t)).settle, rfl, ?_⟩
    rw [settle_link, hlink]
    simp [HeadLink.declare, HeadLink.arrive, HeadLink.firstArrival, HeadLink.raise, State.setHeadRx, htimer, hnone, Timer.isRunning]
  case sent =>
    rw [headTx_of_some h]
    cases c <;> simp only [headCommandBytes, le16_toNat] <;> rfl

end Sys2Proof.Safety
end


section
/-! SUPPORT AND PROOF. The pick and its fresh record (R89), the end of a telegram (R185, R193), notices at a port
(R190 to R194). -/

namespace Sys2Proof.Machine

open Sys2Proof Sys2Proof.Safety

/-! ## The pick (R89) -/

theorem ScanRecord.open_iff {r : ScanRecord} : r.open_ = true ↔ r.status = .free ∨ r.status = .void := by
  simp [ScanRecord.open_]

/-- Nobody holds a record whose hold set is the empty one. -/
theorem ScanRecord.reusable_iff {r : ScanRecord} :
    r.reusable = true ↔ r.status = .complete ∧ r.holds = ⟨false, false, false, false⟩ := by
  cases r with
  | mk status number dir slot generation layout zoneCount epoch mdStart mdEnd speed edges locked quality meas holds =>
    obtain ⟨a, b, c, d⟩ := holds
    simp [ScanRecord.reusable, Four.any]
    grind

theorem Ring.findIdx?_open {g : Ring} {i : Nat} {r : ScanRecord} (hi : g.records[i]? = some r)
    (ho : r.status = .free ∨ r.status = .void)
    (hmin : ∀ j r', j < i → g.records[j]? = some r' → r'.status ≠ .free ∧ r'.status ≠ .void) :
    g.records.findIdx? ScanRecord.open_ = some i := by
  obtain ⟨hlt, rfl⟩ := List.getElem?_eq_some_iff.mp hi
  refine List.findIdx?_eq_some_iff_getElem.mpr ⟨hlt, ScanRecord.open_iff.mpr ho, fun j hj => ?_⟩
  obtain ⟨hf, hv⟩ := hmin j _ hj (List.getElem?_eq_getElem (hj.trans hlt))
  rw [ScanRecord.open_iff]
  exact not_or.mpr ⟨hf, hv⟩

theorem Ring.findIdx?_open_none {g : Ring} (h : ∀ r ∈ g.records, r.status ≠ .free ∧ r.status ≠ .void) :
    g.records.findIdx? ScanRecord.open_ = none := by
  refine List.findIdx?_eq_none_iff.mpr fun r hr => ?_
  obtain ⟨hf, hv⟩ := h r hr
  rw [Bool.eq_false_iff, ne_eq, ScanRecord.open_iff]
  exact not_or.mpr ⟨hf, hv⟩

theorem recipe_of_active {s : State} {k : SlotNo} (h : s.store.active = some k) : s.recipe = (s.store.slots.get k).recipe := by
  simp [State.recipe, State.activeRecipe, h]

/-! ## The last character of a telegram (R185, R193) -/

/-- The ring after a telegram: a served READ SCAN reply releases its station. -/
theorem transmitted_of_not_scan {s : State} {st : Station} (h : (s.ports.get st).sendsScan = false) :
    s.transmitted st = s.onPort st Port.lastCharacter := by
  simp [State.transmitted, h]

theorem transmitted_of_scan {s : State} {st : Station} (h : (s.ports.get st).sendsScan = true) :
    s.transmitted st = (s.setRing (s.ring.release st)).onPort st Port.lastCharacter := by
  simp [State.transmitted, h]

theorem Port.sendsScan_of_reply {p : Port} {r : Reply} {rest : List Reply} (ht : p.tx = .reply) (hr : p.replies = r :: rest) :
    p.sendsScan = true ↔ ∃ i q, r.body = .scan i q := by
  simp only [Port.sendsScan, ht, hr]
  cases r.body <;> simp

/-- Two changes of a port that agree on the port make the same state. -/
theorem State.onPort_congr {s : State} {st : Station} {f g : Port → Port} (h : f (s.ports.get st) = g (s.ports.get st)) :
    s.onPort st f = s.onPort st g := by
  simp only [State.onPort, h]

/-- The body of a telegram is its header, then its payload, then the check (12.1). -/
theorem sentAs_telegram (kind tag : Byte) (payload : List Byte) :
    SentAs (sentCharacters (telegramBytes kind tag payload)) kind tag payload := by
  refine ⟨?_, sentCharacters_mark _⟩
  rw [sentCharacters_data, telegramBytes, le16_toNat]
  rfl

theorem Reply.kindByte_eq (r : Reply) :
    r.kindByte = match r.kind with
      | some k => BitVec.ofNat 8 k.code + 0x40
      | none => 0x40 := by
  obtain ⟨kind, tag, b⟩ := r
  cases kind with
  | none => rfl
  | some k => cases k <;> rfl

theorem NoticeKind.code_byte (k : NoticeKind) : byte1 k.code = 0x81 + BitVec.ofNat 8 k.bit := by cases k <;> rfl

/-! ## A notice at a port (R190 to R194) -/

theorem Subscription.admits_iff {x : Subscription} {n : Notice} : x.admits n = true ↔ admittedBy x n := by
  cases n <;> simp [Subscription.admits, admittedBy]

theorem Port.takes_iff {p : Port} {n : Notice} : p.takes n = true ↔ TakesNotice p n := by
  simp [Port.takes, TakesNotice, Subscription.admits_iff, Subscription.includes, and_assoc]

theorem offer_get_of_taken {s : State} {n : Notice} {st : Station} (h : TakesNotice (s.ports.get st) n) :
    (s.offer n).ports.get st = (s.ports.get st).enqueue n := by
  rw [State.offer_get, Port.offer, if_pos (Port.takes_iff.mpr h)]

theorem offer_get_of_not_taken {s : State} {n : Notice} {st : Station} (h : ¬TakesNotice (s.ports.get st) n) :
    (s.offer n).ports.get st = s.ports.get st := by
  rw [State.offer_get, Port.offer, if_neg (mt Port.takes_iff.mp h)]

/-- A kind that does not wait yet goes to the back. -/
theorem replaceOrAppend_of_new {n : Notice} {l : List NoticeEntry} (h : ∀ e ∈ l, e.content.kind ≠ n.kind) :
    replaceOrAppend n l = l ++ [⟨n, none⟩] := by
  induction l with
  | nil => rfl
  | cons e rest ih =>
    rw [replaceOrAppend, if_neg (h e (by simp)), ih fun x hx => h x (by simp [hx])]
    rfl

/-- The first entry of the kind is replaced in place. -/
theorem replaceOrAppend_of_waiting {n : Notice} {front back : List NoticeEntry} {e : NoticeEntry}
    (he : e.content.kind = n.kind) (h : ∀ x ∈ front, x.content.kind ≠ n.kind) :
    replaceOrAppend n (front ++ e :: back) = front ++ ⟨n, none⟩ :: back := by
  induction front with
  | nil => simp [replaceOrAppend, he]
  | cons x front ih =>
    rw [List.cons_append, replaceOrAppend, if_neg (h x (by simp)), ih fun y hy => h y (by simp [hy])]
    rfl

theorem Port.enqueue_of_new {p : Port} {n : Notice} (h : ∀ e ∈ p.notices, e.content.kind ≠ n.kind) :
    p.enqueue n = { p with notices := p.notices ++ [⟨n, none⟩] } := by
  obtain e | ⟨e, rest, hp, ⟨hk, -⟩ | ⟨-, e'⟩⟩ := p.enqueue_cases n
  · rw [e, replaceOrAppend_of_new h]
  · exact absurd hk (h e (by simp [hp]))
  · rw [e', replaceOrAppend_of_new fun x hx => h x (by simp [hp, hx]), hp]
    rfl

/-- An entry being sent keeps its content and takes the notice as its follow-up; a waiting one is replaced (R192, R193). -/
theorem Port.enqueue_of_waiting {p : Port} {n : Notice} {front back : List NoticeEntry} {e : NoticeEntry}
    (hp : p.notices = front ++ e :: back) (he : e.content.kind = n.kind) (h : ∀ x ∈ front, x.content.kind ≠ n.kind) :
    p.enqueue n = { p with notices :=
      front ++ (if p.tx = .notice ∧ front = [] then ⟨e.content, some n⟩ else ⟨n, none⟩) :: back } := by
  have hrepl := replaceOrAppend_of_waiting (back := back) he h
  cases ht : p.tx with
  | notice =>
    cases front with
    | nil => simp [Port.enqueue, ht, hp, he]
    | cons x front =>
      have hx := h x (by simp)
      rw [List.cons_append, replaceOrAppend, if_neg hx] at hrepl
      simp only [Port.enqueue, ht, hp, List.cons_append, if_neg hx, hrepl]
      simp
  | _ => simp [Port.enqueue, ht, hp, hrepl]

/-! ## SUBSCRIBE (R194) -/

theorem flagOf?_of_le {n : Nat} (h : n ≤ 1) : flagOf? n = some (decide (n = 1)) := by
  interval_cases n <;> rfl

theorem flagOf?_of_lt {n : Nat} (h : 1 < n) : flagOf? n = none := by
  obtain ⟨m, rfl⟩ : ∃ m, n = m + 2 := ⟨n - 2, by omega⟩
  rfl

/-- The mask's upper byte is 0 (12.2). -/
theorem subscriptionOf?_of_valid {m0 l h : Byte} (hl : l.toNat ≤ 1) (hh : h.toNat ≤ 1) :
    subscriptionOf? [m0, 0, l, h] = some ⟨m0, decide (l.toNat = 1), decide (h.toNat = 1)⟩ := by
  have hm := m0.isLt
  simp [subscriptionOf?, u8At, u16At, flagOf?_of_le hl, flagOf?_of_le hh]
  omega

theorem subscriptionOf?_of_invalid {m0 m1 l h : Byte} (hv : m1 ≠ 0 ∨ 1 < l.toNat ∨ 1 < h.toNat) :
    subscriptionOf? [m0, m1, l, h] = none := by
  have hfields : u8At [m0, m1, l, h] 2 = l.toNat ∧ u8At [m0, m1, l, h] 3 = h.toNat
      ∧ u16At [m0, m1, l, h] 0 = m0.toNat + 256 * m1.toNat := ⟨rfl, rfl, rfl⟩
  obtain ⟨e2, e3, e0⟩ := hfields
  simp only [subscriptionOf?, e2, e3, e0]
  obtain hm | hl | hh := hv
  · have hpos : m1.toNat ≠ 0 := fun h0 => hm (BitVec.eq_of_toNat_eq h0)
    split
    · rw [if_neg (by omega)]
    · rfl
  · rw [flagOf?_of_lt hl]
  · rw [flagOf?_of_lt hh]
    split <;> simp_all

/-- The entries that a subscription leaves in the queue, the one being sent first (R194). -/
theorem Port.resubscribe_notices (p : Port) (x : Subscription) :
    (p.resubscribe x).notices =
      if p.tx = .notice then
        (p.notices.take 1).map (fun e => if decide (e.content.kind = .breakState) || x.mask.getLsbD e.content.kind.bit then e
            else { e with followUp := none })
          ++ (p.notices.drop 1).filter (fun e => decide (e.content.kind = .breakState) || x.mask.getLsbD e.content.kind.bit)
      else p.notices.filter (fun e => decide (e.content.kind = .breakState) || x.mask.getLsbD e.content.kind.bit) := by
  have hk : ∀ e : NoticeEntry, (e.content.kind == NoticeKind.breakState) = decide (e.content.kind = .breakState) := fun e => by
    cases e.content.kind <;> rfl
  cases ht : p.tx <;> cases hn : p.notices <;> simp [Port.resubscribe, ht, hn, Subscription.includes, hk]

end Sys2Proof.Machine

namespace Sys2Proof.Safety

open Sys2Proof Sys2Proof.Machine

/-- Settles O29: the first open record, else the reusable one furthest behind newest. -/
theorem pickTakesOpenElseOldest : Obligations.PickTakesOpenElseOldest := by
  refine ⟨fun g i r hi ho hmin => Ring.pick_of_open (Ring.findIdx?_open hi ho hmin), fun g hopen ⟨r, hr, hc, hh⟩ => ?oldest,
    fun s dir k hk => ?fresh⟩
  case oldest =>
    have hat : ∀ {r : ScanRecord}, r ∈ g.records → ∃ i < g.records.length, g.at i = r := fun hr => by
      obtain ⟨i, hi⟩ := List.mem_iff_getElem?.mp hr
      exact ⟨i, (List.getElem?_eq_some_iff.mp hi).1, Ring.at_of_getElem? hi⟩
    obtain ⟨i, hi, rfl⟩ := hat hr
    obtain ⟨hlt, hreuse, hmax⟩ := Ring.pick_oldest (Ring.findIdx?_open_none hopen) hi (ScanRecord.reusable_iff.mpr ⟨hc, hh⟩)
    obtain ⟨hcomplete, hunheld⟩ := ScanRecord.reusable_iff.mp hreuse
    refine ⟨_, Ring.getElem?_at hlt, hcomplete, hunheld, fun r' hr' hc' hh' => ?_⟩
    obtain ⟨j, hj, rfl⟩ := hat hr'
    exact hmax j hj (ScanRecord.reusable_iff.mpr ⟨hc', hh'⟩)
  case fresh =>
    have hrec := recipe_of_active hk
    simp only [State.freshRecord, hk, hrec, Option.getD_some, Quality.clear, standardized]
    refine ⟨trivial, rfl, trivial, trivial, trivial, trivial, trivial, trivial, trivial, rfl, fun m => ?_, ?_⟩
    · cases m <;> rfl
    · simp

/-- Settles O51: the entry leaves its queue, an idle transmitter chooses, and the telegram goes out with its check. -/
theorem lastCharacterLeavesQueue : Obligations.LastCharacterLeavesQueue := by
  have hexec : ∀ (s : State) (st : Station), exec (.lastCharacterSent st) s = .next (s.transmitted st).settle := fun _ _ => rfl
  refine ⟨fun s st => ⟨fun ht => ?idle, fun r rest ht hr => ⟨fun hb => ?reply, fun hb => ?scan⟩, fun e rest ht hn => ?notice⟩,
    fun s st => ?choice, fun s st => ⟨fun ht => ?silent, fun r rest ht hr => ?sentReply, fun e rest ht hn => ?sentNotice⟩⟩
  case idle =>
    have hself : Port.lastCharacter (s.ports.get st) = s.ports.get st := by simp [Port.lastCharacter, ht]
    rw [hexec, transmitted_of_not_scan (by simp [Port.sendsScan, ht]), State.onPort, hself, Four.set_get]
    rfl
  case reply =>
    have hnot : (s.ports.get st).sendsScan = false := by
      rw [Bool.eq_false_iff, ne_eq, Port.sendsScan_of_reply ht hr]
      exact fun ⟨i, q, h⟩ => hb i q h
    rw [hexec, transmitted_of_not_scan hnot, State.onPort_congr (g := fun p => { p with replies := rest, tx := .idle })]
    simp [Port.lastCharacter, ht, hr]
  case scan =>
    rw [hexec, transmitted_of_scan ((Port.sendsScan_of_reply ht hr).mpr hb),
      State.onPort_congr (g := fun p => { p with replies := rest, tx := .idle })]
    · rfl
    · simp [Port.lastCharacter, ht, hr]
  case notice =>
    rw [hexec, transmitted_of_not_scan (by simp [Port.sendsScan, ht]), State.onPort_congr]
    cases hf : e.followUp <;> simp [Port.lastCharacter, ht, hn, hf]
  case choice =>
    rw [State.settle_get]
    obtain ⟨rx, gap, present, timer, pend, replies, dropped, tx, sub, notices⟩ := s.ports.get st
    cases tx <;> cases replies <;> cases notices <;> rfl
  case silent => simp [State.txTelegram, Port.txTelegram, ht]
  case sentReply =>
    refine ⟨_, by simp [State.txTelegram, Port.txTelegram, ht, hr]; rfl, ?_⟩
    rw [Reply.kindByte_eq]
    exact sentAs_telegram _ _ _
  case sentNotice =>
    refine ⟨_, by simp [State.txTelegram, Port.txTelegram, ht, hn]; rfl, ?_⟩
    rw [NoticeKind.code_byte]
    exact sentAs_telegram _ _ _

/-- Settles O52: the mask and the two options decide what is taken; a kind stands once in the queue. -/
theorem subscribeAndOffers : Obligations.SubscribeAndOffers := by
  refine ⟨fun s st tag m0 m1 l h hr => ?subscribe, fun s n st => ⟨offer_get_of_not_taken, fun ht hnew => ?new,
    fun front e back ht hp he hfront => ?waiting⟩⟩
  case subscribe =>
    have hexec : exec (.subscribe st tag [m0, m1, l, h]) s
        = .next ((heard s st).serveSubscribe st tag [m0, m1, l, h]).settle :=
      State.request_ready .subscribe s st tag _ hr (by simp) rfl
    refine ⟨fun hv => ?_, fun hm hl hh => ?_⟩
    · rw [hexec, State.serveSubscribe, subscriptionOf?_of_invalid hv, answered_eq]
      rfl
    · subst hm
      rw [hexec, State.serveSubscribe, subscriptionOf?_of_valid hl hh]
      simp only [State.reply, heard, State.onPort_onPort]
      rw [State.onPort_congr]
      have hnotices := Port.resubscribe_notices (heardPort (s.ports.get st)) ⟨m0, decide (l.toNat = 1), decide (h.toNat = 1)⟩
      simp only [Port.queueReply]
      rw [hnotices]
      rfl
  case new => rw [offer_get_of_taken ht, Port.enqueue_of_new hnew]
  case waiting => rw [offer_get_of_taken ht, Port.enqueue_of_waiting hp he hfront]

end Sys2Proof.Safety
end


section
/-! SUPPORT AND PROOF. The filter of a bin (R72 to R76), counts and the index (R24, R29), RESTART PROFILES (R81 to R83),
VALIDATE (R166). -/

namespace Sys2Proof.Machine

open Sys2Proof Sys2Proof.Safety

/-! ## A telegram heard leaves the unit as it is -/

section

variable (s : State) (st : Station)

@[simp] theorem heard_head : (heard s st).head = s.head := rfl
@[simp] theorem heard_std : (heard s st).std = s.std := rfl
@[simp] theorem heard_pins : (heard s st).pins = s.pins := rfl
@[simp] theorem heard_ring : (heard s st).ring = s.ring := rfl
@[simp] theorem heard_brk : (heard s st).brk = s.brk := rfl
@[simp] theorem heard_store : (heard s st).store = s.store := rfl
@[simp] theorem heard_profile : (heard s st).profile = s.profile := rfl
@[simp] theorem heard_edges : (heard s st).edges = s.edges := rfl

/-- A reply to the telegram just heard. -/
theorem heard_reply (k : RequestKind) (tag : Byte) (b : ReplyBody) :
    (heard s st).reply st k tag b = answered s st k tag b := (answered_eq s st k tag b).symm

theorem heard_answer (k : RequestKind) (tag : Byte) (c : Status) :
    (heard s st).answer st k tag c = answered s st k tag (.status c) := heard_reply s st k tag _

end

/-! ## The filter (R72 to R76) -/

section

variable {cfg : FilterCfg} {b : FilterBin}

theorem update_none (cfg : FilterCfg) (b : FilterBin) :
    b.update cfg none = if b.value ≠ none ∧ cfg.voidLimit ≤ min 15 (b.age + 1) then ⟨none, .none, min 15 (b.age + 1)⟩
      else { b with age := min 15 (b.age + 1) } := by
  cases h : b.value <;> simp [FilterBin.update, h]

theorem update_of_void (d : Int) (h : b.value = none) : b.update cfg (some d) = ⟨some d, .none, 0⟩ := by
  simp [FilterBin.update, h]

theorem update_of_normal {d f : Int} (h : b.value = some f) (hs : cfg.stepLimit = 0 ∨ |d - f| ≤ cfg.stepLimit) :
    b.update cfg (some d) = ⟨some (normalUpdate cfg.weight f (d - f)), .none, 0⟩ := by
  have hs' : cfg.stepLimit = 0 ∨ (d - f).natAbs ≤ cfg.stepLimit := by rw [Int.abs_eq_natAbs] at hs; omega
  simp only [FilterBin.update, h, if_pos hs']

theorem update_of_step {d f : Int} (h : b.value = some f) (h0 : cfg.stepLimit ≠ 0) (hs : (cfg.stepLimit : Int) < |d - f|) :
    b.update cfg (some d) = if b.sign = signOf (d - f) then ⟨some d, .none, 0⟩
      else ⟨some (normalUpdate cfg.weight f (d - f)), signOf (d - f), 0⟩ := by
  have hs' : ¬(cfg.stepLimit = 0 ∨ (d - f).natAbs ≤ cfg.stepLimit) := by rw [Int.abs_eq_natAbs] at hs; omega
  simp only [FilterBin.update, h, if_neg hs']

/-- The value after a valid deviation: the deviation, or a normal update from the old value. -/
theorem update_value (cfg : FilterCfg) (b : FilterBin) (d : Int) :
    (b.update cfg (some d)).value = some d
      ∨ ∃ f, b.value = some f ∧ (b.update cfg (some d)).value = some (normalUpdate cfg.weight f (d - f)) := by
  cases h : b.value with
  | none => exact Or.inl (by rw [update_of_void d h])
  | some f =>
    by_cases hs : cfg.stepLimit = 0 ∨ |d - f| ≤ cfg.stepLimit
    · exact Or.inr ⟨f, rfl, by rw [update_of_normal h hs]⟩
    · rw [update_of_step h (by tauto) (by omega)]
      split
      · exact Or.inl rfl
      · exact Or.inr ⟨f, rfl, rfl⟩

end

/-- A share of at most sixteen sixteenths lies between 0 and the whole (R76). -/
theorem roundHalfUp_share_le {n w : Nat} (hw : w ≤ 16) : roundHalfUp (n * w) 16 ≤ n := by
  have h : n * w ≤ n * 16 := Nat.mul_le_mul_left n hw
  simp only [roundHalfUp]
  omega

theorem normalUpdate_between {w : Nat} (hw : w ≤ 16) (f d : Int) :
    f ≤ normalUpdate w f (d - f) ∧ normalUpdate w f (d - f) ≤ d ∨ d ≤ normalUpdate w f (d - f) ∧ normalUpdate w f (d - f) ≤ f := by
  have hshare := roundHalfUp_share_le (n := (d - f).natAbs) hw
  have habs : ((d - f) * (w : Int)).natAbs = (d - f).natAbs * w := by rw [Int.natAbs_mul, Int.natAbs_natCast]
  simp only [normalUpdate, roundHalfAway, habs]
  by_cases hneg : d - f < 0
  · right
    split
    · omega
    · next h =>
      have : (d - f) * (w : Int) = 0 := le_antisymm (mul_nonpos_of_nonpos_of_nonneg hneg.le (by positivity)) (by omega)
      rw [this] at habs
      rw [← habs] at hshare ⊢
      simp [roundHalfUp]; omega
  · left
    have hpos : ¬(d - f) * (w : Int) < 0 := not_lt.mpr (mul_nonneg (by omega) (by positivity))
    rw [if_neg hpos]
    omega

/-! ## Counts and the index (R24, R29) -/

theorem counted_eq (h : Head) (dir : CountDir) : counted h dir = h.count dir := by
  cases dir <;> cases he : h.encTimer <;> simp [counted, Head.count, he, Timer.restartIfRunning, Config.encoderLoss]

theorem exec_encoderCount (dir : CountDir) (s : State) :
    exec (.encoderCount dir) s = .next ((s.setHead (counted s.head dir)).arrival).settle := by
  rw [counted_eq]; rfl

/-- A head that is not at its target goes on (R24). -/
theorem arrival_of_moving {s : State} (h : moveTarget s ≠ some s.head.position.toNat) : s.arrival = s := by
  have hzero : s.head.position = 0 ↔ 0 = s.head.position.toNat := by
    rw [eq_comm, BitVec.toNat_eq]; rfl
  simp only [moveTarget] at h
  simp only [State.arrival]
  cases hs : s.head.state with
  | scanning leg =>
    cases leg with
    | approach => simp [hs, eq_comm] at h ⊢; exact fun hp => absurd hp h
    | _ =>
      cases hx : s.head.scan with
      | none => rfl
      | some x =>
        obtain ⟨dir, a, b⟩ := x
        cases dir <;> (simp [hs, hx, eq_comm] at h ⊢; exact fun hp => absurd hp h)
  | positioning => simp [hs, eq_comm] at h ⊢; exact fun hp => absurd hp h
  | returning => simp [hs] at h; exact if_neg fun hp => h (hzero.mp hp)
  | _ => rfl

/-- No claim at park: the head stays without a grant (R41). -/
theorem decideParked_of_none {s : State} (h : s.winner = .none) : s.decideParked = s.stayParked .none := by
  rw [decideParked_eq, h, if_neg (by decide)]; rfl

/-! ## RESTART PROFILES (R57, R81 to R83) -/

/-- A restart withdraws the locked interval, and with it the assessment. -/
theorem profileRestart_eq (s : State) :
    s.profileRestart = { s with
      profile := restartedProfile s.profile
      edges := restartedEdges s.edges
      absent := if s.edges.locked then ⟨false, 0, 0, false⟩ else s.absent
      hole := if s.edges.locked then { s.hole with run := 0, marker := false } else s.hole } := by
  have hnot : (!s.edges.restart.locked) = true := rfl
  cases h : s.edges.locked with
  | false =>
    simp [State.profileRestart, State.updateEdges, h]
    rfl
  | true =>
    simp [State.profileRestart, State.updateEdges, h, hnot]
    rfl

/-! ## VALIDATE (R166) -/

theorem ix4?_of_lt {n : Nat} (h : 3 < n) : ix4? n = none := by
  obtain ⟨m, rfl⟩ : ∃ m, n = m + 4 := ⟨n - 4, by omega⟩
  rfl

/-- The zones one after another, each starting above the end of the one before (R166, check 4). -/
theorem zonesOk_iff (n : Nat) (prev : Option Nat) (l : List Zone) :
    zonesOk n prev l = true ↔ (∀ z ∈ l, z.first ≤ z.last ∧ z.last < n)
      ∧ (∀ z ∈ l.head?, ∀ p ∈ prev, p < z.first)
      ∧ ∀ (k : Nat) (y z : Zone), l[k]? = some y → l[k + 1]? = some z → y.last < z.first := by
  induction l generalizing prev with
  | nil => simp [zonesOk]
  | cons z rest ih =>
    have hstep : zonesOk n prev (z :: rest) = (decide (z.first ≤ z.last) && decide (z.last < n)
        && prev.all (fun l => decide (l < z.first)) && zonesOk n (some z.last) rest) := by cases prev <;> rfl
    have hnext : (∀ (k : Nat) (y w : Zone), (z :: rest)[k]? = some y → (z :: rest)[k + 1]? = some w → y.last < w.first)
        ↔ (∀ w ∈ rest.head?, z.last < w.first)
          ∧ ∀ (k : Nat) (y w : Zone), rest[k]? = some y → rest[k + 1]? = some w → y.last < w.first := by
      constructor
      · intro h
        refine ⟨fun w hw => h 0 z w rfl ?_, fun k y w hy hw => h (k + 1) y w (by simpa using hy) (by simpa using hw)⟩
        cases rest <;> simp_all
      · rintro ⟨h0, hs⟩ k y w hy hw
        cases k with
        | zero =>
          obtain rfl : z = y := by simpa using hy
          exact h0 w (by cases rest <;> simp_all)
        | succ k => exact hs k y w (by simpa using hy) (by simpa using hw)
    rw [hstep, Bool.and_eq_true, Bool.and_eq_true, Bool.and_eq_true, ih, Option.all_eq_true, hnext]
    simp
    tauto

theorem zoneTargetsOk_iff (r : Recipe) : zoneTargetsOk r = true ↔
    (r.zones = [] → ∀ e ∈ r.limits.takeWhile (fun (e : LimitEntry) => e.target != .end_),
      e.target ≠ .zoneMax ∧ e.target ≠ .zoneMin) := by
  simp only [zoneTargetsOk, liveEntries, Bool.or_eq_true, List.all_eq_true, Bool.and_eq_true, bne_iff_ne]
  cases r.zones <;> simp

/-- VALIDATE's check of a number, as the store decides it. -/
def Store.check (st : Store) (r : Recipe) : Nat → Bool
  | 1 => st.machineSet
  | 2 => decide (400 ≤ r.geometry.a) && decide (r.geometry.a < r.geometry.b) && decide (r.geometry.b ≤ st.machine.frameLength)
  | 3 => decide (r.geometry.a ≤ r.geometry.origin) && decide (r.geometry.origin + r.geometry.n * r.geometry.w ≤ r.geometry.b)
  | 4 => zonesOk r.geometry.n none r.zones
  | 5 => zoneTargetsOk r
  | _ => true

theorem check_iff (s : State) (r : Recipe) (n : Nat) : s.store.check r n = true ↔ checkPasses s r n := by
  match n with
  | 0 => simp [Store.check, checkPasses]
  | 1 => simp [Store.check, checkPasses]
  | 2 => simp [Store.check, checkPasses, and_assoc]
  | 3 => simp [Store.check, checkPasses]
  | 4 => simp [Store.check, checkPasses, zonesOk_iff]
  | 5 => rw [Store.check, zoneTargetsOk_iff]; rfl
  | n + 6 => simp [Store.check, checkPasses]

theorem failedCheck_eq (st : Store) (r : Recipe) :
    st.failedCheck r = [1, 2, 3, 4, 5].find? (fun n => !st.check r n) := by
  simp only [Store.failedCheck, Store.check, List.find?_cons, List.find?_nil]
  repeat' split
  all_goals simp_all

/-- The first failing check is reported, and none if all pass. -/
theorem failedCheck_of_fails {s : State} {r : Recipe} {n : Nat} (h1 : 1 ≤ n) (h5 : n ≤ 5) (hn : ¬checkPasses s r n)
    (hbefore : ∀ m, 1 ≤ m → m < n → checkPasses s r m) : s.store.failedCheck r = some n := by
  have hfail : s.store.check r n = false := by rwa [Bool.eq_false_iff, ne_eq, check_iff]
  have hpass : ∀ m, 1 ≤ m → m < n → s.store.check r m = true := fun m h h' => (check_iff s r m).mpr (hbefore m h h')
  rw [failedCheck_eq]
  interval_cases n <;> simp [hfail, hpass]

theorem failedCheck_of_passes {s : State} {r : Recipe} (h : ∀ m, 1 ≤ m → m ≤ 5 → checkPasses s r m) :
    s.store.failedCheck r = none := by
  have hpass : ∀ m, 1 ≤ m → m ≤ 5 → s.store.check r m = true := fun m h1 h5 => (check_iff s r m).mpr (h m h1 h5)
  rw [failedCheck_eq]
  simp [hpass]

section

variable {s : State} {i : SlotNo}

theorem validateSlot_of_fails {st : Station} {tag : Byte} {n : Nat}
    (h : (s.store.slots.get i).state = .editing ∨ (s.store.slots.get i).state = .valid)
    (hf : s.store.failedCheck (s.store.slots.get i).recipe = some n) :
    s.validateSlot st tag i = s.reply st .validate tag (.failedCheck n) := by
  obtain h | h := h <;> simp only [State.validateSlot, h, hf]

theorem validateSlot_of_passes {st : Station} {tag : Byte}
    (h : (s.store.slots.get i).state = .editing ∨ (s.store.slots.get i).state = .valid)
    (hf : s.store.failedCheck (s.store.slots.get i).recipe = none) :
    s.validateSlot st tag i
      = (s.setStore (s.store.onSlot i (fun y => { y with state := .valid }))).answer st .validate tag .ok := by
  obtain h | h := h <;> simp only [State.validateSlot, h, hf]

end

end Sys2Proof.Machine

namespace Sys2Proof.Safety

open Sys2Proof Sys2Proof.Machine

/-- Settles O25: the table's rows, and the value between the old one and the deviation. -/
theorem filterFollowsTable : Obligations.FilterFollowsTable := by
  refine ⟨fun cfg b => ⟨update_none cfg b, fun d h => update_of_void d h, fun d f h => ⟨update_of_normal h, ?kept, ?changed⟩⟩,
    fun cfg b h1 h16 => ⟨?void, fun d => ?between⟩⟩
  case kept =>
    intro h0 hs hsign
    rw [update_of_step h h0 hs]
    exact if_pos hsign
  case changed =>
    intro h0 hs hsign
    rw [update_of_step h h0 hs]
    exact if_neg hsign
  case void =>
    rw [update_none]
    split
    · exact Or.inr rfl
    · exact Or.inl rfl
  case between =>
    obtain hv | ⟨f, hf, hv⟩ := update_value cfg b d
    · exact ⟨d, hv, Or.inl rfl, fun hd _ => hd⟩
    · have hb := normalUpdate_between h16 f d
      refine ⟨_, hv, Or.inr ⟨f, hf, hb⟩, fun hd hold => ?_⟩
      have := hold f hf
      rw [abs_le] at *
      omega

/-- Settles O12: nothing at an arrival writes the position, and elsewhere only the position and the encoder timer change. -/
theorem countMovesPosition : Obligations.CountMovesPosition := by
  refine fun dir s => ⟨⟨_, exec_encoderCount dir s, by simp⟩, fun h => ?_⟩
  rw [exec_encoderCount, arrival_of_moving]
  · rfl
  · exact h

/-- Settles O15: a waiting search begins with the drive, the index ends it at PARKED. -/
theorem homingSearchAndIndex : Obligations.HomingSearchAndIndex := by
  have hready : ∀ s : State, exec .drvRdyHigh s = .next (if s.head.state = .homing ∧ s.head.drvEn = false then
      (s.setPins { s.pins with drvRdy := true }).beginSearch else s.setPins { s.pins with drvRdy := true }) := fun _ => rfl
  refine fun s => ⟨fun hh hd => ?_, fun h => ?_, fun hh hw => ?_, fun hh => ?_⟩
  · rw [hready, if_pos ⟨hh, hd⟩]; rfl
  · rw [hready, if_neg (by rw [not_and_or, Bool.not_eq_false]; exact h)]; rfl
  · refine ⟨s.indexFound.settle, by simp [exec, execIndexPulse, hh, State.done], ?_⟩
    rw [State.indexFound, State.arriveParked, decideParked_of_none]
    · simp [State.driveOff]
    · have hbrk : ∀ u : State, u.brk = s.brk → u.head.slots = s.head.slots → u.std = s.std → u.store = s.store →
          u.winner = s.winner := fun u h1 h2 h3 h4 => by
        simp [State.winner, State.lowWinner, State.holdPresent, State.parkStation, State.stdClaim, State.pointClaim,
          State.scanClaim, State.recipe, State.activeRecipe, h1, h2, h3, h4]
      rw [hbrk, hw] <;> simp [State.driveOff]
  · simp [exec, execIndexPulse, hh, State.done]

/-- Settles O28: at once with no record FILLING, else at the completion. -/
theorem restartProfilesActsOrWaits : Obligations.RestartProfilesActsOrWaits := by
  intro s st tag hr
  have hexec : exec (.restartProfiles st tag []) s = .next ((heard s st).serveRestart st tag).settle :=
    State.request_ready .restartProfiles s st tag _ hr (by simp) rfl
  refine ⟨fun hf => ?_, fun i hi => ?_⟩
  · rw [hexec, State.serveRestart, heard_ring, hf, heard_reply, profileRestart_eq]
    rfl
  · rw [hexec, State.serveRestart, heard_ring, hi]
    have hcomm : ∀ p : Profile, ((heard s st).setProfile p).reply st .restartProfiles tag (.restart .atCompletion)
        = ((heard s st).reply st .restartProfiles tag (.restart .atCompletion)).setProfile p := fun _ => rfl
    rw [hcomm, heard_reply]
    rfl

/-- Settles O45: the slot's state decides, then the first failing check. -/
theorem validateRunsChecks : Obligations.ValidateRunsChecks := by
  intro s st tag b hr
  have hexec : exec (.validate st tag [b]) s = .next ((heard s st).serveValidate st tag [b]).settle :=
    State.request_ready .validate s st tag _ hr (by simp) rfl
  have hindex : u8At [b] 0 = b.toNat := rfl
  refine ⟨fun h => ?_, fun i hi => ?_⟩
  · rw [hexec, State.serveValidate, hindex, ix4?_of_lt h]
    simp only [heard_answer]
  · have hslot : exec (.validate st tag [b]) s = .next ((heard s st).validateSlot st tag i).settle := by
      rw [hexec, State.serveValidate, hindex, hi]
    refine ⟨fun h => ?_, fun h => ?_, fun h => ⟨fun n h1 h5 hn hbefore => ?_, fun hpass => ?_⟩⟩
    · rw [hslot, State.validateSlot, heard_store, h]
      simp only [heard_answer]
    · rw [hslot, State.validateSlot, heard_store]
      obtain h | h := h <;> rw [h] <;> simp only [heard_answer]
    · rw [hslot, validateSlot_of_fails (s := heard s st) h (failedCheck_of_fails h1 h5 hn hbefore), heard_reply]
    · rw [hslot, validateSlot_of_passes (s := heard s st) h (failedCheck_of_passes hpass)]
      have hcomm : ∀ x : Store, ((heard s st).setStore x).answer st .validate tag .ok
          = ((heard s st).answer st .validate tag .ok).setStore x := fun _ => rfl
      simp only [hcomm, heard_answer]
      rfl

end Sys2Proof.Safety
end


section
/-! SUPPORT. Notices that follow one another at the ports, and which claim wins (R41). -/

namespace Sys2Proof.Machine

open Sys2Proof Sys2Proof.Safety

/-! ## Notices one after another -/

/-- The second ports come from the first by offers of notices of a sort, and nothing else. -/
inductive Offered (P : Notice → Prop) (ps : Four Port) : Four Port → Prop
  | refl : Offered P ps ps
  | offer {qs : Four Port} {n : Notice} (h : Offered P ps qs) (hn : P n) : Offered P ps (qs.map (Port.offer n))

/-- From one state to another the ports have only been offered notices of a sort. -/
def Offers (P : Notice → Prop) (s t : State) : Prop := Offered P s.ports t.ports

section

variable {P : Notice → Prop} {s t u : State}

theorem Offers.of_ports (h : t.ports = s.ports) : Offers P s t := by
  rw [Offers, h]; exact .refl

theorem Offers.offer {n : Notice} (h : P n) : Offers P s (s.offer n) := Offered.offer Offered.refl h

theorem Offers.trans (h : Offers P s t) (h' : Offers P t u) : Offers P s u := by
  simp only [Offers] at *
  generalize u.ports = qs at *
  induction h' with
  | refl => exact h
  | offer _ hn ih => exact .offer ih hn

theorem Offers.mono {Q : Notice → Prop} (hPQ : ∀ n, P n → Q n) (h : Offers P s t) : Offers Q s t := by
  simp only [Offers] at *
  generalize t.ports = qs at *
  induction h with
  | refl => exact .refl
  | offer _ hn ih => exact .offer ih (hPQ _ hn)

/-- What no offer changes of a port stays as it is. -/
theorem Offers.kept {α : Type} (f : Port → α) (hf : ∀ n p, f (Port.offer n p) = f p) (h : Offers P s t) (st : Station) :
    f (t.ports.get st) = f (s.ports.get st) := by
  simp only [Offers] at h
  generalize t.ports = qs at *
  induction h with
  | refl => rfl
  | offer _ _ ih => rw [Four.get_map, hf, ih]

theorem Offers.replies (h : Offers P s t) (st : Station) : (t.ports.get st).replies = (s.ports.get st).replies :=
  h.kept (fun p => p.replies) (fun n p => (Port.offer_kept n p).1) st

theorem Offers.present (h : Offers P s t) (st : Station) : (t.ports.get st).present = (s.ports.get st).present :=
  h.kept (fun p => p.present) (fun n p => (Port.offer_kept n p).2.2.2.1) st

end

/-! ## A notice that stands in a queue -/

/-- A notice stands in a queue, as the content of an entry of its kind or as its follow-up. -/
def Port.Bears (p : Port) (n : Notice) : Prop :=
  ∃ e ∈ p.notices, e.content.kind = n.kind ∧ (e.content = n ∨ e.followUp = some n)

theorem bears_replaceOrAppend (n : Notice) (l : List NoticeEntry) : ⟨n, none⟩ ∈ replaceOrAppend n l := by
  induction l with
  | nil => simp [replaceOrAppend]
  | cons e rest ih => simp only [replaceOrAppend]; split <;> simp [ih]

/-- An entry of another kind stays. -/
theorem mem_replaceOrAppend_of_ne {n : Notice} {l : List NoticeEntry} {e : NoticeEntry} (h : e ∈ l)
    (hk : e.content.kind ≠ n.kind) : e ∈ replaceOrAppend n l := by
  induction l with
  | nil => simp at h
  | cons x rest ih =>
    simp only [replaceOrAppend]
    obtain rfl | h := List.mem_cons.mp h
    · simp [hk]
    · split <;> simp [h, ih h]

theorem bears_enqueue (p : Port) (n : Notice) : (p.enqueue n).Bears n := by
  obtain h | ⟨e, rest, -, ⟨hk, h⟩ | ⟨-, h⟩⟩ := p.enqueue_cases n <;> rw [h]
  · exact ⟨_, bears_replaceOrAppend n _, rfl, Or.inl rfl⟩
  · exact ⟨⟨e.content, some n⟩, by simp, hk, Or.inr rfl⟩
  · exact ⟨⟨n, none⟩, by simp [bears_replaceOrAppend], rfl, Or.inl rfl⟩

theorem Port.Bears.enqueue {p : Port} {n m : Notice} (h : p.Bears n) (hk : n.kind ≠ m.kind) : (p.enqueue m).Bears n := by
  obtain ⟨e, he, hen, hc⟩ := h
  have hne : e.content.kind ≠ m.kind := by rwa [hen]
  obtain eq | ⟨x, rest, hp, ⟨hx, eq⟩ | ⟨-, eq⟩⟩ := p.enqueue_cases m <;> rw [eq] <;> refine ⟨e, ?_, hen, hc⟩
  · exact mem_replaceOrAppend_of_ne he hne
  · rw [hp] at he
    obtain rfl | he := List.mem_cons.mp he
    · exact absurd hx hne
    · simp [he]
  · rw [hp] at he
    obtain rfl | he := List.mem_cons.mp he
    · simp
    · simp [mem_replaceOrAppend_of_ne he hne]

theorem Port.Bears.offer {p : Port} {n m : Notice} (h : p.Bears n) (hk : n.kind ≠ m.kind) : (Port.offer m p).Bears n := by
  simp only [Port.offer]; split
  · exact h.enqueue hk
  · exact h

theorem bears_offer {s : State} {n : Notice} {st : Station} (h : TakesNotice (s.ports.get st) n) :
    ((s.offer n).ports.get st).Bears n := by
  rw [offer_get_of_taken h]; exact bears_enqueue _ n

/-- A notice still stands after notices of other kinds. -/
theorem Offers.bears {P : Notice → Prop} {s t : State} (h : Offers P s t) {n : Notice} (hP : ∀ m, P m → n.kind ≠ m.kind)
    {st : Station} (hb : (s.ports.get st).Bears n) : (t.ports.get st).Bears n := by
  simp only [Offers] at h
  generalize t.ports = qs at *
  induction h with
  | refl => exact hb
  | offer _ hn ih => rw [Four.get_map]; exact ih.offer (hP _ hn)

theorem Port.Bears.choose {p : Port} {n : Notice} (h : p.Bears n) : p.choose.Bears n := by
  simpa [Port.Bears, (Port.choose_kept p).2.1] using h

theorem Port.Bears.entry {p : Port} {n : Notice} (h : p.Bears n) : ∃ e ∈ p.notices, e.content = n ∨ e.followUp = some n := by
  obtain ⟨e, he, -, hc⟩ := h
  exact ⟨e, he, hc⟩

/-- A BREAK_STATE notice goes to every PRESENT station (R190), and stands after the notices of the other sorts. -/
theorem told_of_offers {P : Notice → Prop} {s t : State} {b : BreakState} {c : CauseSet} {k : Nat}
    (h : Offers P (s.offer (.breakState b c k)) t) (hP : ∀ m, P m → m.kind ≠ .breakState) : Told t.settle (.breakState b c k) := by
  intro st hst
  rw [State.settle_get] at hst ⊢
  rw [(Port.choose_kept _).2.2.2.1, h.present, State.offer_get, (Port.offer_kept _ _).2.2.2.1] at hst
  have htaken : TakesNotice (s.ports.get st) (.breakState b c k) := ⟨hst, Or.inl rfl, trivial⟩
  exact (h.bears (n := .breakState b c k) (fun m hm => (hP m hm).symm) (bears_offer htaken)).choose.entry

/-! ## The winning claim (R41) -/

/-- The search finds the lowest-numbered station that passes. -/
theorem Four.first_eq_some {slots : Four ModeSlot} {p : ModeSlot → Bool} {low : Station}
    (h : LowestWith slots (fun m => p m = true) low) : slots.first p = some low := by
  obtain ⟨hlow, hmin⟩ := h
  have h0 := hmin .n0; have h1 := hmin .n1; have h2 := hmin .n2; have h3 := hmin .n3
  cases low <;> simp only [Four.get, Ix4.code] at hlow h0 h1 h2 h3 <;> simp only [Four.first] <;> grind

/-- If some station passes, one of them has the lowest number. -/
theorem exists_lowest {slots : Four ModeSlot} {P : ModeSlot → Prop} (h : ∃ j, P (slots.get j)) : ∃ low, LowestWith slots P low := by
  classical
  by_cases h0 : P (slots.get .n0)
  · exact ⟨.n0, h0, fun j _ => by simp [Ix4.code]⟩
  by_cases h1 : P (slots.get .n1)
  · exact ⟨.n1, h1, fun j hj => by cases j <;> simp_all [Ix4.code]⟩
  by_cases h2 : P (slots.get .n2)
  · exact ⟨.n2, h2, fun j hj => by cases j <;> simp_all [Ix4.code]⟩
  by_cases h3 : P (slots.get .n3)
  · exact ⟨.n3, h3, fun j hj => by cases j <;> simp_all [Ix4.code]⟩
  obtain ⟨j, hj⟩ := h
  cases j <;> contradiction

theorem ModeSlot.isPoint_iff {m : ModeSlot} : m.isPoint = true ↔ ∃ p, m = .point p := by
  cases m <;> simp [ModeSlot.isPoint]

theorem holdPresent_iff {s : State} : s.holdPresent = true ↔ ¬NoHold s := by
  simp [State.holdPresent, NoHold]; tauto

theorem not_holdPresent {s : State} (h : NoHold s) : s.holdPresent = false := by
  rw [Bool.eq_false_iff, ne_eq, holdPresent_iff]; exact not_not.mpr h

section

variable {s : State}

theorem winner_of_park (hn : NoHold s) {low : Station} (h : LowestWith s.head.slots (fun m => m = .park) low) :
    s.winner = .park low := by
  have hp : s.parkStation = some low := Four.first_eq_some (by simpa using h)
  simp [State.winner, not_holdPresent hn, hp]

theorem winner_of_no_park (hn : NoHold s) (hp : ∀ j, s.head.slots.get j ≠ .park) : s.winner = s.lowWinner := by
  have hnone : s.parkStation = none := (Four.first_eq_none _ _).mpr (by simpa using hp)
  simp [State.winner, not_holdPresent hn, hnone]

theorem Four.any_of_get {f : Four ModeSlot} {p : ModeSlot → Bool} : f.any p = true ↔ ∃ j, p (f.get j) = true := by
  simp only [← Four.get_map]
  exact Four.any_iff_get (f.map p)

theorem stdClaim_iff : s.stdClaim = true ↔ s.std.stdDue = true ∨ ∃ j, s.head.slots.get j = .standardize := by
  simp [State.stdClaim, Four.any_of_get]

theorem winner_of_std (hn : NoHold s) (hp : ∀ j, s.head.slots.get j ≠ .park)
    (h : s.std.stdDue = true ∨ ∃ j, s.head.slots.get j = .standardize) : s.winner = .standardize := by
  rw [winner_of_no_park hn hp, State.lowWinner, if_pos (stdClaim_iff.mpr h)]

/-- No claim of the ranks 1 to 3. -/
structure LowRanks (s : State) : Prop where
  hold : NoHold s
  park : ∀ j, s.head.slots.get j ≠ .park
  due : s.std.stdDue = false
  std : ∀ j, s.head.slots.get j ≠ .standardize

theorem winner_of_low (h : LowRanks s) : s.winner = s.lowWinner := winner_of_no_park h.hold h.park

theorem LowRanks.not_stdClaim (h : LowRanks s) : ¬s.stdClaim = true := by simp [stdClaim_iff, h.due, h.std]

theorem winner_of_point (h : LowRanks s) {low : Station} (hl : LowestWith s.head.slots (fun m => ∃ p, m = .point p) low) :
    s.winner = .point low (max s.recipe.geometry.a (min s.recipe.geometry.b (s.head.slots.get low).pos)) := by
  have hfirst : s.head.slots.first ModeSlot.isPoint = some low := Four.first_eq_some (by simpa [ModeSlot.isPoint_iff] using hl)
  have hclaim : s.pointClaim = some (low, clampNat s.recipe.geometry.a s.recipe.geometry.b (s.head.slots.get low).pos) := by
    simp [State.pointClaim, hfirst]
  rw [winner_of_low h, State.lowWinner, if_neg h.not_stdClaim, hclaim]
  rfl

theorem pointClaim_eq_none (hp : ∀ j, ¬∃ p, s.head.slots.get j = .point p) : s.pointClaim = none := by
  have hfirst : s.head.slots.first ModeSlot.isPoint = none :=
    (Four.first_eq_none _ _).mpr fun j => by
      rw [Bool.eq_false_iff, ne_eq, ModeSlot.isPoint_iff]; exact hp j
  simp [State.pointClaim, hfirst]

theorem scanClaim_iff :
    s.scanClaim = true ↔ s.store.active.isSome = true ∧ (s.brk.state = .running ∨ s.brk.state = .recovering) := by
  simp [State.scanClaim]

theorem winner_of_scan (h : LowRanks s) (hp : ∀ j, ¬∃ p, s.head.slots.get j = .point p)
    (hs : s.store.active.isSome = true ∧ (s.brk.state = .running ∨ s.brk.state = .recovering)) : s.winner = .scan := by
  rw [winner_of_low h, State.lowWinner, if_neg h.not_stdClaim, pointClaim_eq_none hp]
  exact if_pos (scanClaim_iff.mpr hs)

theorem winner_of_no_claim (h : LowRanks s) (hp : ∀ j, ¬∃ p, s.head.slots.get j = .point p)
    (hs : ¬(s.store.active.isSome = true ∧ (s.brk.state = .running ∨ s.brk.state = .recovering))) : s.winner = .none := by
  rw [winner_of_low h, State.lowWinner, if_neg h.not_stdClaim, pointClaim_eq_none hp]
  exact if_neg (mt scanClaim_iff.mp hs)

end

end Sys2Proof.Machine
end


section
/-! SUPPORT AND PROOF. The decision of a head at park (R41, R42, R44), RESUME (R132). -/

namespace Sys2Proof.Machine

open Sys2Proof Sys2Proof.Safety

/-! ## What a decision leaves as it is -/

/-- The notices of a decision: the head's state and the end of a standardization. -/
def HeadNews (n : Notice) : Prop := n.kind = .headState ∨ n.kind = .standardize

theorem headNews_ne_break (m : Notice) (h : HeadNews m) : m.kind ≠ .breakState := by
  obtain h | h := h <;> simp [h]

/-- What a decision of a head without a scan in progress leaves at the edge tracker, the profile unit and the ports. -/
structure Decision (s t : State) : Prop where
  news : Offers HeadNews s t
  edges : t.edges = s.edges ∨ t.edges = { s.edges with run := .clear }
  profile : t.profile = s.profile ∨ t.profile = { s.profile with continuity := false }

theorem Decision.trans {s t u : State} (h : Decision s t) (h' : Decision t u) : Decision s u where
  news := h.news.trans h'.news
  edges := by
    obtain e | e := h.edges <;> obtain e' | e' := h'.edges <;> simp [e', e]
  profile := by
    obtain e | e := h.profile <;> obtain e' | e' := h'.profile <;> simp [e', e]

/-- An operation that leaves the three alone. -/
theorem Decision.of_eq {s t : State} (hp : t.ports = s.ports) (he : t.edges = s.edges) (hf : t.profile = s.profile) :
    Decision s t := ⟨.of_ports hp, .inl he, .inl hf⟩

theorem headNotice_decision (s : State) : Decision s s.headNotice := ⟨Offers.offer (Or.inl rfl), .inl rfl, .inl rfl⟩

theorem stdNotice_decision (s : State) : Decision s s.stdNotice := ⟨Offers.offer (Or.inr rfl), .inl rfl, .inl rfl⟩

section

variable (s : State)

theorem toHead_decision (h : HeadState) : Decision s (s.toHead h) := .of_eq (by simp) (by simp) (by simp)

theorem stdAbort_decision : Decision s s.stdAbort := by
  simp only [State.stdAbort]; split
  · exact .of_eq rfl rfl rfl
  all_goals
    refine Decision.trans ?_ (stdNotice_decision _)
    exact .of_eq (by simp) (by simp) (by simp)

theorem faultStill_decision {s : State} (cause : FaultCause) (h : s.head.scan = none) : Decision s (s.faultStill cause) := by
  rw [State.faultStill, faultEntryWith_eq, scanAbortWith_of_none _ (by simp [h])]
  have hf : Decision s (s.faulted cause).dropPeriod :=
    .of_eq (by simp [State.faulted]) (by simp [State.faulted]) (by simp [State.faulted])
  exact (hf.trans (stdAbort_decision _)).trans (headNotice_decision _)

theorem startScan_decision (dir : ScanDir) (a : Bool) : Decision s (s.startScan dir a) where
  news := .of_ports (by simp)
  edges := .inr (by simp [startScan_eq, State.onLeg, State.scanReady]; cases a <;> simp)
  profile := by
    cases a
    · exact .inl (by simp [startScan_eq, State.onLeg, State.scanReady])
    · exact .inr (by simp [startScan_eq, State.onLeg, State.scanReady, State.clearContinuity])

theorem approaching_decision (g : Grant) : Decision s (s.approaching g) := by
  have h : Decision s (((s.toHead (.scanning .approach)).grantTo g).drive (s.directionTo s.recipe.geometry.a) s.traverseStep) :=
    .of_eq (by simp) (by simp) (by simp)
  simp only [State.approaching]; split
  · exact h
  all_goals exact h.trans (headNotice_decision _)

theorem arrivePoint_decision : Decision s s.arrivePoint := by
  have h1 : Decision s (s.driveOff.toHead .singlePoint) := .of_eq (by simp) (by simp) (by simp)
  have h2 : ∀ u : State, Decision u u.startPeriod := fun u => .of_eq (by simp) (by simp) (by simp)
  exact (h1.trans (headNotice_decision _)).trans (h2 _)

theorem positioning_decision (st : Station) (p : Nat) : Decision s (s.positioning st p) :=
  Decision.trans (.of_eq (by simp) (by simp) (by simp)) (headNotice_decision _)

theorem enterHead_decision (h : HeadState) (g : Grant) : Decision s (s.enterHead h g) :=
  Decision.trans (.of_eq (by simp) (by simp) (by simp)) (headNotice_decision _)

theorem stayParked_decision (g : Grant) : Decision s (s.stayParked g) := by
  simp only [State.stayParked]; split
  · exact .of_eq rfl rfl rfl
  all_goals exact enterHead_decision s _ g

theorem standardizing_decision : Decision s s.standardizing := by
  have h : Decision s (((s.toHead .standardizing).grantTo .standardize).setStd
      (if s.store.machineSet then (s.std.begin_ s.store.machine).enterZero else s.std.begin_ s.store.machine)) :=
    .of_eq (by simp) (by simp) (by simp)
  simp only [State.standardizing]; split
  · exact h
  · exact h.trans (headNotice_decision _)

theorem stdNoRecord_decision : Decision s s.stdNoRecord :=
  Decision.trans (.of_eq (by simp [State.consumeStd]) (by simp [State.consumeStd]) (by simp [State.consumeStd]))
    (stdNotice_decision _)

end

section

variable {s : State}

theorem beginApproach_decision (g : Grant) (h : s.head.scan = none) : Decision s (s.beginApproach g) := by
  rw [beginApproach_eq]; split
  · exact faultStill_decision _ h
  · split
    · exact (approaching_decision s g).trans (startScan_decision _ _ _)
    · exact approaching_decision s g

theorem beginPositioning_decision (st : Station) (p : Nat) (h : s.head.scan = none) : Decision s (s.beginPositioning st p) := by
  rw [beginPositioning_eq]; split
  · exact faultStill_decision _ h
  · split
    · exact (positioning_decision s st p).trans (arrivePoint_decision _)
    · exact positioning_decision s st p

theorem decideParkedOther_decision (g : Grant) (h : s.head.scan = none) : Decision s (s.decideParkedOther g) := by
  cases g with
  | scan => exact beginApproach_decision _ h
  | point st p => exact beginPositioning_decision st p h
  | _ => exact stayParked_decision s _

theorem decideParked_decision (h : s.head.scan = none) : Decision s s.decideParked := by
  rw [decideParked_eq]; split
  · rw [startStd_eq]; split
    · exact standardizing_decision s
    · exact ((standardizing_decision s).trans (stdNoRecord_decision _)).trans (decideParkedOther_decision _ (by simp [h]))
  · exact decideParkedOther_decision _ h

end

/-! ## The standardization unit and the mode slots in a decision -/

section

variable {s : State}

theorem faultStill_std (cause : FaultCause) (h : s.std.phase = .idle) : (s.faultStill cause).std = s.std := by
  have hstd : ((s.faulted cause).scanAbortWith id).std = s.std := by
    rw [scanAbortWith_std (act := id) (fun _ => rfl)]; simp [State.faulted]
  rw [State.faultStill, faultEntryWith_eq, stdAbort_of_idle (by rw [dropPeriod_std, hstd, h])]
  simp only [headNotice_std, dropPeriod_std, hstd]

theorem approaching_std (g : Grant) : (s.approaching g).std = s.std := by
  simp only [State.approaching]; split <;> simp

theorem positioning_std (st : Station) (p : Nat) : (s.positioning st p).std = s.std := by simp [State.positioning]

theorem decideParkedOther_std (g : Grant) (h : s.std.phase = .idle) : (s.decideParkedOther g).std = s.std := by
  cases g with
  | scan =>
    rw [State.decideParkedOther, beginApproach_eq]
    split
    · exact faultStill_std _ h
    · split <;> simp [approaching_std]
  | point st p =>
    rw [State.decideParkedOther, beginPositioning_eq]
    split
    · exact faultStill_std _ h
    · split <;> simp [positioning_std]
  | _ => simp [State.decideParkedOther]

theorem startScan_slots (dir : ScanDir) (a : Bool) : (s.startScan dir a).head.slots = s.head.slots := by
  simp [startScan_eq, State.onLeg, State.drive, scanReady_head]

theorem startScan_state (dir : ScanDir) (a : Bool) : (s.startScan dir a).head.state = .scanning dir.leg := by
  simp [startScan_eq, State.onLeg, State.drive]

theorem arrivePoint_head : s.arrivePoint.head = { s.head with
    state := .singlePoint, drvEn := false, drvSpd := 0, encTimer := .stopped } := by
  simp [State.arrivePoint, State.driveOff]

theorem decideParkedOther_slots (g : Grant) : (s.decideParkedOther g).head.slots = s.head.slots := by
  cases g with
  | scan =>
    rw [State.decideParkedOther, beginApproach_eq]
    split
    · simp
    · split
      · rw [State.arriveApproach, startScan_slots]; simp
      · simp
  | point st p =>
    rw [State.decideParkedOther, beginPositioning_eq]
    split
    · simp
    · split <;> simp [arrivePoint_head]
  | _ => simp [State.decideParkedOther]

theorem decideParkedOther_state (g : Grant) : (s.decideParkedOther g).head.state ≠ .standardizing := by
  cases g with
  | scan =>
    rw [State.decideParkedOther, beginApproach_eq]
    split
    · simp
    · split
      · rw [State.arriveApproach, startScan_state]; simp
      · simp
  | point st p =>
    rw [State.decideParkedOther, beginPositioning_eq]
    split
    · simp
    · split <;> simp [arrivePoint_head]
  | _ => simp [State.decideParkedOther]

end

/-! ## The decision of a PARKED head -/

/-- A state decides for a PARKED head with these mode slots and this std-due; the claims of the break state hold where they
can matter, with std-due clear. -/
structure Decides (s : State) (slots : Four ModeSlot) (due : Bool) (t : State) : Prop where
  parked : s.head.state = .parked
  noHold : NoHold t
  head : t.head = { s.head with slots := slots }
  std : t.std = { s.std with stdDue := due }
  store : t.store = s.store
  pins : t.pins = s.pins
  brk : due = false → t.brk.state = s.brk.state

section

variable {s t : State} {slots : Four ModeSlot} {due : Bool}

theorem decides_recipe (h : Decides s slots due t) : t.recipe = s.recipe := by
  simp [State.recipe, State.activeRecipe, h.store]

theorem decides_position (h : Decides s slots due t) : t.head.position = s.head.position := by rw [h.head]

/-- A head that is still begins to move only with the drive ready (R26). -/
theorem driveMissing_of_parked (h : t.head.state = .parked) : t.driveMissing = !t.pins.drvRdy := by
  simp [State.driveMissing, h, HeadState.still]

theorem directionTo_of_ne {n : Nat} (h : t.head.position.toNat ≠ n) : t.directionTo n = decide (t.head.position.toNat < n) := by
  simp only [State.directionTo]
  split
  · next hl => simp [hl]
  · next hl => rw [if_pos (by omega)]; simp [hl]

/-- With the drive not ready a move from park ends in FAULT (R26). -/
theorem beginPositioning_of_drive_low (st : Station) (p : Nat) (hp : t.head.state = .parked) (hr : t.pins.drvRdy = false) :
    t.beginPositioning st p = t.faultStill .drive := by
  rw [beginPositioning_eq, if_pos (by rw [driveMissing_of_parked hp, hr]; rfl)]

theorem beginApproach_of_drive_low (g : Grant) (hp : t.head.state = .parked) (hr : t.pins.drvRdy = false) :
    t.beginApproach g = t.faultStill .drive := by
  rw [beginApproach_eq, if_pos (by rw [driveMissing_of_parked hp, hr]; rfl)]

theorem beginPositioning_of_away {st : Station} {p : Nat} (hp : t.head.state = .parked) (hr : t.pins.drvRdy = true)
    (hpos : t.head.position.toNat ≠ p) : t.beginPositioning st p = t.positioning st p := by
  rw [beginPositioning_eq, if_neg (by rw [driveMissing_of_parked hp, hr]; simp), if_neg (by simpa using hpos)]

theorem approaching_recipe (g : Grant) : (t.approaching g).recipe = t.recipe := by
  have hstore : (t.approaching g).store = t.store := by
    simp only [State.approaching]; split <;> simp
  simp [State.recipe, State.activeRecipe, hstore]

theorem beginApproach_of_away {g : Grant} (hp : t.head.state = .parked) (hr : t.pins.drvRdy = true)
    (hpos : t.head.position.toNat ≠ t.recipe.geometry.a) : t.beginApproach g = t.approaching g := by
  rw [beginApproach_eq, if_neg (by rw [driveMissing_of_parked hp, hr]; simp), if_neg (by simpa [approaching_recipe] using hpos)]

theorem decideParked_of_park {st : Station} (h : t.winner = .park st) : t.decideParked = t.stayParked (.park st) := by
  rw [decideParked_eq, h, if_neg (by simp)]; rfl

theorem decideParked_of_std (h : t.winner = .standardize) : t.decideParked = t.startStd := by
  rw [decideParked_eq, if_pos h]

theorem decideParked_of_point {st : Station} {p : Nat} (h : t.winner = .point st p) :
    t.decideParked = t.beginPositioning st p := by
  rw [decideParked_eq, h, if_neg (by simp)]; rfl

theorem decideParked_of_scan (h : t.winner = .scan) : t.decideParked = t.beginApproach .scan := by
  rw [decideParked_eq, h, if_neg (by simp)]; rfl

theorem standardizing_std : t.standardizing.std
    = if t.store.machineSet then (t.std.begin_ t.store.machine).enterZero else t.std.begin_ t.store.machine := by
  simp only [State.standardizing]; split <;> rfl

theorem startStd_of_set (h : t.store.machineSet = true) : t.startStd = t.standardizing := by
  rw [startStd_eq, if_pos h]

/-- Under an EMPTY machine record the procedure ends at once, its STANDARDIZE claims consumed (R12). -/
theorem startStd_of_empty (h : t.store.machineSet = false) :
    t.startStd.std = { (t.std.begin_ t.store.machine).finish .fail with
        reasons := ⟨.noRecord, .noRecord, .noRecord⟩, stdDue := false }
      ∧ t.startStd.head.slots = t.head.slots.map (fun m => if m = .standardize then ModeSlot.none else m)
      ∧ t.startStd.head.state ≠ .standardizing := by
  have hstd : t.standardizing.stdNoRecord.std = { (t.std.begin_ t.store.machine).finish .fail with
      reasons := ⟨.noRecord, .noRecord, .noRecord⟩, stdDue := false } := by
    simp [State.stdNoRecord, standardizing_std, h]
  rw [startStd_eq, if_neg (by simp [h])]
  refine ⟨?_, ?_, decideParkedOther_state _⟩
  · rw [decideParkedOther_std _ (by rw [hstd]; rfl), hstd]
  · rw [decideParkedOther_slots]; simp

/-- The decision with the claims of the ranks 1 to 3 as given (R41, R44). -/
theorem decidesAtPark (h : Decides s slots due t) : DecidesAtPark s slots due t.decideParked := by
  have hslots : t.head.slots = slots := by rw [h.head]
  have hparked : t.head.state = .parked := by rw [h.head]; exact h.parked
  have hpos := decides_position h
  have hrecipe := decides_recipe h
  refine ⟨fun low hl => ?park, fun hno => ⟨fun hclaim => ?std, fun hdue hstd => ?low⟩⟩
  case park =>
    rw [decideParked_of_park (winner_of_park h.noHold (by rwa [hslots]))]
    refine ⟨?_, by rw [stayParked_std, h.std]⟩
    rw [stayParked_head, h.head, ← h.parked]
  case std =>
    have hw : t.winner = .standardize :=
      winner_of_std h.noHold (by rwa [hslots]) (by rw [hslots, h.std]; exact hclaim)
    rw [decideParked_of_std hw]
    refine ⟨fun hset => ?_, fun hempty => ?_⟩
    · rw [startStd_of_set (by rw [h.store, hset]), standardizing_head, standardizing_std, h.head, h.std, h.store, if_pos hset]
      exact ⟨rfl, rfl⟩
    · obtain ⟨e, hsl, hst⟩ := startStd_of_empty (t := t) (by rw [h.store, hempty])
      rw [e, hsl, hslots]
      exact ⟨rfl, rfl, rfl, rfl, fun j => by rw [Four.get_map], hst⟩
  case low =>
    have hlow : LowRanks t := ⟨h.noHold, by rwa [hslots], by rw [h.std, hdue], by rwa [hslots]⟩
    have hbrk := h.brk hdue
    refine ⟨fun low hl hready hne => ?_, fun hp hs hready hne => ?_, fun hclaim hlowdrive => ?_, fun hp hs => ?_⟩
    · rw [decideParked_of_point (winner_of_point hlow (by rwa [hslots])), hrecipe, hslots,
        beginPositioning_of_away hparked (by rw [h.pins, hready]) (by rwa [hpos])]
      simp only [positioning_head, hslots, true_and]
      rw [directionTo_of_ne (by rwa [hpos]), hpos]
    · rw [decideParked_of_scan (winner_of_scan hlow (by rwa [hslots]) (by rwa [h.store, hbrk])),
        beginApproach_of_away hparked (by rw [h.pins, hready]) (by rwa [hpos, hrecipe])]
      simp only [approaching_head, hslots, true_and]
      rw [directionTo_of_ne (by rwa [hpos, hrecipe]), hpos, hrecipe]
    · have hfault : t.decideParked = t.faultStill .drive := by
        by_cases hp : ∃ j p, slots.get j = .point p
        · obtain ⟨low, hl⟩ : ∃ low, LowestWith slots (fun m => ∃ p, m = .point p) low := exists_lowest hp
          rw [decideParked_of_point (winner_of_point hlow (by rwa [hslots])),
            beginPositioning_of_drive_low _ _ hparked (by rw [h.pins, hlowdrive])]
        · have hscans := hclaim.resolve_left hp
          rw [decideParked_of_scan (winner_of_scan hlow (by rw [hslots]; exact not_exists.mp hp) (by rwa [h.store, hbrk])),
            beginApproach_of_drive_low _ hparked (by rw [h.pins, hlowdrive])]
      rw [hfault, faultStill_head]
      exact ⟨rfl, rfl, hslots⟩
    · rw [decideParked_of_none (winner_of_no_claim hlow (by rwa [hslots]) (by rwa [h.store, hbrk])), stayParked_head, h.head,
        ← h.parked]

end

end Sys2Proof.Machine
end


section
/-! SUPPORT AND PROOF. MODE but for PARK (R40, R42), CLEAR FAULT (R39), RESUME (R132), the absence of a station (R181,
R195). -/

namespace Sys2Proof.Machine

open Sys2Proof Sys2Proof.Safety

/-! ## Redecision -/

/-- A state redecides for a PARKED head with these mode slots and this std-due, under the break state as it is. -/
structure Redecides (s : State) (slots : Four ModeSlot) (due : Bool) (t : State) : Prop where
  parked : s.head.state = .parked
  brk : t.brk = s.brk
  head : t.head = { s.head with slots := slots }
  std : t.std = { s.std with stdDue := due }
  store : t.store = s.store
  pins : t.pins = s.pins

theorem redecidesAtPark {s t : State} {slots : Four ModeSlot} {due : Bool} (h : Redecides s slots due t) :
    RedecidesAtPark s slots due t.redecideIfParked := by
  have hparked : t.head.state = .parked := by rw [h.head]; exact h.parked
  rw [redecideIfParked_of_parked hparked]
  refine ⟨fun hhold => ?_, fun hno => decidesAtPark ⟨h.parked, ?_, h.head, h.std, h.store, h.pins, fun _ => by rw [h.brk]⟩⟩
  · have hpresent : t.holdPresent = true := by rw [holdPresent_iff, NoHold, h.brk]; exact hhold
    rw [decideParked_of_hold hpresent, stayParked_head, stayParked_std, h.head, ← h.parked]
    exact ⟨rfl, h.std⟩
  · rwa [NoHold, h.brk]

/-- A PARKED head decides only among its own matters: the reply queues stay. -/
theorem redecideIfParked_replies {s : State} (hp : s.head.state = .parked) (hs : s.head.scan = none) (st : Station) :
    (s.redecideIfParked.settle.ports.get st).replies = (s.ports.get st).replies := by
  rw [State.settle_get, (Port.choose_kept _).1, redecideIfParked_of_parked hp, (decideParked_decision hs).news.replies]

/-! ## MODE (R40) -/

theorem heard_mode (s : State) (st : Station) (m : ModeSlot) (tag : Byte) (c : Status) :
    ((heard s st).setSlot st m).modeReply st tag c
      = (answered s st .mode tag (.mode c m)).setSlot st m := by
  have hget : ((heard s st).setSlot st m).head.slots.get st = m := by simp [State.setSlot]
  rw [State.modeReply, hget]
  have hcomm : ∀ b, ((heard s st).setSlot st m).reply st .mode tag b = ((heard s st).reply st .mode tag b).setSlot st m :=
    fun _ => rfl
  rw [hcomm, heard_reply]

theorem answered_replies (s : State) (st : Station) (k : RequestKind) (tag : Byte) (b : ReplyBody) :
    ((answered s st k tag b).ports.get st).replies = (s.ports.get st).replies ++ [⟨some k, tag, b⟩] := by
  rw [answered, State.onPort_get]

theorem redecides_mode {s : State} (hp : s.head.state = .parked) (st : Station) (m : ModeSlot) (tag : Byte) (b : ReplyBody) :
    Redecides s (s.head.slots.set st m) s.std.stdDue
      ((answered s st .mode tag b).setSlot st m) :=
  ⟨hp, rfl, rfl, rfl, rfl, rfl⟩

section

variable {s : State} {st : Station} {tag : Byte}

theorem exec_mode (b0 b1 b2 b3 : Byte) (hr : Ready s st) :
    exec (.mode st tag [b0, b1, b2, b3]) s = .next ((heard s st).serveMode st tag [b0, b1, b2, b3]).settle :=
  State.request_ready .mode s st tag _ hr (by simp) rfl

theorem modePoint_of_active {r : Recipe} (h : s.activeRecipe = some r) (asked : Nat) :
    (heard s st).modePoint st tag asked =
      (((heard s st).setSlot st (.point (max r.geometry.a (min r.geometry.b asked)))).modeReply st tag
        (if max r.geometry.a (min r.geometry.b asked) = asked then .ok else .clamped)).redecideIfParked := by
  have h' : (heard s st).activeRecipe = some r := h
  simp only [State.modePoint, h']
  rfl

theorem modePoint_of_none (h : s.activeRecipe = none) (asked : Nat) :
    (heard s st).modePoint st tag asked = answered s st .mode tag (.mode .state (s.head.slots.get st)) := by
  have h' : (heard s st).activeRecipe = none := h
  simp only [State.modePoint, h']
  exact heard_reply s st _ _ _

theorem serveMode_badField {b0 : Byte} (l : List Byte) (h : 3 < b0.toNat) :
    (heard s st).serveMode st tag (b0 :: l) = answered s st .mode tag (.mode .badField (s.head.slots.get st)) := by
  have hfield : u8At (b0 :: l) 0 = b0.toNat := rfl
  obtain ⟨n, hn⟩ : ∃ n, b0.toNat = n + 4 := ⟨b0.toNat - 4, by omega⟩
  rw [State.serveMode, hfield, hn]
  exact heard_reply s st _ _ _

end

/-! ## Entry to HOMING (R29, R39) -/

theorem enterHoming_of_ready {s : State} (hf : s.head.state = .fault) (hr : s.pins.drvRdy = true) (ha : s.pins.otA = false)
    (hb : s.pins.otB = false) :
    s.enterHoming = ((s.setHead { s.head with
        state := .homing, cause := .none, grant := .none, homingTimer := .running Config.homing, drvEn := false,
        drvDir := false, drvSpd := 0, encTimer := .stopped }).headNotice).beginSearch := by
  have hto : s.toHead .homing = s.setHead { s.head with state := .homing } := by
    simp [State.toHead, hf, leavesMeasuring]
  rw [State.enterHoming, hto, homingBegun_of_not_overtravel (by simp [Pins.overtravel, ha, hb])]
  rw [if_pos (by simpa using hr)]
  rfl

/-! ## Entry to RECOVERING (R134) -/

/-- What an entry to RECOVERING leaves before its decision. -/
theorem recoverRest_eq (s : State) :
    (s.setBrk s.brk.recovering).recoverRest = ({ s with
      brk := { s.brk with state := .recovering, threadingTimer := .stopped, recoveryCount := 0, relay := false }
      profile := restartedProfile s.profile
      edges := restartedEdges s.edges
      absent := if s.edges.locked then ⟨false, 0, 0, false⟩ else s.absent
      hole := if s.edges.locked then { s.hole with run := 0, marker := false } else s.hole
      std := { s.std with stdDue := true } }).offer (.breakState .recovering s.brk.causes s.brk.count) := by
  rw [State.recoverRest, profileRestart_eq]
  rfl

theorem restartedProfile_continuity (p : Profile) : { restartedProfile p with continuity := false } = restartedProfile p := rfl

/-- The entry and the decision after it, at a head with no scan in progress while PARKED. -/
theorem recoveringEntry_decision {s : State} (h : s.head.state = .parked → s.head.scan = none) :
    Decision (s.setBrk s.brk.recovering).recoverRest s.recoveringEntry := by
  rw [recoveringEntry_eq]
  by_cases hp : s.head.state = .parked
  · rw [redecideIfParked_of_parked (by simp [hp])]
    exact decideParked_decision (by simp [h hp])
  · rw [redecideIfParked_of_ne (by simp [hp])]
    exact .of_eq rfl rfl rfl

theorem entersRecovering {s : State} (h : s.head.state = .parked → s.head.scan = none) :
    EntersRecovering s s.recoveringEntry.settle := by
  have hd := recoveringEntry_decision h
  have hbrk : s.recoveringEntry.brk = s.brk.recovering := by
    rw [recoveringEntry_eq, redecideIfParked_brk, recoverRest_brk, State.setBrk_brk]
  have hprofile : s.recoveringEntry.profile = restartedProfile s.profile := by
    obtain e | e := hd.profile <;> rw [e, recoverRest_eq] <;> rfl
  have hnews := hd.news
  rw [recoverRest_eq] at hnews
  simp only [EntersRecovering, settle_brk, hbrk, settle_profile, hprofile]
  exact ⟨rfl, rfl, rfl, rfl, rfl, rfl, trivial, told_of_offers hnews headNews_ne_break⟩

theorem recoveringEntry_edges {s : State} (h : s.head.state = .parked → s.head.scan = none) :
    s.recoveringEntry.edges.locked = false ∧ s.recoveringEntry.edges.previous = none ∧ s.recoveringEntry.edges.inCount = 0 := by
  obtain e | e := (recoveringEntry_decision h).edges <;> rw [e, recoverRest_eq] <;> exact ⟨rfl, rfl, rfl⟩

/-- The decision of a PARKED head, whatever the break state was before. -/
theorem recoveringEntry_decides_of {s t : State} (hp : s.head.state = .parked) (hhead : t.head = s.head) (hstd : t.std = s.std)
    (hstore : t.store = s.store) (hpins : t.pins = s.pins) : DecidesAtPark s s.head.slots true t.recoveringEntry := by
  have hrest : Decides s s.head.slots true (t.setBrk t.brk.recovering).recoverRest := by
    rw [recoverRest_eq]
    exact ⟨hp, by simp [NoHold], hhead, by rw [← hstd]; rfl, hstore, hpins, by simp⟩
  rw [recoveringEntry_eq, redecideIfParked_of_parked (by simp [hhead, hp])]
  exact decidesAtPark hrest

theorem recoveringEntry_decides {s : State} (hp : s.head.state = .parked) :
    DecidesAtPark s s.head.slots true s.recoveringEntry := recoveringEntry_decides_of hp rfl rfl rfl rfl

/-- A head that is not PARKED takes no decision. -/
theorem recoveringEntry_of_ne {s : State} (hp : s.head.state ≠ .parked) :
    s.recoveringEntry = (s.setBrk s.brk.recovering).recoverRest := by
  rw [recoveringEntry_eq, redecideIfParked_of_ne (by simpa using hp)]

/-! ## RESUME (R132) -/

theorem exec_resume {s : State} {st : Station} (tag : Byte) (hr : Ready s st) :
    exec (.resume st tag []) s = .next ((heard s st).serveResume st tag).settle :=
  State.request_ready .resume s st tag _ hr (by simp) rfl

theorem serveResume_of_ne {s : State} {st : Station} (tag : Byte) (h : s.brk.state ≠ .threading) :
    (heard s st).serveResume st tag = answered s st .resume tag (.status .state) := by
  rw [State.serveResume, heard_brk, if_neg h, heard_answer]

theorem serveResume_of_threading {s : State} {st : Station} (tag : Byte) (h : s.brk.state = .threading) :
    (heard s st).serveResume st tag = (answered s st .resume tag (.status .ok)).recoveringEntry := by
  rw [State.serveResume, heard_brk, if_pos h, heard_answer]

/-- What an entry to RECOVERING and the decision after it say of a state, they say of it after a reply. -/
theorem entersRecovering_of_answered {s u : State} {st : Station} {k : RequestKind} {tag : Byte} {b : ReplyBody}
    (h : EntersRecovering (answered s st k tag b) u) : EntersRecovering s u := h

theorem decidesAtPark_of_answered {s u : State} {st : Station} {k : RequestKind} {tag : Byte} {b : ReplyBody}
    {slots : Four ModeSlot} {due : Bool} (h : DecidesAtPark (answered s st k tag b) slots due u) : DecidesAtPark s slots due u := h

/-! ## The absence of a station (R181, R195) -/

/-- An absent station's port takes no notice. -/
theorem Offers.absent {P : Notice → Prop} {s t : State} (h : Offers P s t) {st : Station}
    (ha : (s.ports.get st).present = false) : t.ports.get st = s.ports.get st := by
  simp only [Offers] at h
  generalize t.ports = qs at *
  induction h with
  | refl => rfl
  | offer _ _ ih =>
    have hnot : ∀ n, ¬(s.ports.get st).takes n = true := fun n ht => by simp [Port.takes_present ht] at ha
    rw [Four.get_map, ih, Port.offer, if_neg (hnot _)]

section

variable {s : State}

theorem faultStill_ring (cause : FaultCause) (h : s.head.scan = none) : (s.faultStill cause).ring = s.ring := by
  rw [State.faultStill, faultEntryWith_eq, scanAbortWith_of_none _ (by simp [h])]
  simp [State.faulted]

theorem approaching_ring (g : Grant) : (s.approaching g).ring = s.ring := by
  simp only [State.approaching]; split <;> simp

theorem standardizing_ring : s.standardizing.ring = s.ring := by
  simp only [State.standardizing]; split <;> simp

theorem positioning_ring (st : Station) (p : Nat) : (s.positioning st p).ring = s.ring := by simp [State.positioning]

/-- Only a head that stands at A can start a scan at a decision at park. -/
theorem decideParkedOther_ring (g : Grant) (h : s.head.scan = none) (ha : s.head.position.toNat ≠ s.recipe.geometry.a) :
    (s.decideParkedOther g).ring = s.ring := by
  cases g with
  | scan =>
    have haway : ¬(s.approaching .scan).head.position.toNat = (s.approaching .scan).recipe.geometry.a := by
      simpa [approaching_recipe] using ha
    rw [State.decideParkedOther, beginApproach_eq, if_neg haway]
    split
    · exact faultStill_ring _ h
    · exact approaching_ring _
  | point st p =>
    rw [State.decideParkedOther, beginPositioning_eq]
    split
    · exact faultStill_ring _ h
    · split <;> simp [positioning_ring]
  | _ => simp [State.decideParkedOther]

theorem standardizing_store : s.standardizing.store = s.store := by
  simp only [State.standardizing]; split <;> simp

theorem decideParked_ring (h : s.head.scan = none) (ha : s.head.position.toNat ≠ s.recipe.geometry.a) :
    s.decideParked.ring = s.ring := by
  rw [decideParked_eq]; split
  · rw [startStd_eq]; split
    · exact standardizing_ring
    · rw [decideParkedOther_ring _ (by simp [h])]
      · simp [State.stdNoRecord, standardizing_ring]
      · have hstore : s.standardizing.stdNoRecord.store = s.store := by simp [standardizing_store]
        simpa only [State.recipe, State.activeRecipe, hstore, stdNoRecord_head, standardizing_head] using ha
  · exact decideParkedOther_ring _ h ha

end

/-- A decision at park changes a mode slot only by consuming it. -/
theorem decideParked_slot (s : State) (j : Station) :
    s.decideParked.head.slots.get j = s.head.slots.get j ∨ s.decideParked.head.slots.get j = .none := by
  rw [decideParked_eq]; split
  · rw [startStd_eq]; split
    · simp
    · rw [decideParkedOther_slots, stdNoRecord_head, standardizing_head, Four.get_map]
      split <;> simp
  · exact Or.inl (by rw [decideParkedOther_slots])

/-- The state that an absence leaves before its decision. -/
def State.left (s : State) (st : Station) : State :=
  ((s.onPort st Port.tornDown).setRing (s.ring.release st)).setSlot st .none

theorem exec_presenceTimerExpiry_of_running {s : State} {st : Station} (h : (s.ports.get st).presenceTimer.isRunning = true) :
    exec (.presenceTimerExpiry st) s = .next (s.left st).redecideIfParked.settle := by
  simp only [exec, execPresenceTimerExpiry, if_pos h]
  rfl

theorem exec_presenceTimerExpiry_of_stopped {s : State} {st : Station} (h : (s.ports.get st).presenceTimer = .stopped) :
    exec (.presenceTimerExpiry st) s = .next s.settle := by
  simp only [exec, execPresenceTimerExpiry, h]
  rfl

end Sys2Proof.Machine

namespace Sys2Proof.Safety

open Sys2Proof Sys2Proof.Machine

/-- Settles O18: the slot is set and replied, and a PARKED head decides again. -/
theorem modeSetsStationSlot : Obligations.ModeSetsStationSlot := by
  intro s st tag b1 b2 b3 hr
  refine ⟨fun hne => ⟨?_, ?_, fun r ha => ?_⟩, fun hp hscan => ⟨⟨_, exec_mode _ _ _ _ hr, ?_, ?_⟩, ⟨_, exec_mode _ _ _ _ hr, ?_, ?_⟩,
    fun r ha => ⟨_, exec_mode _ _ _ _ hr, ?_⟩⟩, fun ha => ?_, fun b0 h => ?_⟩
  · rw [exec_mode _ _ _ _ hr]
    change Host.Outcome.next ((heard s st).modeRelease st tag).settle = _
    rw [State.modeRelease, heard_mode, redecideIfParked_of_ne (by exact hne)]
    rfl
  · rw [exec_mode _ _ _ _ hr]
    change Host.Outcome.next ((heard s st).modeStandardize st tag).settle = _
    rw [State.modeStandardize, heard_mode, redecideIfParked_of_ne (by exact hne)]
    rfl
  · rw [exec_mode _ _ _ _ hr]
    change Host.Outcome.next ((heard s st).modePoint st tag (b2.toNat + 256 * b3.toNat)).settle = _
    rw [modePoint_of_active ha, heard_mode, redecideIfParked_of_ne (by exact hne)]
    rfl
  · change (((heard s st).modeRelease st tag).settle.ports.get st).replies = _
    rw [State.modeRelease, heard_mode, redecideIfParked_replies (by exact hp) (by exact hscan)]
    exact answered_replies s st _ _ _
  · change RedecidesAtPark s _ _ ((heard s st).modeRelease st tag).settle
    rw [State.modeRelease, heard_mode]
    exact redecidesAtPark (redecides_mode hp st _ tag _)
  · change (((heard s st).modeStandardize st tag).settle.ports.get st).replies = _
    rw [State.modeStandardize, heard_mode, redecideIfParked_replies (by exact hp) (by exact hscan)]
    exact answered_replies s st _ _ _
  · change RedecidesAtPark s _ _ ((heard s st).modeStandardize st tag).settle
    rw [State.modeStandardize, heard_mode]
    exact redecidesAtPark (t := ((answered s st .mode tag (.mode .ok .standardize)).setSlot st .standardize).setStd { s.std with stdDue := true })
      ⟨hp, rfl, rfl, rfl, rfl, rfl⟩
  · change (((heard s st).modePoint st tag (b2.toNat + 256 * b3.toNat)).settle.ports.get st).replies = _
      ∧ RedecidesAtPark s _ _ ((heard s st).modePoint st tag (b2.toNat + 256 * b3.toNat)).settle
    rw [modePoint_of_active ha, heard_mode]
    exact ⟨(redecideIfParked_replies (by exact hp) (by exact hscan) st).trans (answered_replies s st _ _ _),
      redecidesAtPark (redecides_mode hp st _ tag _)⟩
  · rw [exec_mode _ _ _ _ hr]
    change Host.Outcome.next ((heard s st).modePoint st tag (b2.toNat + 256 * b3.toNat)).settle = _
    rw [modePoint_of_none ha]
  · rw [exec_mode _ _ _ _ hr, serveMode_badField _ h]

/-- Settles O17: the notice of the change, then the search. -/
theorem clearFaultEntersHoming : Obligations.ClearFaultEntersHoming := by
  intro s st tag hr
  have hexec : exec (.clearFault st tag []) s = .next ((heard s st).serveClearFault st tag).settle :=
    State.request_ready .clearFault s st tag _ hr (by simp) rfl
  refine ⟨fun hf hready ha hb => ⟨_, hexec, ?_⟩, fun hnot => ?_⟩
  · have hserved : (heard s st).serveClearFault st tag
        = ((answered s st .clearFault tag (.status .ok)).setStd { s.std with failCount := 0 }).enterHoming := by
      simp only [State.serveClearFault, heard_head, heard_pins, hf, hready, heard_answer]
      rfl
    rw [hserved, enterHoming_of_ready (by exact hf) (by exact hready) (by exact ha) (by exact hb)]
    exact ⟨rfl, rfl, rfl, rfl, rfl, rfl, rfl⟩
  · have hno : ¬(s.head.state = .fault ∧ s.pins.drvRdy = true) := by
      rw [not_and_or, Bool.not_eq_true]; exact hnot
    rw [hexec, State.serveClearFault, heard_head, heard_pins, if_neg hno, heard_answer]

/-- Settles O37: from THREADING to RECOVERING, a PARKED head deciding after the notice. -/
theorem resumeEntersRecovering : Obligations.ResumeEntersRecovering := by
  intro s st tag hr
  refine ⟨fun hne => ?_, fun hth hp => ?_, fun hth hp hscan => ⟨_, exec_resume tag hr, ?_⟩⟩
  · rw [exec_resume tag hr, serveResume_of_ne tag hne]
  · rw [exec_resume tag hr, serveResume_of_threading tag hth, recoveringEntry_of_ne (by exact hp), recoverRest_eq]
    rfl
  · have hscan' : (answered s st .resume tag (.status .ok)).head.state = .parked →
        (answered s st .resume tag (.status .ok)).head.scan = none := fun _ => hscan
    have hd := recoveringEntry_decision hscan'
    rw [serveResume_of_threading tag hth]
    refine ⟨entersRecovering_of_answered (entersRecovering hscan'), ?det, ?replies, ?edges⟩
    case det => rw [settle_brk, recoveringEntry_eq, redecideIfParked_brk, recoverRest_brk]; rfl
    case replies =>
      rw [State.settle_get, (Port.choose_kept _).1, hd.news.replies, recoverRest_eq, State.offer_get, (Port.offer_kept _ _).1]
      exact answered_replies s st _ _ _
    case edges =>
      obtain ⟨hl, hprev, hin⟩ := recoveringEntry_edges hscan'
      rw [settle_edges]
      exact ⟨hl, hprev, hin, decidesAtPark_of_answered (recoveringEntry_decides (s := answered s st .resume tag (.status .ok)) hp)⟩

/-- Settles O50: the port is reset but for its receiver, the holds and the mode slot are given up, and a PARKED head decides. -/
theorem absenceTearsPortDown : Obligations.AbsenceTearsPortDown := by
  intro s st
  refine ⟨exec_presenceTimerExpiry_of_stopped, fun h hne => ?_, fun h hp hscan => ⟨_, exec_presenceTimerExpiry_of_running h, ?_⟩⟩
  · rw [exec_presenceTimerExpiry_of_running h, redecideIfParked_of_ne (by exact hne)]
    rfl
  · have hd := decideParked_decision (s := s.left st) hscan
    have habsent : ((s.left st).ports.get st).present = false := by
      simp [State.left, State.setSlot, Port.tornDown, Port.reset]
    have hslots := redecidesAtPark (s := s) (slots := s.head.slots.set st .none) (due := s.std.stdDue) (t := s.left st)
      ⟨hp, rfl, rfl, rfl, rfl, rfl⟩
    refine ⟨?port, ?slot, ?brk, ?store, ?ring, hslots⟩
    case port =>
      rw [State.settle_get, redecideIfParked_of_parked (by exact hp), hd.news.absent habsent]
      simp [State.left, State.setSlot]
      rfl
    case slot =>
      rw [settle_head, redecideIfParked_of_parked (by exact hp)]
      obtain e | e := decideParked_slot (s.left st) st <;> rw [e]
      simp [State.left, State.setSlot]
    case brk => simp [State.left, State.setSlot]
    case store => simp [State.left, State.setSlot]
    case ring =>
      intro ha
      rw [settle_ring, redecideIfParked_of_parked (by exact hp), decideParked_ring (by exact hscan) (by exact ha)]
      rfl

end Sys2Proof.Safety
end


section
/-! SUPPORT AND PROOF. Debounce expiries (R119) and the ways out of BREAK (R130, R131, R134). -/

namespace Sys2Proof.Machine

open Sys2Proof Sys2Proof.Safety

/-! ## One detector's change -/

section

variable (old : PerDetector DetectorUnit) (d : Detector) (u : DetectorUnit)

theorem newTrips_set : (newTrips old (old.set d u)).any id = (!(old.get d).tripped && u.tripped) := by
  cases d <;> simp [newTrips, PerDetector.any, PerDetector.zip, PerDetector.set, PerDetector.get]

theorem newClears_set : (newClears old (old.set d u)).any id = ((old.get d).tripped && !u.tripped) := by
  cases d <;> simp [newClears, PerDetector.any, PerDetector.zip, PerDetector.set, PerDetector.get]

end

theorem allClear_iff {b : Supervisor} : b.allClear = true ↔ ∀ e, (b.det.get e).tripped = false := by
  simp only [Supervisor.allClear, Supervisor.tripped, PerDetector.any, PerDetector.map, id, Bool.not_eq_true',
    Bool.or_eq_false_iff]
  constructor
  · rintro ⟨⟨⟨hw, hp⟩, hd⟩, hr⟩ e
    cases e <;> assumption
  · exact fun h => ⟨⟨⟨h .wet, h .press⟩, h .dry⟩, h .reel⟩

/-- A detector that clears in BREAK has the condition of R130 judged. -/
theorem judgeDetectors_of_clear {s : State} {trips clears : PerDetector Bool} (hb : s.brk.state = .break_)
    (ht : trips.any id = false) (hc : clears.any id = true) : s.judgeDetectors trips clears = s.judgeThreading := by
  simp only [State.judgeDetectors, State.judgeDetectorsWith, hb, ht, hc]
  rfl

/-- A detector that trips in BREAK joins the cause set (R129). -/
theorem judgeDetectors_of_cause {s : State} {trips clears : PerDetector Bool} (hb : s.brk.state = .break_)
    (ht : trips.any id = true) : s.judgeDetectors trips clears = s.addCauses trips := by
  simp only [State.judgeDetectors, State.judgeDetectorsWith, hb, ht]
  rfl

/-- A trip outside BREAK and IDLE enters BREAK (R128). -/
theorem judgeDetectors_of_trip {s : State} {trips clears : PerDetector Bool}
    (hb : s.brk.state = .running ∨ s.brk.state = .recovering ∨ s.brk.state = .threading) (ht : trips.any id = true) :
    s.judgeDetectors trips clears = s.breakEntry false := by
  obtain hb | hb | hb := hb <;> simp only [State.judgeDetectors, State.judgeDetectorsWith, hb, ht] <;> rfl

/-- The detector's own part of an expiry: its state becomes its level, its age the debounce time or more (R119, log 4). -/
def State.expired (s : State) (d : Detector) : PerDetector DetectorUnit :=
  s.brk.det.set d { (s.brk.det.get d) with
    tripped := (s.brk.det.get d).asserted
    age := max (s.brk.det.get d).age (s.recipe.brk.debounces.get d * 10) }

theorem debounceExpiry_eq (s : State) (d : Detector) :
    s.debounceExpiry d = (s.setBrk { s.brk with det := s.expired d }).judgeDetectors
      (newTrips s.brk.det (s.expired d)) (newClears s.brk.det (s.expired d)) := rfl

theorem recipe_of_activeRecipe {s : State} {r : Recipe} (h : s.activeRecipe = some r) : s.recipe = r := by
  simp [State.recipe, h]

section

variable {s : State} {d : Detector} {r : Recipe}

/-- An enabled detector whose level opposes its state expires (R119). -/
theorem exec_debounceExpiry (ha : s.activeRecipe = some r) (he : r.brk.enables.get d = true)
    (hne : (s.brk.det.get d).asserted ≠ (s.brk.det.get d).tripped) :
    exec (.debounceExpiry d) s = .next (s.debounceExpiry d).settle := by
  have hcan : s.canExpire d = true := by simp [State.canExpire, State.enabled, ha, he, hne]
  simp only [exec, execDebounceExpiry, if_pos hcan]
  rfl

theorem expired_clear (hl : (s.brk.det.get d).asserted = false) : s.expired d = clearOf s d := by
  rw [State.expired, hl]; rfl

/-- In BREAK the last TRIPPED detector that clears brings THREADING (R130). -/
theorem debounceExpiry_last (hl : (s.brk.det.get d).asserted = false) (ht : (s.brk.det.get d).tripped = true)
    (hb : s.brk.state = .break_) (hothers : ∀ e, e ≠ d → (s.brk.det.get e).tripped = false) :
    s.debounceExpiry d = (s.setBrk { s.brk with det := clearOf s d }).threadingEntry := by
  have hlast : (s.brk.det.set d { (s.brk.det.get d) with
      tripped := false, age := max (s.brk.det.get d).age (s.recipe.brk.debounces.get d * 10) }) = clearOf s d := rfl
  have htrips : (newTrips s.brk.det (clearOf s d)).any id = false := by rw [← hlast, newTrips_set]; simp
  have hclears : (newClears s.brk.det (clearOf s d)).any id = true := by rw [← hlast, newClears_set]; simp [ht]
  have hall : ((s.setBrk { s.brk with det := clearOf s d }).brk.allClear) = true := by
    refine allClear_iff.mpr fun e => ?_
    rw [State.setBrk_brk]
    by_cases h : e = d
    · rw [h, ← hlast, PerDetector.get_set_same]
    · rw [← hlast, PerDetector.get_set_ne _ _ h, hothers e h]
  rw [debounceExpiry_eq, expired_clear hl]
  rw [judgeDetectors_of_clear (by exact hb) htrips hclears]
  exact if_pos ⟨hb, hall⟩

/-! ## THREADING and its end (R130, R131) -/

/-- A threading hold of 0 expires at the entry. -/
theorem threadingEntry_of_hold (h : s.recipe.brk.threadingHold ≠ 0) :
    s.threadingEntry = (s.setBrk (s.brk.threading s.recipe.brk.threadingHold)).breakNotice := by
  simp [threadingEntry_eq, h]

theorem threadingEntry_of_zero (h : s.recipe.brk.threadingHold = 0) :
    s.threadingEntry = ((s.setBrk (s.brk.threading 0)).breakNotice).threadingExpiry := by
  simp [threadingEntry_eq, h]

theorem threadingExpiry_of_manual (h : s.recipe.brk.autoResume = false) :
    s.threadingExpiry = s.setBrk { s.brk with threadingTimer := .stopped } := by
  have h' : (s.setBrk { s.brk with threadingTimer := .stopped }).recipe.brk.autoResume = false := h
  simp [State.threadingExpiry, h']

theorem threadingExpiry_of_auto (h : s.recipe.brk.autoResume = true) :
    s.threadingExpiry = (s.setBrk { s.brk with threadingTimer := .stopped }).recoveringEntry := by
  have h' : (s.setBrk { s.brk with threadingTimer := .stopped }).recipe.brk.autoResume = true := h
  simp [State.threadingExpiry, h']

theorem exec_threadingTimerExpiry_of_running (hb : s.brk.state = .threading) (ht : s.brk.threadingTimer.isRunning = true) :
    exec .threadingTimerExpiry s = .next s.threadingExpiry.settle := by
  simp only [exec, execThreadingTimerExpiry, if_pos (And.intro hb ht)]
  rfl

theorem exec_threadingTimerExpiry_of_not (h : s.brk.state ≠ .threading ∨ s.brk.threadingTimer = .stopped) :
    exec .threadingTimerExpiry s = .next s.settle := by
  have hnot : ¬(s.brk.state = .threading ∧ s.brk.threadingTimer.isRunning = true) := by
    rintro ⟨hb, ht⟩
    obtain h | h := h
    · exact h hb
    · rw [h] at ht; exact absurd ht (by decide)
  simp only [exec, execThreadingTimerExpiry, if_neg hnot]
  rfl

/-- What an entry to RECOVERING leaves at a head that it does not move. -/
theorem recoveringEntry_still (hp : s.head.state ≠ .parked) :
    s.recoveringEntry.settle.std = { s.std with stdDue := true } ∧ s.recoveringEntry.settle.head = s.head
      ∧ s.recoveringEntry.settle.edges = restartedEdges s.edges := by
  rw [recoveringEntry_of_ne hp, recoverRest_eq]
  exact ⟨rfl, rfl, rfl⟩

end

/-- The detectors through an entry to RECOVERING. -/
theorem recoveringEntry_det (s : State) : s.recoveringEntry.settle.brk.det = s.brk.det := by
  rw [settle_brk, recoveringEntry_eq, redecideIfParked_brk, recoverRest_brk]; rfl

end Sys2Proof.Machine

namespace Sys2Proof.Safety

open Sys2Proof Sys2Proof.Machine

/-- Settles O36: THREADING with its hold, without it, and with the automatic resume that follows at once or at the expiry. -/
theorem lastClearEntersThreading : Obligations.LastClearEntersThreading := by
  refine ⟨fun s d r ha he hl ht hb hothers => ?_, fun s r ha hb ht => ⟨fun hauto => ?_, fun hauto hscan => ?_⟩,
    fun s h => exec_threadingTimerExpiry_of_not h⟩
  · have hrecipe := recipe_of_activeRecipe ha
    have hexec : exec (.debounceExpiry d) s = .next (s.setBrk { s.brk with det := clearOf s d }).threadingEntry.settle := by
      rw [exec_debounceExpiry ha he (by rw [hl, ht]; decide), debounceExpiry_last hl ht hb hothers]
    have hr : (s.setBrk { s.brk with det := clearOf s d }).recipe = r := hrecipe
    refine ⟨fun hhold => ?_, fun hhold hauto => ?_, fun hhold hauto hscan => ?_⟩
    · rw [hexec, threadingEntry_of_hold (by rwa [hr]), hr]
      rfl
    · rw [hexec, threadingEntry_of_zero (by rwa [hr]), threadingExpiry_of_manual]
      · rfl
      · exact (congrArg (fun q : Recipe => q.brk.autoResume) hr).trans hauto
    · let v := ((((s.setBrk { s.brk with det := clearOf s d }).setBrk
        ((s.setBrk { s.brk with det := clearOf s d }).brk.threading 0)).breakNotice))
      let t := v.setBrk { v.brk with threadingTimer := .stopped }
      have hexec' : exec (.debounceExpiry d) s = .next t.recoveringEntry.settle := by
        rw [hexec, threadingEntry_of_zero (by rwa [hr]), threadingExpiry_of_auto]
        exact (congrArg (fun q : Recipe => q.brk.autoResume) hr).trans hauto
      refine ⟨_, hexec', entersRecovering (s := t) hscan, recoveringEntry_det t,
        fun hp => recoveringEntry_decides_of (s := s) (t := t) hp rfl rfl rfl rfl, fun hp => ?_⟩
      obtain ⟨hstd, hhead, -⟩ := recoveringEntry_still (s := t) hp
      exact ⟨hstd, hhead⟩
  · rw [exec_threadingTimerExpiry_of_running hb ht, threadingExpiry_of_manual (by rw [recipe_of_activeRecipe ha, hauto])]
    rfl
  · let t := s.setBrk { s.brk with threadingTimer := .stopped }
    have hexec : exec .threadingTimerExpiry s = .next t.recoveringEntry.settle := by
      rw [exec_threadingTimerExpiry_of_running hb ht, threadingExpiry_of_auto (by rw [recipe_of_activeRecipe ha, hauto])]
    obtain ⟨hlocked, hprev, -⟩ := recoveringEntry_edges (s := t) hscan
    refine ⟨_, hexec, entersRecovering (s := t) hscan, recoveringEntry_det t, hlocked, hprev,
      fun hp => recoveringEntry_decides (s := t) hp, fun hp => recoveringEntry_still (s := t) hp⟩

end Sys2Proof.Safety
end


section
/-! SUPPORT. What follows an activation or an abort leaves of the profile unit and the ports (R34, R128, R168, R169). -/

namespace Sys2Proof.Machine

open Sys2Proof Sys2Proof.Safety

/-! ## The relation -/

/-- The kinds that no consequence of an abort or an activation queues. -/
def Lasting (k : NoticeKind) : Prop := k ≠ .headState ∧ k ≠ .standardize ∧ k ≠ .breakState

theorem lasting_recipe : Lasting .recipe := by simp [Lasting]
theorem lasting_limit : Lasting .limit := by simp [Lasting]
theorem lasting_headLink : Lasting .headLink := by simp [Lasting]
theorem lasting_scanDone : Lasting .scanDone := by simp [Lasting]
theorem lasting_holeReport : Lasting .holeReport := by simp [Lasting]

/-- The entries of a kind in a port's queue. -/
def Port.entries (p : Port) (k : NoticeKind) : List NoticeEntry := p.notices.filter (fun e => decide (e.content.kind = k))

theorem Port.Bears.of_entries {p q : Port} {n : Notice} (h : q.entries n.kind = p.entries n.kind) (hb : p.Bears n) : q.Bears n := by
  obtain ⟨e, he, hk, hc⟩ := hb
  have hmem : e ∈ q.entries n.kind := by rw [h]; exact List.mem_filter.mpr ⟨he, decide_eq_true hk⟩
  exact ⟨e, (List.mem_filter.mp hmem).1, hk, hc⟩

theorem replaceOrAppend_entries {n : Notice} {k : NoticeKind} (h : n.kind ≠ k) (l : List NoticeEntry) :
    (replaceOrAppend n l).filter (fun e => decide (e.content.kind = k)) = l.filter (fun e => decide (e.content.kind = k)) := by
  induction l with
  | nil => simp [replaceOrAppend, h]
  | cons e rest ih =>
    simp only [replaceOrAppend]; split
    · next he => simp [h, he]
    · simp only [List.filter_cons, ih]

/-- A notice of one kind changes no entry of another. -/
theorem Port.offer_entries {n : Notice} {k : NoticeKind} (h : n.kind ≠ k) (p : Port) : (Port.offer n p).entries k = p.entries k := by
  simp only [Port.offer]; split
  · obtain e | ⟨x, rest, hp, ⟨hx, e⟩ | ⟨-, e⟩⟩ := p.enqueue_cases n <;> rw [e]
    · exact replaceOrAppend_entries h _
    · simp [Port.entries, hp, hx, h]
    · simp [Port.entries, hp, List.filter_cons, replaceOrAppend_entries h]
  · rfl

theorem Offers.entries {P : Notice → Prop} {s t : State} {k : NoticeKind} (h : Offers P s t) (hP : ∀ n, P n → n.kind ≠ k)
    (st : Station) : (t.ports.get st).entries k = (s.ports.get st).entries k := by
  simp only [Offers] at h
  generalize t.ports = qs at *
  induction h with
  | refl => rfl
  | offer _ hn ih => rw [Four.get_map, Port.offer_entries (hP _ hn), ih]

/-- What consequences leave of a port: a station that waits for nothing gets no reply, and the entries of the lasting kinds
go on standing. -/
structure PortAfter (p q : Port) : Prop where
  present : q.present = p.present
  sub : q.sub = p.sub
  replies : p.pending = none → q.pending = none ∧ q.replies = p.replies
  entries : ∀ k, Lasting k → q.entries k = p.entries k

theorem PortAfter.bears {p q : Port} (h : PortAfter p q) {n : Notice} (hn : Lasting n.kind) (hb : p.Bears n) : q.Bears n :=
  hb.of_entries (h.entries n.kind hn)

/-- What consequences leave of the profile unit and the ports. -/
structure After (s t : State) : Prop where
  layout : t.profile.layout = s.profile.layout
  continuity : s.profile.continuity = false → t.profile.continuity = false
  ports : ∀ st, PortAfter (s.ports.get st) (t.ports.get st)

theorem PortAfter.refl (p : Port) : PortAfter p p := ⟨rfl, rfl, fun h => ⟨h, rfl⟩, fun _ _ => rfl⟩

theorem PortAfter.trans {p q r : Port} (h : PortAfter p q) (h' : PortAfter q r) : PortAfter p r where
  present := h'.present.trans h.present
  sub := h'.sub.trans h.sub
  replies hp := by
    obtain ⟨a, b⟩ := h.replies hp
    obtain ⟨c, d⟩ := h'.replies a
    exact ⟨c, d.trans b⟩
  entries k hk := (h'.entries k hk).trans (h.entries k hk)

section

variable {s t u : State}

theorem After.of_eq (hp : t.ports = s.ports) (hf : t.profile = s.profile) : After s t where
  layout := by rw [hf]
  continuity h := by rw [hf, h]
  ports st := by rw [hp]; exact .refl _

theorem After.trans (h : After s t) (h' : After t u) : After s u where
  layout := h'.layout.trans h.layout
  continuity hc := h'.continuity (h.continuity hc)
  ports st := (h.ports st).trans (h'.ports st)

end

/-- Any notice but those that last. -/
theorem offer_after (s : State) {n : Notice} (hn : ¬Lasting n.kind) : After s (s.offer n) where
  layout := rfl
  continuity h := h
  ports st := by
    obtain ⟨hr, hp, -, hpres, hsub, -⟩ := Port.offer_kept n (s.ports.get st)
    rw [State.offer_get]
    exact ⟨hpres, hsub, fun h => ⟨hp.trans h, hr⟩, fun k hk => Port.offer_entries (fun e => hn (e ▸ hk)) _⟩

section

variable (s : State)

theorem headNotice_after : After s s.headNotice := offer_after s (by simp [Lasting, Notice.kind])
theorem stdNotice_after : After s s.stdNotice := offer_after s (by simp [Lasting, Notice.kind])
theorem breakNotice_after : After s s.breakNotice := offer_after s (by simp [Lasting, Notice.kind])

theorem profileRestart_after : After s s.profileRestart where
  layout := by rw [profileRestart_eq]; rfl
  continuity _ := by rw [profileRestart_eq]; rfl
  ports st := by rw [profileRestart_eq]; exact .refl _

theorem clearContinuity_after : After s s.clearContinuity := ⟨rfl, fun _ => rfl, fun _ => .refl _⟩

theorem setProfile_deferred_after (b : Bool) : After s (s.setProfile { s.profile with deferred := b }) :=
  ⟨rfl, fun h => h, fun _ => .refl _⟩

theorem deferredAtAbort_after : After s s.deferredAtAbort := by
  simp only [State.deferredAtAbort]; split
  · exact (setProfile_deferred_after s false).trans (profileRestart_after _)
  · exact .of_eq rfl rfl

theorem voided_after : After s s.voided where
  layout := by simp [State.voided, State.clearContinuity]
  continuity _ := by simp [State.voided, State.clearContinuity]
  ports st := by rw [voided_ports]; exact .refl _

theorem scanAbortWith_id_after : After s (s.scanAbortWith id) := by
  cases h : s.head.scan with
  | none => rw [scanAbortWith_of_none _ h]; exact .of_eq rfl rfl
  | some x =>
    rw [scanAbortWith_of_some _ h]
    exact (voided_after s).trans (deferredAtAbort_after _)

/-- A decision's effects on the profile unit and the ports, as consequences. -/
theorem Decision.after {s t : State} (h : Decision s t) : After s t where
  layout := by obtain e | e := h.profile <;> rw [e]
  continuity hc := by
    obtain e | e := h.profile <;> rw [e]
    exact hc
  ports st := by
    have hnews := h.news
    refine ⟨hnews.present st, hnews.kept (fun p => p.sub) (fun n p => (Port.offer_kept n p).2.2.2.2.1) st, fun hp => ⟨?_, hnews.replies st⟩,
      fun k hk => hnews.entries (fun n hn e => ?_) st⟩
    · exact (hnews.kept (fun p => p.pending) (fun n p => (Port.offer_kept n p).2.1) st).trans hp
    · obtain hm | hm := hn <;> exact absurd (e ▸ hk) (by simp [Lasting, hm])

theorem faulted_after (cause : FaultCause) : After s (s.faulted cause) :=
  .of_eq (by simp [State.faulted]) (by simp [State.faulted])

theorem faultStill_after (cause : FaultCause) : After s (s.faultStill cause) := by
  have hd : After ((s.faulted cause).scanAbortWith id) ((s.faulted cause).scanAbortWith id).dropPeriod := .of_eq rfl rfl
  rw [State.faultStill, faultEntryWith_eq]
  exact (((faulted_after s cause).trans (scanAbortWith_id_after _)).trans hd).trans
    ((stdAbort_decision _).after.trans (headNotice_after _))

theorem startScan_after (dir : ScanDir) (a : Bool) : After s (s.startScan dir a) := (startScan_decision s dir a).after

theorem beginApproach_after (g : Grant) : After s (s.beginApproach g) := by
  rw [beginApproach_eq]; split
  · exact faultStill_after s _
  · split
    · exact (approaching_decision s g).after.trans (startScan_after _ _ _)
    · exact (approaching_decision s g).after

theorem beginPositioning_after (st : Station) (p : Nat) : After s (s.beginPositioning st p) := by
  rw [beginPositioning_eq]; split
  · exact faultStill_after s _
  · split
    · exact (positioning_decision s st p).after.trans (arrivePoint_decision _).after
    · exact (positioning_decision s st p).after

theorem decideParkedOther_after (g : Grant) : After s (s.decideParkedOther g) := by
  cases g with
  | scan => exact beginApproach_after s _
  | point st p => exact beginPositioning_after s st p
  | _ => exact (stayParked_decision s _).after

theorem decideParked_after : After s s.decideParked := by
  rw [decideParked_eq]; split
  · rw [startStd_eq]; split
    · exact (standardizing_decision s).after
    · exact ((standardizing_decision s).after.trans (stdNoRecord_decision _).after).trans (decideParkedOther_after _ _)
  · exact decideParkedOther_after s _

theorem redecideIfParked_after : After s s.redecideIfParked := by
  by_cases h : s.head.state = .parked
  · rw [redecideIfParked_of_parked h]; exact decideParked_after s
  · rw [redecideIfParked_of_ne h]; exact .of_eq rfl rfl

theorem returning_after (g : Grant) : After s (s.returning g) := by
  have h : After s (((s.toHead .returning).grantTo g).drive false s.traverseStep) := .of_eq (by simp) (by simp)
  exact h.trans (headNotice_after _)

theorem arriveParked_after : After s s.arriveParked := by
  have h : After s (s.driveOff.toHead .parked) := .of_eq (by simp) (by simp)
  exact (h.trans (headNotice_after _)).trans (decideParked_after _)

theorem beginReturning_after (g : Grant) : After s (s.beginReturning g) := by
  rw [beginReturning_eq]; split
  · exact faultStill_after s _
  · split
    · exact (returning_after s g).trans (arriveParked_after _)
    · exact returning_after s g

theorem claimTakesEffectWith_id_after : After s (s.claimTakesEffectWith id) := by
  simp only [State.claimTakesEffectWith]; split
  · have h : After s (s.toHead .returning) := .of_eq (by simp) (by simp)
    exact (h.trans (scanAbortWith_id_after _)).trans (beginReturning_after _ _)
  · exact beginReturning_after s _
  · have h : After s s.dropPeriod := .of_eq rfl rfl
    exact h.trans (beginReturning_after _ _)
  · exact (stdAbort_decision s).after.trans (enterHead_decision _ _ _).after
  all_goals exact .of_eq rfl rfl

/-- A reply to a station that waits is no concern of the others. -/
theorem endPending_after (st : Station) (b : ReplyBody) : After s (s.endPending st b) := by
  cases h : (s.ports.get st).pending with
  | none => simp only [State.endPending, h]; exact .of_eq rfl rfl
  | some r =>
    have e : s.endPending st b = s.onPort st (fun p => Port.queueReply { p with pending := none } ⟨some .readScan, r.tag, b⟩) := by
      simp only [State.endPending, h, State.reply, State.onPort_onPort]
    rw [e]
    refine ⟨rfl, fun hc => hc, fun j => ?_⟩
    by_cases hj : j = st
    · subst hj
      rw [State.onPort_get]
      exact ⟨rfl, rfl, fun hp => by simp [hp] at h, fun _ _ => rfl⟩
    · rw [State.onPort_get_ne _ _ hj]; exact .refl _

theorem endPendingByBreak_after : After s s.endPendingByBreak :=
  (((endPending_after s .n0 _).trans (endPending_after _ .n1 _)).trans (endPending_after _ .n2 _)).trans (endPending_after _ .n3 _)

theorem setBrk_after (b : Supervisor) : After s (s.setBrk b) := .of_eq rfl rfl

theorem recoveringEntry_after : After s s.recoveringEntry := by
  rw [recoveringEntry_eq]
  have hstd : After (s.setBrk s.brk.recovering).profileRestart
      ((s.setBrk s.brk.recovering).profileRestart.setStd
        { (s.setBrk s.brk.recovering).profileRestart.std with stdDue := true }) := .of_eq rfl rfl
  exact (((setBrk_after s _).trans (profileRestart_after _)).trans (hstd.trans (breakNotice_after _))).trans
    (redecideIfParked_after _)

theorem threadingExpiry_after : After s s.threadingExpiry := by
  simp only [State.threadingExpiry]; split
  · exact (setBrk_after s _).trans (recoveringEntry_after _)
  · exact setBrk_after s _

theorem threadingEntry_after : After s s.threadingEntry := by
  simp only [threadingEntry_eq]; split
  · exact ((setBrk_after s _).trans (breakNotice_after _)).trans (threadingExpiry_after _)
  · exact (setBrk_after s _).trans (breakNotice_after _)

theorem judgeThreading_after : After s s.judgeThreading := by
  simp only [State.judgeThreading]; split
  · exact threadingEntry_after s
  · exact .of_eq rfl rfl

theorem breakEntryWith_id_after (absent : Bool) : After s (s.breakEntryWith id absent) := by
  rw [breakEntryWith_eq]
  exact ((((setBrk_after s _).trans (claimTakesEffectWith_id_after _)).trans
    ((clearContinuity_after _).trans (endPendingByBreak_after _))).trans (breakNotice_after _)).trans (judgeThreading_after _)

theorem addCauses_after (trips : PerDetector Bool) : After s (s.addCauses trips) :=
  (setBrk_after s _).trans (breakNotice_after _)

theorem judgeDetectorsWith_after {entry : State → State} (hentry : ∀ v, After v (entry v)) (trips clears : PerDetector Bool) :
    After s (s.judgeDetectorsWith entry trips clears) := by
  obtain e | ⟨-, -, e⟩ | ⟨-, -, e⟩ | ⟨-, e⟩ := judgeDetectorsWith_cases entry trips clears s <;> rw [e]
  · exact .of_eq rfl rfl
  · exact hentry s
  · exact addCauses_after s _
  · exact judgeThreading_after s

theorem judgeActivationWith_after {entry : State → State} (hentry : ∀ v, After v (entry v)) (trips clears : PerDetector Bool) :
    After s (s.judgeActivationWith entry trips clears) := by
  obtain ⟨-, -, e⟩ | ⟨-, -, e⟩ | ⟨-, e⟩ := judgeActivationWith_cases entry trips clears s <;> rw [e]
  · exact recoveringEntry_after s
  · exact hentry s
  · exact judgeDetectorsWith_after s hentry trips clears

theorem judgeInEntry_after (trips clears : PerDetector Bool) : After s (s.judgeInEntry trips clears) := by
  simp only [State.judgeInEntry]; split
  · exact addCauses_after s _
  · exact .of_eq rfl rfl

theorem reaim_after : After s s.reaim := by
  by_cases h : s.head.state = .scanning .approach
  · have hd : After s (s.drive (s.directionTo s.recipe.geometry.a) s.traverseStep) := .of_eq (by simp) (by simp)
    simp only [State.reaim, h]; split
    · exact hd.trans (startScan_after _ _ _)
    · exact hd
  · rw [reaim_of_ne h]; exact .of_eq rfl rfl

end

/-! ## The part of an activation before its consequences (R84, R157, R169) -/

/-- A slot ACTIVE and the detectors re-judged: what the break state machine then judges. -/
def State.handed (s : State) (k : SlotNo) : State :=
  (s.activated k).setBrk { (s.activated k).brk with det := (s.activated k).rejudged }

theorem activateWith_handed (judge : PerDetector Bool → PerDetector Bool → State → State) (k : SlotNo) (s : State) :
    s.activateWith judge k =
      (((judge (newTrips s.brk.det (s.handed k).brk.det) (newClears s.brk.det (s.handed k).brk.det)
        (s.handed k)).recipeNotice .activated).redecideIfParked).reaim := by
  simp only [activateWith_eq, State.handed, activated_brk]; rfl

@[simp] theorem handed_head (s : State) (k : SlotNo) : (s.handed k).head = s.head := by simp [State.handed]

theorem clearLimits_eq (s : State) : s.clearLimits = s.setLimits .reset
    ∨ ∃ i, lastChanged s.limits.states (Limits.reset).states = some i
      ∧ s.clearLimits = (s.setLimits .reset).offer (.limit (Limits.reset).states i false s.ring.newest) := by
  cases h : lastChanged s.limits.states (Limits.reset).states with
  | none => exact Or.inl (by simp [State.clearLimits, h])
  | some i => exact Or.inr ⟨i, rfl, by simp [State.clearLimits, h]⟩

@[simp] theorem clearLimits_limits (s : State) : s.clearLimits.limits = .reset := by
  obtain e | ⟨i, -, e⟩ := clearLimits_eq s <;> rw [e] <;> rfl

theorem clearLimits_profile' (s : State) : s.clearLimits.profile = s.profile := by
  obtain e | ⟨i, -, e⟩ := clearLimits_eq s <;> rw [e] <;> rfl

theorem profileActivation_layout (s : State) (l : Layout) : (s.profileActivation l).profile.layout = some l := by
  simp only [State.profileActivation]; split
  · next h => exact h
  · rw [profileRestart_eq]; rfl

theorem profileActivation_continuity (s : State) (l : Layout) : (s.profileActivation l).profile.continuity = false := by
  simp only [State.profileActivation]; split
  · rfl
  · rw [profileRestart_eq]; rfl

theorem yield_eq (x : Slot) :
    x.yield = if x.state = .active ∨ x.state = .pending then { x with state := .valid } else x := by
  cases h : x.state <;> simp [Slot.yield, h]

/-- The store after the step of R169. -/
theorem activate_store_get (st : Store) (k j : SlotNo) :
    (st.activate k).slots.get j = if j = k then
        { (st.slots.get k) with state := .active, generation := (st.slots.get k).generation + 1 }
      else (st.slots.get j).yield := by
  have hk : ({ (st.slots.get k).yield with
      state := .active, generation := (st.slots.get k).yield.generation + 1 } : Slot)
      = { (st.slots.get k) with state := .active, generation := (st.slots.get k).generation + 1 } := by
    rw [yield_eq]; split <;> rfl
  simp only [Store.activate, Four.get_set, Four.get_map, hk]

/-- The slot ACTIVE after the step is the slot of the step. -/
theorem activate_active (st : Store) (k : SlotNo) : (st.activate k).active = some k := by
  have hget := activate_store_get st k
  have hstate : ∀ j, ((st.activate k).slots.get j).state = .active ↔ j = k := fun j => by
    rw [hget]; split
    · next h => simp [h]
    · next h =>
      rw [yield_eq]; split
      · simp [h]
      · next hn => simp [h, not_or.mp hn]
  cases h : (st.activate k).active with
  | none => have := (Four.first_eq_none _ _).mp h k; simp [hstate k] at this
  | some i => have := Four.first_some h; simp [(hstate i)] at this; rw [this]

theorem handed_store (s : State) (k : SlotNo) : (s.handed k).store = s.store.activate k := by
  simp [State.handed, State.activated]

/-- The recipe in force after the step is that of the slot. -/
theorem handed_recipe (s : State) (k : SlotNo) : (s.handed k).recipe = (s.store.slots.get k).recipe := by
  rw [recipe_of_active (k := k) (by rw [handed_store]; exact activate_active _ _), handed_store, activate_store_get, if_pos rfl]

theorem handed_layout (s : State) (k : SlotNo) :
    (s.handed k).profile.layout = some (s.store.slots.get k).recipe.layout := by
  have hrec : (s.setStore (s.store.activate k)).recipe = (s.store.slots.get k).recipe := by
    rw [recipe_of_active (k := k) (activate_active _ _), State.setStore_store, activate_store_get, if_pos rfl]
  simp only [State.handed, State.activated, State.setBrk_profile, clearLimits_profile', profileActivation_layout, hrec]

theorem handed_continuity (s : State) (k : SlotNo) : (s.handed k).profile.continuity = false := by
  simp only [State.handed, State.activated, State.setBrk_profile, clearLimits_profile', profileActivation_continuity]

theorem handed_limits (s : State) (k : SlotNo) : (s.handed k).limits = .reset := by
  simp [State.handed, State.activated]

/-- An activation that was handed on, whatever came of it, is an activation. -/
theorem activated_of_handed {s v u : State} {k : SlotNo} (hv : v.store = s.store) (hstore : u.store = (v.handed k).store)
    (hlimits : u.limits = (v.handed k).limits) (hlayout : u.profile.layout = (v.handed k).profile.layout) : Activated s u k := by
  rw [Activated, hstore, hlimits, hlayout, handed_store, handed_limits, handed_layout, hv]
  refine ⟨rfl, rfl, ?_, fun j hj => ?_, rfl, rfl⟩
  · rw [activate_store_get, if_pos rfl]
  · rw [activate_store_get, if_neg hj, yield_eq]

end Sys2Proof.Machine
end


section
/-! SUPPORT AND PROOF. Consequences at a head that is RETURNING or in FAULT, and the faults (R26 to R28, R34, R38, R168). -/

namespace Sys2Proof.Machine

open Sys2Proof Sys2Proof.Safety

/-! ## Consequences at a head that is away -/

/-- A head that is RETURNING or in FAULT loses at most its grant to what follows, and no record, bin or period is touched. -/
structure AwayKept (s t : State) : Prop where
  head : ∃ g, t.head = { s.head with grant := g }
  fault : s.head.state = .fault → t.head = s.head
  ring : t.ring = s.ring
  bins : t.bins = s.bins
  points : t.points = s.points

section

variable {s t u : State}

theorem AwayKept.of_eq (hh : t.head = s.head) (hr : t.ring = s.ring) (hb : t.bins = s.bins) (hp : t.points = s.points) :
    AwayKept s t := ⟨⟨s.head.grant, hh⟩, fun _ => hh, hr, hb, hp⟩

theorem AwayKept.state (h : AwayKept s t) : t.head.state = s.head.state := by
  obtain ⟨g, e⟩ := h.head
  rw [e]

theorem AwayKept.away (h : AwayKept s t) (ha : Away s) : Away t := by
  rw [Away, h.state]; exact ha

theorem AwayKept.trans (h : AwayKept s t) (h' : AwayKept t u) : AwayKept s u where
  head := by
    obtain ⟨g, e⟩ := h.head
    obtain ⟨g', e'⟩ := h'.head
    exact ⟨g', by rw [e', e]⟩
  fault hf := (h'.fault (h.state.trans hf)).trans (h.fault hf)
  ring := h'.ring.trans h.ring
  bins := h'.bins.trans h.bins
  points := h'.points.trans h.points

end

section

variable {s : State}

theorem claimTakesEffectWith_away (act : State → State) (h : Away s) : AwayKept s (s.claimTakesEffectWith act) := by
  obtain h | h := h
  · have e : s.claimTakesEffectWith act = s.grantTo s.highGrant := by simp [State.claimTakesEffectWith, h]
    rw [e]
    exact ⟨⟨_, rfl⟩, fun hf => by simp [h] at hf, rfl, rfl, rfl⟩
  · have e : s.claimTakesEffectWith act = s := by simp [State.claimTakesEffectWith, h]
    rw [e]
    exact .of_eq rfl rfl rfl rfl

theorem recoveringEntry_away (h : Away s) : AwayKept s s.recoveringEntry := by
  rw [recoveringEntry_of_ne h.ne_parked, recoverRest_eq]
  exact .of_eq rfl rfl rfl rfl

theorem threadingExpiry_away (h : Away s) : AwayKept s s.threadingExpiry := by
  simp only [State.threadingExpiry]; split
  · exact AwayKept.trans (t := s.setBrk { s.brk with threadingTimer := .stopped }) (.of_eq rfl rfl rfl rfl) (recoveringEntry_away h)
  · exact .of_eq rfl rfl rfl rfl

theorem threadingEntry_away (h : Away s) : AwayKept s s.threadingEntry := by
  simp only [threadingEntry_eq]; split
  · exact AwayKept.trans (t := (s.setBrk (s.brk.threading s.recipe.brk.threadingHold)).breakNotice) (.of_eq rfl rfl rfl rfl)
      (threadingExpiry_away h)
  · exact .of_eq rfl rfl rfl rfl

theorem judgeThreading_away (h : Away s) : AwayKept s s.judgeThreading := by
  simp only [State.judgeThreading]; split
  · exact threadingEntry_away h
  · exact .of_eq rfl rfl rfl rfl

end

theorem endPending_bins (s : State) (st : Station) (b : ReplyBody) : (s.endPending st b).bins = s.bins := by
  simp only [State.endPending]; split <;> rfl

theorem endPendingByBreak_bins (s : State) : s.endPendingByBreak.bins = s.bins := by
  simp only [State.endPendingByBreak, endPending_bins]

section

variable {s : State}

/-- The entry to BREAK after its claim has taken effect, up to the condition of R130. -/
theorem breakTail_away (h : Away s) : AwayKept s ((s.clearContinuity.endPendingByBreak).breakNotice).judgeThreading := by
  have ht : AwayKept s ((s.clearContinuity.endPendingByBreak).breakNotice) :=
    .of_eq (by simp) (by simp) (by simp [State.breakNotice, State.offer, State.onPorts, endPendingByBreak_bins, State.clearContinuity])
      (by simp)
  exact ht.trans (judgeThreading_away (ht.away h))

theorem breakEntryWith_away (act : State → State) (absent : Bool) (h : Away s) : AwayKept s (s.breakEntryWith act absent) := by
  have hb : AwayKept s (s.setBrk (s.brk.broken absent)) := .of_eq rfl rfl rfl rfl
  have hc := hb.trans (claimTakesEffectWith_away act (hb.away h))
  rw [breakEntryWith_eq]
  exact hc.trans (breakTail_away (hc.away h))

theorem addCauses_away (trips : PerDetector Bool) : AwayKept s (s.addCauses trips) := .of_eq rfl rfl rfl rfl

theorem judgeInEntry_away (trips clears : PerDetector Bool) : AwayKept s (s.judgeInEntry trips clears) := by
  simp only [State.judgeInEntry]; split
  · exact addCauses_away _
  · exact .of_eq rfl rfl rfl rfl

theorem judgeActivationWith_away (trips clears : PerDetector Bool) (h : Away s) :
    AwayKept s (s.judgeActivationWith (State.breakEntryWith id false) trips clears) := by
  obtain ⟨-, -, e⟩ | ⟨-, -, e⟩ | ⟨-, e⟩ := judgeActivationWith_cases (State.breakEntryWith id false) trips clears s <;> rw [e]
  · exact recoveringEntry_away h
  · exact breakEntryWith_away id false h
  · obtain e | ⟨-, -, e⟩ | ⟨-, -, e⟩ | ⟨-, e⟩ := judgeDetectorsWith_cases (State.breakEntryWith id false) trips clears s <;> rw [e]
    · exact .of_eq rfl rfl rfl rfl
    · exact breakEntryWith_away id false h
    · exact addCauses_away _
    · exact judgeThreading_away h

theorem profileActivation_bins (s : State) (l : Layout) : (s.profileActivation l).bins = s.bins := by
  simp only [State.profileActivation]; split
  · rfl
  · rw [profileRestart_eq]; rfl

theorem clearLimits_bins (s : State) : s.clearLimits.bins = s.bins := by
  obtain e | ⟨i, -, e⟩ := clearLimits_eq s <;> rw [e] <;> rfl

theorem handed_away (k : SlotNo) : AwayKept s (s.handed k) :=
  .of_eq (by simp) (by simp [State.handed, State.activated])
    (by simp only [State.handed, State.activated, State.setBrk_bins, clearLimits_bins, profileActivation_bins, State.setStore_bins])
    (by simp [State.handed, State.activated])

/-- An activation at a head that is away ends with its RECIPE notice. -/
theorem activateWith_of_away {judge : PerDetector Bool → PerDetector Bool → State → State} (k : SlotNo)
    (hj : ∀ a b v, Away v → AwayKept v (judge a b v)) (h : Away s) :
    s.activateWith judge k = (judge (newTrips s.brk.det (s.handed k).brk.det) (newClears s.brk.det (s.handed k).brk.det)
      (s.handed k)).recipeNotice .activated := by
  have hk := (handed_away (s := s) k).away h
  have ha := (hj (newTrips s.brk.det (s.handed k).brk.det) (newClears s.brk.det (s.handed k).brk.det) _ hk).away hk
  rw [activateWith_handed, redecideIfParked_of_ne (by simpa using ha.ne_parked), reaim_of_ne]
  rw [recipeNotice_head]
  obtain ha | ha := ha <;> rw [ha] <;> simp

theorem activateWith_away {judge : PerDetector Bool → PerDetector Bool → State → State} (k : SlotNo)
    (hj : ∀ a b v, Away v → AwayKept v (judge a b v)) (h : Away s) : AwayKept s (s.activateWith judge k) := by
  rw [activateWith_of_away k hj h]
  have hk := handed_away (s := s) k
  exact (hk.trans (hj _ _ _ (hk.away h))).trans (.of_eq rfl rfl rfl rfl)

theorem activate_away (k : SlotNo) (h : Away s) : AwayKept s (s.activate k) :=
  activateWith_away k (fun a b _ hv => judgeActivationWith_away a b hv) h

end

/-! ## What an activation leaves, its consequences past -/

section

variable {s : State}

theorem judgeInEntry_limits' (trips clears : PerDetector Bool) : (s.judgeInEntry trips clears).limits = s.limits := by
  simp only [State.judgeInEntry]; split <;> rfl

/-- The recipe store, the limits and the filter layout after an activation, however its trips are judged. -/
theorem activated_activateWith {judge : PerDetector Bool → PerDetector Bool → State → State} (k : SlotNo)
    (hj : ∀ a b v, After v (judge a b v)) (hs : ∀ a b v, (judge a b v).store = v.store)
    (hl : ∀ a b v, (judge a b v).limits = v.limits) : Activated s (s.activateWith judge k) k := by
  refine activated_of_handed (v := s) rfl ?_ ?_ ?_
  · simp [handed_store, activateWith_handed, hs]
  · simp [handed_limits, activateWith_handed, hl]
  · rw [activateWith_handed, ((redecideIfParked_after _).trans (reaim_after _)).layout]
    exact (hj _ _ (s.handed k)).layout

theorem activated_activate (k : SlotNo) : Activated s (s.activate k) k :=
  activated_activateWith k (fun a b v => judgeActivationWith_after v (fun v => breakEntryWith_id_after v false) a b)
    (fun a b v => by simp) (fun a b v => by simp)

theorem activate_continuity (k : SlotNo) : (s.activate k).profile.continuity = false := by
  have hj := judgeActivationWith_after (s.handed k) (fun v => breakEntryWith_id_after v false)
    (newTrips s.brk.det (s.handed k).brk.det) (newClears s.brk.det (s.handed k).brk.det)
  rw [State.activate, activateWith_handed]
  exact ((redecideIfParked_after _).trans (reaim_after _)).continuity (hj.continuity (handed_continuity s k))

end

/-! ## The abort of a scan (R34) -/

section

variable {s : State}

theorem deferredAtAbort_bins (s : State) : s.deferredAtAbort.bins = s.bins := by
  simp only [State.deferredAtAbort]; split
  · rw [profileRestart_eq]; rfl
  · rfl

theorem voided_bins (s : State) : s.voided.bins = [] := by
  simp [State.voided, State.endStretch, State.clearContinuity]

theorem voided_continuity (s : State) : s.voided.profile.continuity = false := by
  simp [State.voided, State.clearContinuity]

end

/-! ## The faults -/

section

variable {s : State} {cause : FaultCause}

/-- The standardization unit after an abort (R20). -/
theorem stdAbort_std (s : State) : s.stdAbort.std.phase = .idle
    ∧ s.stdAbort.std.outcome = (if s.std.phase = .idle then s.std.outcome else .abort)
    ∧ s.stdAbort.std.stdDue = s.std.stdDue ∧ s.stdAbort.std.failCount = s.std.failCount
    ∧ s.stdAbort.std.scanCounter = s.std.scanCounter := by
  cases h : s.std.phase <;> simp [State.stdAbort, h, StdUnit.finish]

theorem stdAbort_bins (s : State) : s.stdAbort.bins = s.bins := by
  cases h : s.std.phase <;> simp [State.stdAbort, h, State.dropPendingSet, State.abortRefOut, State.raise, State.stdNotice, State.offer,
    State.onPorts]

/-- The end of a fault entry, after the abort of the scan. -/
def State.faultTail (s : State) : State := (s.dropPeriod.stdAbort).headNotice

theorem faultEntryWith_tail (act : State → State) (cause : FaultCause) (s : State) :
    s.faultEntryWith act cause = ((s.faulted cause).scanAbortWith act).faultTail := rfl

theorem faultTail_head (s : State) : s.faultTail.head = s.head := by simp [State.faultTail]
theorem faultTail_ring (s : State) : s.faultTail.ring = s.ring := by simp [State.faultTail]
theorem faultTail_bins (s : State) : s.faultTail.bins = s.bins := stdAbort_bins s.dropPeriod

theorem faultTail_points (s : State) : s.faultTail.points = { s.points with period := none } := by
  simp [State.faultTail]; rfl

theorem faultTail_profile (s : State) : s.faultTail.profile = s.profile := by simp [State.faultTail]

/-- With no slot PENDING nothing activates. -/
theorem activatePending_of_none {s : State} (h : s.store.pendingSlot = none) : s.activatePending = s := by
  simp [State.activatePending, h]

theorem activatePending_of_some {s : State} {k : SlotNo} (h : s.store.pendingSlot = some k) : s.activatePending = s.activate k := by
  simp [State.activatePending, h]

/-- An activation of a state with the same store is one of the state itself. -/
theorem activated_of_same {s w x u : State} {k : SlotNo} (h : Activated w x k) (hw : w.store = s.store) (hs : u.store = x.store)
    (hl : u.limits = x.limits) (hp : u.profile.layout = x.profile.layout) : Activated s u k := by
  unfold Activated at h ⊢
  rwa [hs, hl, hp, ← hw]

@[simp] theorem faulted_ring (s : State) (cause : FaultCause) : (s.faulted cause).ring = s.ring := by simp [State.faulted]
@[simp] theorem faulted_store (s : State) (cause : FaultCause) : (s.faulted cause).store = s.store := by simp [State.faulted]
@[simp] theorem faulted_points (s : State) (cause : FaultCause) : (s.faulted cause).points = s.points := by simp [State.faulted]
@[simp] theorem faulted_std (s : State) (cause : FaultCause) : (s.faulted cause).std = s.std := by simp [State.faulted]

/-- A fault with no slot PENDING (R34, R38). -/
theorem entersFault {s : State} (cause : FaultCause) (hp : s.store.pendingSlot = none) :
    EntersFault s (s.faultEntry cause).settle cause := by
  have hv : ∃ v : State, s.faultEntry cause = v.faultTail ∧ v.head = faultedHead s cause ∧ v.points = s.points ∧ v.std = s.std
      ∧ v.ring.newest = s.ring.newest ∧ (s.head.scan.isSome = true →
        v.ring = s.ring.onFilling (fun r => { r with status := .void }) ∧ v.profile.continuity = false ∧ v.bins = []) := by
    refine ⟨_, faultEntryWith_tail _ _ _, ?_⟩
    cases hs : s.head.scan with
    | none =>
      rw [scanAbortWith_of_none _ (by simp [hs])]
      refine ⟨?_, by simp, by simp, by simp, fun h => by simp at h⟩
      rw [faulted_head, faultedHead, ← hs]
    | some x =>
      rw [scanAbortWith_of_some _ (x := x) (by simp [hs]), activatePending_of_none (by simp [hp])]
      refine ⟨by simp [faultedHead], by simp, by simp, by simp, fun _ => ⟨by simp, ?_, ?_⟩⟩
      · exact (deferredAtAbort_after _).continuity (voided_continuity _)
      · rw [deferredAtAbort_bins, voided_bins]
  obtain ⟨v, e, hhead, hpoints, hstd, hnewest, hscan⟩ := hv
  obtain ⟨hphase, hout, hdue, hfail, hcount⟩ := stdAbort_std v.dropPeriod
  have htail : v.faultTail.std = v.dropPeriod.stdAbort.std := by simp [State.faultTail]
  have hsame : v.dropPeriod.std = s.std := by rw [dropPeriod_std, hstd]
  rw [e]
  refine ⟨?_, ?_, ?_, ?_, ?_, ?_, ?_, ?_, fun h => ?_⟩
  · rw [settle_head, faultTail_head, hhead]
  · rw [settle_points, faultTail_points, hpoints]
  · rw [settle_std, htail, hphase]
  · rw [settle_std, htail, hout, hsame]
  · rw [settle_std, htail, hdue, hsame]
  · rw [settle_std, htail, hfail, hsame]
  · rw [settle_std, htail, hcount, hsame]
  · rw [settle_ring, faultTail_ring, hnewest]
  · obtain ⟨hr, hc, hb⟩ := hscan h
    rw [settle_ring, faultTail_ring, settle_profile, faultTail_profile]
    exact ⟨hr, hc, (faultTail_bins v).trans hb⟩

/-- A fault that ends a scan with a slot PENDING (R34, R168). -/
theorem faultActivates {s : State} (cause : FaultCause) {k : SlotNo} (hs : s.head.scan.isSome = true)
    (hp : s.store.pendingSlot = some k) : FaultActivates s (s.faultEntry cause).settle cause k := by
  have hw : ∃ w : State, s.faultEntry cause = (w.activate k).faultTail ∧ w.head = faultedHead s cause ∧ w.store = s.store
      ∧ w.bins = [] ∧ w.ring = s.ring.onFilling (fun r => { r with status := .void }) := by
    obtain ⟨x, hx⟩ := Option.isSome_iff_exists.mp hs
    refine ⟨(s.faulted cause).voided.deferredAtAbort, ?_, by simp [faultedHead], by simp, ?_, by simp⟩
    · rw [State.faultEntry, faultEntryWith_tail, scanAbortWith_of_some _ (x := x) (by simp [hx]),
        activatePending_of_some (k := k) (by simp [hp])]
    · rw [deferredAtAbort_bins, voided_bins]
  obtain ⟨w, e, hhead, hstore, hbins, hring⟩ := hw
  have hfault : w.head.state = .fault := by rw [hhead]; rfl
  have hkept := activate_away k (Or.inr hfault)
  rw [e]
  refine ⟨?_, activated_of_same (activated_activate k) hstore ?_ ?_ ?_, ?_, ?_⟩
  · rw [settle_head, faultTail_head, hkept.fault hfault, hhead]
  · simp [State.faultTail]
  · simp [State.faultTail]
  · rw [settle_profile, faultTail_profile]
  · exact (faultTail_bins _).trans (hkept.bins.trans hbins)
  · rw [settle_ring, faultTail_ring, hkept.ring, hring]

theorem faultUnlessFaulted_of_fault {s : State} (cause : FaultCause) (h : s.head.state = .fault) : s.faultUnlessFaulted cause = s := by
  simp [State.faultUnlessFaulted, h]

theorem faultUnlessFaulted_of_ne {s : State} (cause : FaultCause) (h : s.head.state ≠ .fault) :
    s.faultUnlessFaulted cause = s.faultEntry cause := by
  simp only [State.faultUnlessFaulted]; split <;> simp_all

end

end Sys2Proof.Machine

namespace Sys2Proof.Safety

open Sys2Proof Sys2Proof.Machine

/-- What a fault entry says of a state, it says of the state before a change of the pins. -/
theorem entersFault_of_pins {s u : State} {p : Pins} {cause : FaultCause} (h : EntersFault (s.setPins p) u cause) :
    EntersFault s u cause := h

theorem faultActivates_of_pins {s u : State} {p : Pins} {cause : FaultCause} {k : SlotNo}
    (h : FaultActivates (s.setPins p) u cause k) : FaultActivates s u cause k := h

/-- Settles O16: each event faults the head in every other state, and in FAULT only the pins change. -/
theorem faultEventsEnterFault : Obligations.FaultEventsEnterFault := by
  intro s
  let low := s.setPins { s.pins with drvRdy := false }
  let ot (sw : OtSwitch) (b : Bool) := s.setPins (s.pins.setOt sw b)
  have hlow : s.head.drvEn = true → exec .drvRdyLow s = .next (low.faultUnlessFaulted .drive).settle := fun h => by
    simp only [exec, execDrvRdyLow]
    rw [if_pos (by exact h)]; rfl
  have hquiet : s.head.drvEn = false → exec .drvRdyLow s = .next low.settle := fun h => by
    simp only [exec, execDrvRdyLow]
    rw [if_neg (by rw [Bool.not_eq_true]; exact h)]; rfl
  have hloss : s.head.encTimer.isRunning = true →
      exec .encoderLossTimerExpiry s = .next (s.faultUnlessFaulted .encoder).settle := fun h => by
    simp only [exec, execEncoderLossTimerExpiry, if_pos h]; rfl
  have hot : ∀ sw, exec (.overtravel sw true) s = .next ((ot sw true).faultUnlessFaulted .overtravel).settle := fun _ => rfl
  refine ⟨fun hne hp => ⟨fun h => ⟨_, hlow h, ?_, ?_⟩, fun h => ⟨_, hloss h, ?_⟩, fun sw => ⟨_, hot sw, ?_⟩, fun h => ⟨_, ?_, entersFault .homing hp⟩⟩,
    fun k hne hs hp => ⟨fun h => ⟨_, hlow h, ?_⟩, fun h => ⟨_, hloss h, ?_⟩, fun sw => ⟨_, hot sw, ?_⟩⟩,
    fun hf => ⟨?_, ?_, ?_, ?_, ?_⟩, hquiet, rfl, rfl⟩
  · rw [faultUnlessFaulted_of_ne _ (by exact hne)]
    exact entersFault_of_pins (entersFault (s := low) .drive hp)
  · simp [low]
  · rw [faultUnlessFaulted_of_ne _ hne]
    exact entersFault .encoder hp
  · rw [faultUnlessFaulted_of_ne _ (by exact hne)]
    exact entersFault_of_pins (entersFault (s := ot sw true) .overtravel hp)
  · simp only [exec, execHomingTimerExpiry, if_pos h]; rfl
  · rw [faultUnlessFaulted_of_ne _ (by exact hne)]
    exact faultActivates_of_pins (faultActivates (s := low) .drive hs hp)
  · rw [faultUnlessFaulted_of_ne _ hne]
    exact faultActivates .encoder hs hp
  · rw [faultUnlessFaulted_of_ne _ (by exact hne)]
    exact faultActivates_of_pins (faultActivates (s := ot sw true) .overtravel hs hp)
  · cases h : s.head.drvEn with
    | false => exact hquiet h
    | true => rw [hlow h, faultUnlessFaulted_of_fault _ (by exact hf)]; rfl
  · simp only [exec, execEncoderLossTimerExpiry, faultUnlessFaulted_of_fault _ hf, ite_self]; rfl
  · simp only [exec, execHomingTimerExpiry, hf]; rfl
  · rw [hot, faultUnlessFaulted_of_fault _ (by exact hf)]; rfl
  · rw [hot, faultUnlessFaulted_of_fault _ (by exact hf)]; rfl

end Sys2Proof.Safety
end


section
/-! SUPPORT. A claim of rank 1 or 2 that takes effect at once (R43, R128). -/

namespace Sys2Proof.Machine

open Sys2Proof Sys2Proof.Safety

/-! ## The claims of the ranks 1 and 2 -/

section

variable {s : State}

theorem highGrant_of_hold (h : s.holdPresent = true) : s.highGrant = .hold := by simp [State.highGrant, h]

theorem highGrant_of_park (hn : NoHold s) {low : Station} (h : LowestWith s.head.slots (fun m => m = .park) low) :
    s.highGrant = .park low := by
  have hp : s.parkStation = some low := Four.first_eq_some (by simpa using h)
  simp [State.highGrant, not_holdPresent hn, hp]

/-- A claim of rank 1 or 2 wins (R41). -/
theorem winner_of_high (h : s.highGrant ≠ .none) : s.winner = s.highGrant := by
  simp only [State.highGrant] at h ⊢
  simp only [State.winner]
  by_cases hh : s.holdPresent = true
  · rw [if_pos hh, if_pos hh]
  · rw [if_neg hh] at h ⊢
    rw [if_neg hh]
    cases hp : s.parkStation with
    | none => simp [hp] at h
    | some st => rfl

/-- It depends on the break state and the mode slots alone. -/
theorem highGrant_congr {t : State} (hb : t.brk.state = s.brk.state) (hs : t.head.slots = s.head.slots) :
    t.highGrant = s.highGrant := by
  have hhold : t.holdPresent = s.holdPresent := by simp only [State.holdPresent, hb]
  have hpark : t.parkStation = s.parkStation := by simp only [State.parkStation, hs]
  unfold State.highGrant
  rw [hhold, hpark]

theorem highGrant_ne (g : s.highGrant ≠ .none) : s.highGrant ≠ .standardize ∧ s.highGrant ≠ .scan
    ∧ ∀ st p, s.highGrant ≠ .point st p := by
  simp only [State.highGrant] at g ⊢
  split
  · simp
  · split <;> simp_all

theorem decideParked_of_high (h : s.highGrant ≠ .none) : s.decideParked = s.stayParked s.highGrant := by
  obtain ⟨hstd, hscan, hpoint⟩ := highGrant_ne h
  rw [decideParked_eq, winner_of_high h, if_neg hstd]
  cases hg : s.highGrant with
  | hold => rfl
  | park st => rfl
  | standardize => exact absurd hg hstd
  | point st p => exact absurd hg (hpoint st p)
  | scan => exact absurd hg hscan
  | none => exact absurd hg h

/-- A PARKED head takes the grant, any other stays. -/
theorem redecideIfParked_of_high (h : s.highGrant ≠ .none) :
    s.redecideIfParked = if s.head.state = .parked then s.grantTo s.highGrant else s := by
  split
  · next hp =>
    rw [redecideIfParked_of_parked hp, decideParked_of_high h]
    simp only [State.stayParked, hp]
  · next hp => exact redecideIfParked_of_ne hp

end

/-! ## The way home -/

/-- A head without a scan in progress goes home under a grant, or is home at once (R35). -/
structure Homeward (s u : State) (g : Grant) : Prop where
  away : s.head.position ≠ 0 → u.head = { s.head with
    state := .returning, grant := g, drvEn := true, drvDir := false, drvSpd := s.traverseStep, encTimer := .running 100000 }
  home : s.head.position = 0 → u.head = { s.head with
    state := .parked, grant := g, drvEn := false, drvDir := false, drvSpd := 0, encTimer := .stopped }
  ring : u.ring = s.ring
  bins : u.bins = s.bins
  points : u.points = s.points
  absent : s.head.state.measuring = false → u.absent = s.absent
  cleared : s.head.state.measuring = true → u.absent = ⟨false, 0, 0, false⟩
  decision : Decision s u

theorem toHead_absent_of_still {s : State} (h : HeadState) (hm : s.head.state.measuring = false) :
    (s.toHead h).absent = s.absent := by
  have hl : leavesMeasuring s.head.state h = false := by
    cases hs : s.head.state <;> simp [hs, HeadState.measuring] at hm <;> simp [leavesMeasuring]
  simp only [State.toHead, hl]; rfl

theorem toHead_absent_of_measuring {s : State} {h : HeadState} (hs : s.head.state.measuring = true)
    (hm : h.measuring = false) : (s.toHead h).absent = ⟨false, 0, 0, false⟩ := by
  have hl : leavesMeasuring s.head.state h = true := by
    cases he : s.head.state <;> simp [he, HeadState.measuring] at hs <;> cases h <;> simp [HeadState.measuring] at hm <;>
      simp [leavesMeasuring]
  simp only [State.toHead, hl]; rfl

theorem toHead_bins (s : State) (h : HeadState) : (s.toHead h).bins = s.bins := by
  obtain e | e := toHead_cases s h <;> rw [e] <;> rfl

theorem returning_bins (s : State) (g : Grant) : (s.returning g).bins = s.bins := toHead_bins s .returning

theorem returning_absent {s : State} (g : Grant) (hm : s.head.state.measuring = false) : (s.returning g).absent = s.absent :=
  toHead_absent_of_still .returning hm

theorem returning_decision (s : State) (g : Grant) : Decision s (s.returning g) := by
  have h : Decision s (((s.toHead .returning).grantTo g).drive false s.traverseStep) := .of_eq (by simp) (by simp) (by simp)
  exact h.trans (headNotice_decision _)

theorem returning_absent_of_measuring {s : State} (g : Grant) (hm : s.head.state.measuring = true) :
    (s.returning g).absent = ⟨false, 0, 0, false⟩ := toHead_absent_of_measuring hm rfl

theorem stayParked_bins (s : State) (g : Grant) : (s.stayParked g).bins = s.bins := by
  simp only [State.stayParked]; split
  · rfl
  all_goals exact toHead_bins s .parked

theorem stayParked_absent {s : State} (g : Grant) (hm : s.head.state.measuring = false) : (s.stayParked g).absent = s.absent := by
  simp only [State.stayParked]; split
  · rfl
  all_goals exact toHead_absent_of_still .parked hm

/-- A head that stands still with the drive low cannot go home (R26). -/
theorem beginReturning_of_missing {s : State} (g : Grant) (h : s.driveMissing = true) :
    s.beginReturning g = s.faultStill .drive := by rw [beginReturning_eq, if_pos h]

theorem beginReturning_of_away {s : State} (g : Grant) (hd : s.driveMissing = false) (hp : s.head.position ≠ 0) :
    s.beginReturning g = s.returning g := by
  rw [beginReturning_eq, if_neg (by simp [hd]), if_neg (by simpa using hp)]

theorem beginReturning_homeward {s : State} (hg : s.highGrant ≠ .none) (hd : s.driveMissing = false) :
    Homeward s (s.beginReturning s.highGrant) s.highGrant := by
  by_cases hp : s.head.position = 0
  · let r := s.returning s.highGrant
    let v := (r.driveOff.toHead .parked).headNotice
    have hgrant : v.highGrant = s.highGrant := highGrant_congr (by simp [v, r, State.returning]) (by simp [v, r, State.driveOff])
    have e : s.beginReturning s.highGrant = v.stayParked s.highGrant := by
      rw [beginReturning_eq, if_neg (by simp [hd]), if_pos (by simpa using hp), State.arriveParked,
        decideParked_of_high (by rw [hgrant]; exact hg), hgrant]
    rw [e]
    have habsent : (v.stayParked s.highGrant).absent = r.absent :=
      (stayParked_absent _ (by simp [v, HeadState.measuring])).trans
        (toHead_absent_of_still (s := r.driveOff) .parked (by simp [r, State.driveOff, HeadState.measuring]))
    refine ⟨fun h => absurd hp h, fun _ => ?_, ?_, ?_, ?_, fun hm => ?_, fun hm => ?_, ?_⟩
    · rw [stayParked_head]
      simp [v, r, State.driveOff]
    · simp [v, r, State.returning]
    · rw [stayParked_bins]
      exact (toHead_bins _ _).trans (returning_bins s s.highGrant)
    · simp [v, r, State.returning]
    · exact habsent.trans (returning_absent s.highGrant hm)
    · exact habsent.trans (returning_absent_of_measuring s.highGrant hm)
    · have hv : Decision s v := by
        have hoff : Decision r (r.driveOff.toHead .parked) := .of_eq (by simp) (by simp) (by simp)
        exact ((returning_decision s s.highGrant).trans hoff).trans (headNotice_decision _)
      exact hv.trans (stayParked_decision _ _)
  · rw [beginReturning_of_away _ hd hp]
    refine ⟨fun _ => ?_, fun h => absurd h hp, ?_, returning_bins s _, ?_, returning_absent _,
      returning_absent_of_measuring _, returning_decision s _⟩
    · rw [returning_head]; rfl
    · simp [State.returning]
    · simp [State.returning]

/-! ## The claim takes effect -/

/-- What a claim of rank 1 or 2 does at once with a head that has no scan in progress (R43). -/
structure ClaimHome (s u : State) (g : Grant) : Prop where
  scan : u.head.scan = none
  slots : u.head.slots = s.head.slots
  ring : u.ring = s.ring
  bins : u.bins = s.bins
  moving : (∃ leg, s.head.state = .scanning leg) ∨ s.head.state = .positioning
      ∨ s.head.state = .singlePoint ∧ s.pins.drvRdy = true →
    u.head.grant = g ∧ (s.head.position ≠ 0 → u.head.state = .returning ∧ u.head.drvEn = true ∧ u.head.drvDir = false)
      ∧ (s.head.position = 0 → u.head.state = .parked ∧ u.head.drvEn = false)
  point : s.head.state = .singlePoint → u.points = { s.points with period := none }
  low : s.head.state = .singlePoint → s.pins.drvRdy = false →
    u.head.state = .fault ∧ u.head.cause = .drive ∧ u.head.grant = .none
  measuring : s.head.state.measuring = true → u.absent = ⟨false, 0, 0, false⟩
  procedure : s.head.state = .standardizing → u.head.state = .parked ∧ u.head.grant = g ∧ u.std = s.stdAbort.std
    ∧ u.conv = s.stdAbort.conv
  still : s.head.state = .returning ∨ s.head.state = .parked → u.head = { s.head with grant := g }
  out : s.head.state = .homing ∨ s.head.state = .fault → u.head = s.head
  decision : Decision s u

theorem Homeward.goes {s u : State} {g : Grant} (h : Homeward s u g) :
    u.head.grant = g ∧ (s.head.position ≠ 0 → u.head.state = .returning ∧ u.head.drvEn = true ∧ u.head.drvDir = false)
      ∧ (s.head.position = 0 → u.head.state = .parked ∧ u.head.drvEn = false) := by
  refine ⟨?_, fun hp => ?_, fun hp => ?_⟩
  · by_cases hp : s.head.position = 0
    · rw [h.home hp]
    · rw [h.away hp]
  · rw [h.away hp]; exact ⟨rfl, rfl, rfl⟩
  · rw [h.home hp]; exact ⟨rfl, rfl⟩

theorem Homeward.kept {s u : State} {g : Grant} (h : Homeward s u g) :
    u.head.scan = s.head.scan ∧ u.head.slots = s.head.slots := by
  by_cases hp : s.head.position = 0
  · rw [h.home hp]; exact ⟨rfl, rfl⟩
  · rw [h.away hp]; exact ⟨rfl, rfl⟩

theorem driveMissing_of_moving {s : State} (h : s.head.state.still = false) : s.driveMissing = false := by
  simp [State.driveMissing, h]

theorem stdAbort_absent (s : State) : s.stdAbort.absent = s.absent := by
  cases h : s.std.phase <;> simp [State.stdAbort, h, State.dropPendingSet, State.abortRefOut, State.raise, State.stdNotice,
    State.offer, State.onPorts]

theorem faultStill_bins {s : State} (cause : FaultCause) (h : s.head.scan = none) : (s.faultStill cause).bins = s.bins := by
  rw [State.faultStill, faultEntryWith_tail, scanAbortWith_of_none _ (by simp [h]), faultTail_bins]
  exact toHead_bins _ _

theorem faultStill_absent {s : State} (cause : FaultCause) (h : s.head.scan = none) (hm : s.head.state.measuring = true) :
    (s.faultStill cause).absent = ⟨false, 0, 0, false⟩ := by
  rw [State.faultStill, faultEntryWith_tail, scanAbortWith_of_none _ (by simp [h])]
  exact (stdAbort_absent _).trans (toHead_absent_of_measuring (s := s.driveOff) hm rfl)

theorem faultStill_points {s : State} (cause : FaultCause) (h : s.head.scan = none) :
    (s.faultStill cause).points = { s.points with period := none } := by
  rw [State.faultStill, faultEntryWith_tail, scanAbortWith_of_none _ (by simp [h]), faultTail_points, faulted_points]

theorem claimTakesEffectWith_unscanned {s : State} (act : State → State) (hscan : s.head.scan = none)
    (hg : s.highGrant ≠ .none) : ClaimHome s (s.claimTakesEffectWith act) s.highGrant := by
  cases hs : s.head.state with
  | scanning leg =>
    have e : s.claimTakesEffectWith act = (s.toHead .returning).beginReturning s.highGrant := by
      have hgrant : (s.toHead .returning).highGrant = s.highGrant := highGrant_congr (by simp) (by simp)
      simp only [State.claimTakesEffectWith, hs]
      rw [scanAbortWith_of_none _ (by simp [hscan]), hgrant]
    have hgrant : (s.toHead .returning).highGrant = s.highGrant := highGrant_congr (by simp) (by simp)
    have hh := beginReturning_homeward (s := s.toHead .returning) (by rw [hgrant]; exact hg)
      (driveMissing_of_moving (by simp [HeadState.still]))
    rw [hgrant] at hh
    obtain ⟨hsc, hsl⟩ := hh.kept
    rw [e]
    exact
      { scan := by rw [hsc]; simp [hscan]
        slots := by rw [hsl]; simp
        ring := by rw [hh.ring, toHead_ring]
        bins := by rw [hh.bins, toHead_bins]
        moving := fun _ => by simpa using hh.goes
        point := fun h => by simp [hs] at h
        low := fun h => by simp [hs] at h
        measuring := fun h => by
          rw [hh.absent (by simp [HeadState.measuring]), toHead_absent_of_measuring h rfl]
        procedure := fun h => by simp [hs] at h
        still := fun h => by simp [hs] at h
        out := fun h => by simp [hs] at h
        decision := (toHead_decision s _).trans hh.decision }
  | positioning =>
    have e : s.claimTakesEffectWith act = s.beginReturning s.highGrant := by simp only [State.claimTakesEffectWith, hs]
    have hh := beginReturning_homeward hg (driveMissing_of_moving (by simp [hs, HeadState.still]))
    obtain ⟨hsc, hsl⟩ := hh.kept
    rw [e]
    exact
      { scan := by rw [hsc, hscan]
        slots := hsl
        ring := hh.ring
        bins := hh.bins
        moving := fun _ => hh.goes
        point := fun h => by simp [hs] at h
        low := fun h => by simp [hs] at h
        measuring := fun h => by simp [hs, HeadState.measuring] at h
        procedure := fun h => by simp [hs] at h
        still := fun h => by simp [hs] at h
        out := fun h => by simp [hs] at h
        decision := hh.decision }
  | singlePoint =>
    have e : s.claimTakesEffectWith act = s.dropPeriod.beginReturning s.highGrant := by
      simp only [State.claimTakesEffectWith, hs]
    have hdrop : Decision s s.dropPeriod := .of_eq rfl rfl rfl
    rw [e]
    cases hd : s.pins.drvRdy with
    | true =>
      have hh := beginReturning_homeward (s := s.dropPeriod) hg (by simp [State.driveMissing, hd])
      obtain ⟨hsc, hsl⟩ := hh.kept
      exact
        { scan := hsc.trans hscan
          slots := hsl
          ring := hh.ring
          bins := hh.bins
          moving := fun _ => hh.goes
          point := fun _ => hh.points
          low := fun _ h => by simp [hd] at h
          measuring := hh.cleared
          procedure := fun h => by simp [hs] at h
          still := fun h => by simp [hs] at h
          out := fun h => by simp [hs] at h
          decision := hdrop.trans hh.decision }
    | false =>
      rw [beginReturning_of_missing _ (by simp [State.driveMissing, hd, hs, HeadState.still])]
      exact
        { scan := by simp
          slots := by simp
          ring := by rw [faultStill_ring _ (by exact hscan)]; rfl
          bins := faultStill_bins _ hscan
          moving := fun h => by simp [hs, hd] at h
          point := fun _ => faultStill_points _ hscan
          low := fun _ _ => by simp
          measuring := fun h => faultStill_absent _ hscan h
          procedure := fun h => by simp [hs] at h
          still := fun h => by simp [hs] at h
          out := fun h => by simp [hs] at h
          decision := hdrop.trans (faultStill_decision _ hscan) }
  | standardizing =>
    have e : s.claimTakesEffectWith act = s.stdAbort.enterHead .parked s.highGrant := by
      simp only [State.claimTakesEffectWith, hs]
    rw [e]
    exact
      { scan := by simp [State.enterHead, State.grantTo, hscan]
        slots := by simp [State.enterHead, State.grantTo]
        ring := by simp
        bins := (toHead_bins _ _).trans (stdAbort_bins s)
        moving := fun h => by simp [hs] at h
        point := fun h => by simp [hs] at h
        low := fun h => by simp [hs] at h
        measuring := fun h => by simp [hs, HeadState.measuring] at h
        procedure := fun _ => ⟨by simp [State.enterHead, State.grantTo], by simp [State.enterHead, State.grantTo], by simp, by simp⟩
        still := fun h => by simp [hs] at h
        out := fun h => by simp [hs] at h
        decision := (stdAbort_decision s).trans (enterHead_decision _ _ _) }
  | returning | parked =>
    have e : s.claimTakesEffectWith act = s.grantTo s.highGrant := by simp only [State.claimTakesEffectWith, hs]
    rw [e]
    exact
      { scan := hscan, slots := rfl, ring := rfl, bins := rfl
        moving := fun h => by simp [hs] at h
        point := fun h => by simp [hs] at h
        low := fun h => by simp [hs] at h
        measuring := fun h => by simp [hs, HeadState.measuring] at h
        procedure := fun h => by simp [hs] at h
        still := fun _ => rfl
        out := fun h => by simp [hs] at h
        decision := .of_eq rfl rfl rfl }
  | homing | fault =>
    have e : s.claimTakesEffectWith act = s := by simp only [State.claimTakesEffectWith, hs]
    rw [e]
    exact
      { scan := hscan, slots := rfl, ring := rfl, bins := rfl
        moving := fun h => by simp [hs] at h
        point := fun h => by simp [hs] at h
        low := fun h => by simp [hs] at h
        measuring := fun h => by simp [hs, HeadState.measuring] at h
        procedure := fun h => by simp [hs] at h
        still := fun h => by simp [hs] at h
        out := fun _ => rfl
        decision := .of_eq rfl rfl rfl }

/-! ## A scan in progress under the claim -/

/-- The scan void and the head turned: what a claim finds when it takes effect (R34, R43). -/
def State.turned (s : State) : State := (s.toHead .returning).voided.deferredAtAbort

theorem measuringLeg_iff {h : HeadState} : measuringLeg h = true ↔ h = .scanning .fwd ∨ h = .scanning .rev := by
  cases h with
  | scanning leg => cases leg <;> simp [measuringLeg]
  | _ => simp [measuringLeg]

theorem claimTakesEffectWith_scan {s : State} {x : ActiveScan} (act : State → State) (hl : measuringLeg s.head.state = true)
    (hs : s.head.scan = some x) :
    s.claimTakesEffectWith act = (act s.turned).beginReturning (act s.turned).highGrant := by
  have hleg := measuringLeg_iff.mp hl
  have habort : (s.toHead .returning).scanAbortWith act = act s.turned := scanAbortWith_of_some _ (x := x) (by simp [hs])
  obtain h | h := hleg <;> simp only [State.claimTakesEffectWith, h, habort]

@[simp] theorem turned_head (s : State) : s.turned.head = { s.head with state := .returning, scan := none } := by
  simp [State.turned]

@[simp] theorem turned_ring (s : State) : s.turned.ring = s.ring.onFilling (fun r => { r with status := .void }) := by
  simp [State.turned]

theorem turned_bins (s : State) : s.turned.bins = [] := by rw [State.turned, deferredAtAbort_bins, voided_bins]

@[simp] theorem turned_store (s : State) : s.turned.store = s.store := by simp [State.turned]
@[simp] theorem turned_brk (s : State) : s.turned.brk = s.brk := by simp [State.turned]
@[simp] theorem turned_points (s : State) : s.turned.points = s.points := by simp [State.turned]
@[simp] theorem turned_std (s : State) : s.turned.std = s.std := by simp [State.turned]
@[simp] theorem turned_trend (s : State) : s.turned.trend = s.trend := by simp [State.turned]
@[simp] theorem turned_ports (s : State) : s.turned.ports = s.ports := by simp [State.turned]

theorem profileRestart_absent (s : State) :
    s.profileRestart.absent = if s.edges.locked then ⟨false, 0, 0, false⟩ else s.absent := by rw [profileRestart_eq]

/-- A deferred restart leaves a detector at rest as it is. -/
theorem deferredAtAbort_absent {s : State} (h : s.absent = ⟨false, 0, 0, false⟩) :
    s.deferredAtAbort.absent = ⟨false, 0, 0, false⟩ := by
  simp only [State.deferredAtAbort]; split
  · rw [profileRestart_absent]
    split
    · rfl
    · exact h
  · exact h

theorem voided_absent (s : State) : s.voided.absent = s.absent := by
  simp [State.voided, State.endStretch, State.clearContinuity, State.voidRecord]

theorem turned_absent {s : State} (hl : measuringLeg s.head.state = true) : s.turned.absent = ⟨false, 0, 0, false⟩ := by
  have hm : s.head.state.measuring = true := by obtain h | h := measuringLeg_iff.mp hl <;> rw [h] <;> rfl
  exact deferredAtAbort_absent (by rw [voided_absent, toHead_absent_of_measuring hm rfl])

theorem turned_continuity (s : State) : s.turned.profile.continuity = false :=
  (deferredAtAbort_after _).continuity (voided_continuity _)

theorem turned_away (s : State) : Away s.turned := Or.inl (by simp)

theorem turned_after (s : State) : After s s.turned := by
  have hto : After s (s.toHead .returning) := .of_eq (by simp) (by simp)
  exact (hto.trans (voided_after _)).trans (deferredAtAbort_after _)

end Sys2Proof.Machine
end


section
/-! SUPPORT AND PROOF. The entry to BREAK (R126 to R129). -/

namespace Sys2Proof.Machine

open Sys2Proof Sys2Proof.Safety

/-! ## Every pending READ SCAN ends (R99) -/

/-- What the end of a pending request leaves of a port: one reply, if one was pending. -/
structure Ended (b : ReplyBody) (p q : Port) : Prop where
  pending : q.pending = none
  replies : q.replies = p.replies ++ (p.pending.map (fun r => (⟨some .readScan, r.tag, b⟩ : Reply))).toList
  notices : q.notices = p.notices
  present : q.present = p.present

theorem endPending_get (s : State) (st : Station) (b : ReplyBody) :
    Ended b (s.ports.get st) ((s.endPending st b).ports.get st) := by
  cases h : (s.ports.get st).pending with
  | none =>
    have e : s.endPending st b = s := by simp [State.endPending, h]
    rw [e]
    exact ⟨h, by simp [h], rfl, rfl⟩
  | some r =>
    have e : s.endPending st b = s.onPort st (fun p => Port.queueReply { p with pending := none } ⟨some .readScan, r.tag, b⟩) := by
      simp only [State.endPending, h, State.reply, State.onPort_onPort]
    rw [e, State.onPort_get]
    exact ⟨rfl, by simp [Port.queueReply, h], rfl, rfl⟩

theorem endPending_get_ne (s : State) {st j : Station} (b : ReplyBody) (h : j ≠ st) :
    (s.endPending st b).ports.get j = s.ports.get j := by
  simp only [State.endPending]; split
  · rfl
  · rw [State.reply, State.onPort_get_ne _ _ h, State.onPort_get_ne _ _ h]

theorem endPendingByBreak_get (s : State) (st : Station) :
    Ended (.status .break_) (s.ports.get st) (s.endPendingByBreak.ports.get st) := by
  let s1 := s.endPending .n0 (.status .break_)
  let s2 := s1.endPending .n1 (.status .break_)
  let s3 := s2.endPending .n2 (.status .break_)
  have e : s.endPendingByBreak = s3.endPending .n3 (.status .break_) := rfl
  have h0 := endPending_get s .n0 (.status .break_)
  have h1 := endPending_get s1 .n1 (.status .break_)
  have h2 := endPending_get s2 .n2 (.status .break_)
  have h3 := endPending_get s3 .n3 (.status .break_)
  rw [e]
  cases st with
  | n0 =>
    rw [endPending_get_ne _ _ (by decide), endPending_get_ne _ _ (by decide), endPending_get_ne _ _ (by decide)]
    exact h0
  | n1 =>
    rw [endPending_get_ne _ _ (by decide), endPending_get_ne _ _ (by decide)]
    rwa [endPending_get_ne _ _ (by decide)] at h1
  | n2 =>
    rw [endPending_get_ne _ _ (by decide)]
    rwa [endPending_get_ne _ _ (by decide), endPending_get_ne _ _ (by decide)] at h2
  | n3 => rwa [endPending_get_ne _ _ (by decide), endPending_get_ne _ _ (by decide), endPending_get_ne _ _ (by decide)] at h3

/-! ## The claim of the hold -/

/-- With nothing to activate the claim does not care what an activation would do. -/
theorem claimTakesEffectWith_idle {s : State} {act : State → State} (h : ∀ v, v.store = s.store → act v = v) :
    s.claimTakesEffectWith act = s.claimTakesEffectWith id := by
  have habort : (s.toHead .returning).scanAbortWith act = (s.toHead .returning).scanAbortWith id := by
    cases hs : s.head.scan with
    | none => rw [scanAbortWith_of_none _ (by simp [hs]), scanAbortWith_of_none _ (by simp [hs])]
    | some x =>
      rw [scanAbortWith_of_some _ (x := x) (by simp [hs]), scanAbortWith_of_some _ (x := x) (by simp [hs]), h _ (by simp)]
      rfl
  simp only [State.claimTakesEffectWith, habort]

theorem activateInEntry_of_none {s : State} (h : s.store.pendingSlot = none) : s.activateInEntry = s := by
  simp [State.activateInEntry, h]

theorem activateInEntry_of_some {s : State} {k : SlotNo} (h : s.store.pendingSlot = some k) :
    s.activateInEntry = s.activateWith State.judgeInEntry k := by
  simp [State.activateInEntry, h]

/-- What follows the claim at an entry to BREAK, up to the condition of R130 (R128, R99). -/
def State.breakTail (s : State) : State := (s.clearContinuity.endPendingByBreak).breakNotice

theorem breakEntryWith_tail (act : State → State) (absent : Bool) (s : State) :
    s.breakEntryWith act absent = ((s.setBrk (s.brk.broken absent)).claimTakesEffectWith act).breakTail.judgeThreading := rfl

section

variable (s : State)

@[simp] theorem returning_brk (g : Grant) : (s.returning g).brk = s.brk := by simp [State.returning]

@[simp] theorem breakTail_head : s.breakTail.head = s.head := by simp [State.breakTail]
@[simp] theorem breakTail_brk : s.breakTail.brk = s.brk := by simp [State.breakTail]
@[simp] theorem breakTail_ring : s.breakTail.ring = s.ring := by simp [State.breakTail]
@[simp] theorem breakTail_std : s.breakTail.std = s.std := by simp [State.breakTail]
@[simp] theorem breakTail_conv : s.breakTail.conv = s.conv := by simp [State.breakTail]
@[simp] theorem breakTail_points : s.breakTail.points = s.points := by simp [State.breakTail]
@[simp] theorem breakTail_store : s.breakTail.store = s.store := by simp [State.breakTail]
@[simp] theorem breakTail_limits : s.breakTail.limits = s.limits := by simp [State.breakTail]

theorem breakTail_bins : s.breakTail.bins = s.bins := endPendingByBreak_bins s.clearContinuity

theorem endPendingByBreak_absent : s.endPendingByBreak.absent = s.absent := by
  have h : ∀ (v : State) st b, (v.endPending st b).absent = v.absent := fun v st b => by
    simp only [State.endPending]; split <;> rfl
  simp only [State.endPendingByBreak, h]

theorem breakTail_absent : s.breakTail.absent = s.absent := endPendingByBreak_absent s.clearContinuity

theorem breakTail_profile : s.breakTail.profile = { s.profile with continuity := false } := by
  simp [State.breakTail, State.clearContinuity]

theorem breakTail_after : After s s.breakTail :=
  ((clearContinuity_after s).trans (endPendingByBreak_after _)).trans (breakNotice_after _)

/-- The pending requests of the state before have ended, whatever notices came between and after. -/
theorem pendingEnded {P Q : Notice → Prop} {s c u : State} (hc : Offers P s c) (hu : Offers Q c.breakTail u) :
    PendingEndedByBreak s u.settle := by
  intro st
  have hkept : (c.breakTail.ports.get st).pending = none ∧ (c.breakTail.ports.get st).replies
      = (c.ports.get st).replies ++ ((c.ports.get st).pending.map (fun q => (⟨some .readScan, q.tag, .status .break_⟩ : Reply))).toList := by
    have hended := endPendingByBreak_get c.clearContinuity st
    obtain ⟨hr, hp, -⟩ := Port.offer_kept (.breakState c.clearContinuity.endPendingByBreak.brk.state
      c.clearContinuity.endPendingByBreak.brk.causes c.clearContinuity.endPendingByBreak.brk.count)
      (c.clearContinuity.endPendingByBreak.ports.get st)
    rw [State.breakTail, State.breakNotice, State.offer_get, hr, hp]
    exact ⟨hended.pending, hended.replies⟩
  have hpend : ∀ {P : Notice → Prop} {a b : State}, Offers P a b → (b.ports.get st).pending = (a.ports.get st).pending :=
    fun h => h.kept (fun p => p.pending) (fun n p => (Port.offer_kept n p).2.1) st
  obtain ⟨hp, hr⟩ := hkept
  rw [State.settle_get, (Port.choose_kept _).1, (Port.choose_kept _).2.2.1, hu.replies, hpend hu, hp, hr, hc.replies, hpend hc]
  exact ⟨rfl, rfl⟩

theorem breakTail_offers : Offers (fun n => n.kind = .breakState) s.clearContinuity.endPendingByBreak s.breakTail :=
  Offers.offer rfl

end

/-! ## The head under the hold (R128) -/

/-- A claim of the hold that has taken effect with nothing to activate, seen from the state before. -/
theorem headUnderBreak {t : State} (hhold : t.holdPresent = true) (hleg : t.head.scan.isSome = true → measuringLeg t.head.state = true) :
    HeadUnderBreak t (t.claimTakesEffectWith id).breakTail.settle := by
  have hg : t.highGrant = .hold := highGrant_of_hold hhold
  cases hs : t.head.scan with
  | none =>
    have hc := claimTakesEffectWith_unscanned id hs (by rw [hg]; simp)
    rw [hg] at hc
    refine ⟨by simp [hc.scan], fun h => by simp [hs] at h, fun _ => by simp [hc.ring], fun h => ?_, fun h => ⟨?_, fun hr => ?_, fun hr => ?_⟩,
      fun h => ?_, fun h => ?_, fun h => ?_⟩
    · obtain ⟨a, b, c⟩ := hc.moving (h.imp_right Or.inl)
      simp only [settle_head, breakTail_head]
      exact ⟨a, fun hp => ⟨(b hp).1, (b hp).2.2, (b hp).2.1⟩, c⟩
    · simp only [settle_points, breakTail_points]
      exact hc.point h
    · obtain ⟨a, b, c⟩ := hc.moving (Or.inr (Or.inr ⟨h, hr⟩))
      simp only [settle_head, breakTail_head]
      exact ⟨a, fun hp => ⟨(b hp).1, (b hp).2.2, (b hp).2.1⟩, c⟩
    · obtain ⟨a, b, -⟩ := hc.low h hr
      simp only [settle_head, breakTail_head]
      exact ⟨a, b⟩
    · obtain ⟨a, b, hstd, hconv⟩ := hc.procedure h
      obtain ⟨hphase, hout, hdue, hfail, hcount⟩ := stdAbort_std t
      simp only [settle_head, breakTail_head, settle_std, breakTail_std, settle_conv, breakTail_conv, hstd, hconv]
      refine ⟨a, b, fun hne => ⟨hphase, by rw [hout, if_neg hne], hdue, hfail, hcount, ?_⟩⟩
      simp [State.stdAbort, hne, State.dropPendingSet]
    · simp only [settle_head, breakTail_head]
      exact hc.still h
    · simp only [settle_head, breakTail_head]
      exact hc.out h
  | some x =>
    have hl := hleg (by simp [hs])
    have hstates := measuringLeg_iff.mp hl
    have hgt : t.turned.highGrant = .hold := highGrant_of_hold (by simpa [State.holdPresent] using hhold)
    have hh := beginReturning_homeward (s := t.turned) (by rw [hgt]; simp)
      (driveMissing_of_moving (by simp [HeadState.still]))
    have e : t.claimTakesEffectWith id = t.turned.beginReturning t.turned.highGrant := claimTakesEffectWith_scan id hl hs
    rw [e, hgt]
    rw [hgt] at hh
    obtain ⟨hsc, hsl⟩ := hh.kept
    obtain ⟨a, b, c⟩ := hh.goes
    simp only [turned_head] at b c
    have hscan : (t.turned.beginReturning .hold).head.scan = none := by rw [hsc]; simp
    refine ⟨by simp [hscan], fun _ => ⟨by simp [hh.ring], ?_⟩, fun h => by simp [hs] at h, fun _ => ?_, fun h => ?_, fun h => ?_,
      fun h => ?_, fun h => ?_⟩
    · exact (breakTail_bins _).trans (hh.bins.trans (turned_bins t))
    · simp only [settle_head, breakTail_head]
      exact ⟨a, fun hp => ⟨(b hp).1, (b hp).2.2, (b hp).2.1⟩, c⟩
    all_goals (obtain h' | h' := hstates <;> simp [h'] at h)

/-- The notices of a claim of the hold. -/
theorem claim_offers {t : State} (hg : t.highGrant ≠ .none) (hleg : t.head.scan.isSome = true → measuringLeg t.head.state = true) :
    Offers HeadNews t (t.claimTakesEffectWith id) := by
  cases hs : t.head.scan with
  | none => exact (claimTakesEffectWith_unscanned id hs hg).decision.news
  | some x =>
    have hgt : t.turned.highGrant = t.highGrant := highGrant_congr (by simp) (by simp)
    have hh := beginReturning_homeward (s := t.turned) (by rwa [hgt]) (driveMissing_of_moving (by simp [HeadState.still]))
    have e : t.claimTakesEffectWith id = t.turned.beginReturning t.turned.highGrant :=
      claimTakesEffectWith_scan id (hleg (by simp [hs])) hs
    rw [e]
    exact (Offers.of_ports (by simp)).trans hh.decision.news

/-! ## A trip (R127) -/

section

variable {s : State} {d : Detector}

theorem expired_trip (hl : (s.brk.det.get d).asserted = true) : s.expired d = tripOf s d := by
  rw [State.expired, hl]; rfl

theorem newTrips_tripOf (ht : (s.brk.det.get d).tripped = false) : (newTrips s.brk.det (tripOf s d)).any id = true := by
  rw [tripOf, newTrips_set, ht]; rfl

/-- With the detector TRIPPED the condition of R130 does not hold. -/
theorem tripOf_not_allClear (b : Supervisor) : ({ b with det := tripOf s d } : Supervisor).allClear = false := by
  rw [Bool.eq_false_iff, ne_eq, allClear_iff]
  intro h
  have := h d
  simp [tripOf] at this

theorem broken_allClear (b : Supervisor) (absent : Bool) : (b.broken absent).allClear = b.allClear := rfl

theorem debounceExpiry_trip (hl : (s.brk.det.get d).asserted = true) (ht : (s.brk.det.get d).tripped = false)
    (hb : s.brk.state = .running ∨ s.brk.state = .recovering ∨ s.brk.state = .threading) :
    s.debounceExpiry d = (s.setBrk { s.brk with det := tripOf s d }).breakEntry false := by
  rw [debounceExpiry_eq, expired_trip hl]
  exact judgeDetectors_of_trip (by exact hb) (newTrips_tripOf ht)

/-- A trip in BREAK joins the cause set (R129). -/
theorem debounceExpiry_cause (hl : (s.brk.det.get d).asserted = true) (ht : (s.brk.det.get d).tripped = false)
    (hb : s.brk.state = .break_) :
    s.debounceExpiry d = (s.setBrk { s.brk with
      det := tripOf s d, causes := ⟨s.brk.causes.det.set d true, s.brk.causes.absent⟩ }).breakNotice := by
  have hzip : s.brk.causes.det.zip (· || ·) (newTrips s.brk.det (tripOf s d)) = s.brk.causes.det.set d true := by
    cases d <;> simp [tripOf, newTrips, PerDetector.zip, PerDetector.set, PerDetector.get] at ht ⊢ <;> simp [ht]
  rw [debounceExpiry_eq, expired_trip hl, judgeDetectors_of_cause (by exact hb) (newTrips_tripOf ht)]
  simp only [State.addCauses, State.setBrk_brk, hzip]
  rfl

end

/-! ## An entry to BREAK that ends a scan with a slot PENDING (R168) -/

/-- The count of BREAK entries through what follows. -/
theorem judgeThreading_count (s : State) : s.judgeThreading.brk.count = s.brk.count := by
  simp only [State.judgeThreading]; split
  · simp only [threadingEntry_eq]; split
    · simp only [State.threadingExpiry]; split
      · rw [recoveringEntry_eq, redecideIfParked_brk, recoverRest_brk]; rfl
      · rfl
    · rfl
  · rfl

theorem activateInEntry_count (s : State) : s.activateInEntry.brk.count = s.brk.count := by
  have hjudge : ∀ a b (t : State), (t.judgeInEntry a b).brk.count = t.brk.count := fun a b t => by
    simp only [State.judgeInEntry]; split
    · simp [State.addCauses]
    · rfl
  simp only [State.activateInEntry]; split
  · rfl
  · simp [activateWith_eq, hjudge]

/-- The scan void, the slot ACTIVE: the head as the abort has left it, and the hold still present. -/
structure EntryActivated (t v : State) (k : SlotNo) : Prop where
  head : ∃ g, v.head = { t.head with state := .returning, scan := none, grant := g }
  hold : v.holdPresent = true
  activated : Activated t v k
  count : v.brk.count = t.brk.count
  continuity : v.profile.continuity = false
  ring : v.ring = t.ring.onFilling (fun r => { r with status := .void })
  bins : v.bins = []
  absent : v.absent = ⟨false, 0, 0, false⟩
  std : v.std = t.std
  causes : v.brk.causes.absent = t.brk.causes.absent

/-- A detector at rest stays at rest through the step of an activation. -/
theorem handed_absent {s : State} (k : SlotNo) (h : s.absent = ⟨false, 0, 0, false⟩) :
    (s.handed k).absent = ⟨false, 0, 0, false⟩ := by
  have hclear : ∀ v : State, v.clearLimits.absent = v.absent := fun v => by
    obtain e | ⟨i, -, e⟩ := clearLimits_eq v <;> rw [e] <;> rfl
  have hprofile : ∀ (v : State) l, v.absent = ⟨false, 0, 0, false⟩ → (v.profileActivation l).absent = ⟨false, 0, 0, false⟩ := by
    intro v l hv
    simp only [State.profileActivation]; split
    · exact hv
    · rw [profileRestart_absent]
      split
      · rfl
      · exact hv
  have e : (s.handed k).absent = (s.activated k).absent := rfl
  rw [e, State.activated, hclear]
  exact hprofile _ _ h

theorem judgeInEntry_absent (s : State) (a b : PerDetector Bool) : (s.judgeInEntry a b).absent = s.absent := by
  simp only [State.judgeInEntry]; split <;> rfl

theorem judgeInEntry_causes (s : State) (a b : PerDetector Bool) :
    (s.judgeInEntry a b).brk.causes.absent = s.brk.causes.absent := by
  simp only [State.judgeInEntry]; split <;> rfl

theorem handed_causes (s : State) (k : SlotNo) : (s.handed k).brk.causes = s.brk.causes := by
  simp [State.handed, State.activated]

theorem handed_std (s : State) (k : SlotNo) : (s.handed k).std = s.std := by
  simp [State.handed, State.activated]

theorem entryActivated {t : State} {k : SlotNo} (hhold : t.holdPresent = true) (hl : measuringLeg t.head.state = true)
    (hp : t.store.pendingSlot = some k) : EntryActivated t t.turned.activateInEntry k := by
  have hpt : t.turned.store.pendingSlot = some k := by rw [turned_store, hp]
  have haway := turned_away t
  have hj : ∀ a b v, Away v → AwayKept v (State.judgeInEntry a b v) := fun a b v _ => judgeInEntry_away a b
  have hbrk := activateInEntry_brk_state t.turned
  have hcount := activateInEntry_count t.turned
  rw [activateInEntry_of_some hpt] at *
  have hkept := activateWith_away k hj haway
  have hactive := activated_activateWith (s := t.turned) k (fun a b v => judgeInEntry_after v a b) (fun a b v => by simp)
    (fun a b v => by simp)
  obtain ⟨g, hhead⟩ := hkept.head
  exact
    { head := ⟨g, by rw [hhead, turned_head]⟩
      hold := by simpa [State.holdPresent, hbrk] using hhold
      activated := activated_of_same hactive (turned_store t) rfl rfl rfl
      count := by rw [hcount, turned_brk]
      continuity := by
        rw [activateWith_of_away k hj haway]
        exact (judgeInEntry_after _ _ _).continuity (handed_continuity _ k)
      ring := by rw [hkept.ring, turned_ring]
      bins := by rw [hkept.bins, turned_bins]
      absent := by
        rw [activateWith_of_away k hj haway]
        exact (judgeInEntry_absent _ _ _).trans (handed_absent k (turned_absent hl))
      std := by
        rw [activateWith_of_away k hj haway, recipeNotice_std, judgeInEntry_std, handed_std, turned_std]
      causes := by
        rw [activateWith_of_away k hj haway, recipeNotice_brk, judgeInEntry_causes, handed_causes, turned_brk] }

/-- The notices of an activation inside an entry to BREAK. -/
theorem entryActivated_offers {t : State} {k : SlotNo} (hp : t.store.pendingSlot = some k) :
    Offers (fun _ => True) t t.turned.activateInEntry := by
  have hclear : ∀ v : State, Offers (fun _ => True) v v.clearLimits := fun v => by
    obtain e | ⟨i, -, e⟩ := clearLimits_eq v <;> rw [e]
    · exact .of_ports rfl
    · exact Offers.trans (t := v.setLimits .reset) (.of_ports rfl) (.offer trivial)
  have hprofile : ∀ (v : State) l, Offers (fun _ => True) v (v.profileActivation l) := fun v l => .of_ports (by simp)
  have hhanded : Offers (fun _ => True) t.turned (t.turned.handed k) := by
    refine Offers.trans (t := (t.turned.setStore (t.turned.store.activate k))) (.of_ports rfl) ?_
    exact (hprofile _ _).trans ((hclear _).trans (.of_ports rfl))
  have hjudge : ∀ a b (v : State), Offers (fun _ => True) v (v.judgeInEntry a b) := fun a b v => by
    simp only [State.judgeInEntry]; split
    · exact Offers.trans (t := v.setBrk _) (.of_ports rfl) (.offer trivial)
    · exact .of_ports rfl
  rw [activateInEntry_of_some (by rw [turned_store, hp]),
    activateWith_of_away k (fun a b v _ => judgeInEntry_away a b) (turned_away t)]
  exact (Offers.of_ports (turned_ports t)).trans (hhanded.trans ((hjudge _ _ _).trans (.offer trivial)))

/-! ## The condition of R130 at a head that is not PARKED -/

theorem judgeThreading_offers {s : State} (hp : s.head.state ≠ .parked) :
    Offers (fun n => n.kind = .breakState) s s.judgeThreading := by
  have hrec : ∀ v : State, v.head.state ≠ .parked → Offers (fun n => n.kind = .breakState) v v.recoveringEntry := fun v hv => by
    rw [recoveringEntry_of_ne hv, recoverRest_eq]
    exact Offers.trans (t := { v with
      brk := { v.brk with state := .recovering, threadingTimer := .stopped, recoveryCount := 0, relay := false }
      profile := restartedProfile v.profile
      edges := restartedEdges v.edges
      absent := if v.edges.locked then ⟨false, 0, 0, false⟩ else v.absent
      hole := if v.edges.locked then { v.hole with run := 0, marker := false } else v.hole
      std := { v.std with stdDue := true } }) (.of_ports rfl) (.offer rfl)
  have hthr : Offers (fun n => n.kind = .breakState) s (s.setBrk (s.brk.threading s.recipe.brk.threadingHold)).breakNotice :=
    Offers.trans (t := s.setBrk (s.brk.threading s.recipe.brk.threadingHold)) (.of_ports rfl) (.offer rfl)
  simp only [State.judgeThreading]; split
  · simp only [threadingEntry_eq]; split
    · refine hthr.trans ?_
      simp only [State.threadingExpiry]; split
      · exact Offers.trans (.of_ports rfl) (hrec _ hp)
      · exact .of_ports rfl
    · exact hthr
  · exact .of_ports rfl

theorem judgeThreading_absent {s : State} (hp : s.head.state ≠ .parked) (h : s.absent = ⟨false, 0, 0, false⟩) :
    s.judgeThreading.absent = ⟨false, 0, 0, false⟩ := by
  have hrec : ∀ v : State, v.head.state ≠ .parked → v.absent = ⟨false, 0, 0, false⟩ →
      v.recoveringEntry.absent = ⟨false, 0, 0, false⟩ := fun v hv ha => by
    rw [recoveringEntry_of_ne hv, recoverRest_eq]
    change (if _ then _ else _) = _
    split
    · rfl
    · exact ha
  simp only [State.judgeThreading]; split
  · simp only [threadingEntry_eq]; split
    · simp only [State.threadingExpiry]; split
      · exact hrec _ hp h
      · exact h
    · exact h
  · exact h

/-- The procedure and the causes stand through the entry to THREADING and what may follow it at once. -/
theorem judgeThreading_rest {s : State} (hp : s.head.state ≠ .parked) :
    s.judgeThreading.std.phase = s.std.phase ∧ s.judgeThreading.brk.causes = s.brk.causes := by
  simp only [State.judgeThreading]; split
  · simp only [threadingEntry_eq]; split
    · simp only [State.threadingExpiry]; split
      · rw [recoveringEntry_of_ne (by exact hp), recoverRest_eq]
        exact ⟨rfl, rfl⟩
      · exact ⟨rfl, rfl⟩
    · exact ⟨rfl, rfl⟩
  · exact ⟨rfl, rfl⟩

/-- What an entry to BREAK leaves that ends a scan away from park with a slot PENDING. -/
structure EntryEnds (s u : State) (k : SlotNo) (byAbsence : Bool) : Prop where
  activated : Activated s u k
  count : u.brk.count = min 65535 (s.brk.count + 1)
  scan : u.head.scan = none
  state : u.head.state = .returning
  dir : u.head.drvDir = false
  grant : u.head.grant = .hold
  continuity : u.profile.continuity = false
  pending : PendingEndedByBreak s u
  ring : u.ring = s.ring.onFilling (fun r => { r with status := .void })
  absent : u.absent = ⟨false, 0, 0, false⟩
  phase : u.std.phase = s.std.phase
  causes : u.brk.causes.absent = byAbsence

theorem entryEnds {s : State} {k : SlotNo} (absent : Bool) (hl : measuringLeg s.head.state = true) (hs : s.head.scan.isSome = true)
    (hp : s.store.pendingSlot = some k) (hpos : s.head.position ≠ 0) : EntryEnds s (s.breakEntry absent).settle k absent := by
  obtain ⟨x, hx⟩ := Option.isSome_iff_exists.mp hs
  let t := s.setBrk (s.brk.broken absent)
  have hhold : t.holdPresent = true := rfl
  have hv := entryActivated (t := t) hhold hl hp
  have hoffers := entryActivated_offers (t := t) hp
  have e : s.breakEntry absent = (t.turned.activateInEntry.beginReturning t.turned.activateInEntry.highGrant).breakTail.judgeThreading := by
    rw [State.breakEntry, breakEntryWith_tail, claimTakesEffectWith_scan (s := t) _ hl hx]
  generalize t.turned.activateInEntry = v at hv hoffers e
  obtain ⟨g, hhead⟩ := hv.head
  have hreturn : v.beginReturning v.highGrant = v.returning .hold := by
    rw [highGrant_of_hold hv.hold, beginReturning_of_away _ (driveMissing_of_moving (by rw [hhead]; rfl)) (by rw [hhead]; exact hpos)]
  rw [hreturn] at e
  have hw : (v.returning .hold).breakTail.head.state ≠ .parked := by simp
  have hthread := judgeThreading_head hw
  have hrest := judgeThreading_rest hw
  have hafter := (breakTail_after (v.returning .hold)).trans (judgeThreading_after (v.returning .hold).breakTail)
  have hkept := judgeThreading_away (s := (v.returning .hold).breakTail) (Or.inl (by simp))
  rw [e]
  exact
    { activated := activated_of_same hv.activated rfl (by simp [State.returning]) (by simp [State.returning])
        (by rw [settle_profile, hafter.layout]; simp [State.returning])
      count := by
        rw [settle_brk, judgeThreading_count, breakTail_brk, returning_brk, hv.count]
        rfl
      scan := by rw [settle_head, hthread]; simp [hhead]
      state := by rw [settle_head, hthread]; simp
      dir := by rw [settle_head, hthread]; simp
      grant := by rw [settle_head, hthread]; simp
      continuity := by
        rw [settle_profile]
        exact hafter.continuity (by simp [State.returning, hv.continuity])
      pending := pendingEnded (hoffers.trans ((returning_decision v .hold).news.mono fun _ _ => trivial)) (judgeThreading_offers hw)
      ring := by
        rw [settle_ring, hkept.ring, breakTail_ring, State.returning]
        simp [hv.ring, t]
      absent := by
        have hr : (v.returning .hold).absent = ⟨false, 0, 0, false⟩ := by
          rw [returning_absent _ (by rw [hhead]; rfl), hv.absent]
        exact judgeThreading_absent hw (by rw [breakTail_absent, hr])
      phase := by
        rw [settle_std, hrest.1, breakTail_std, State.returning]
        simp [hv.std, t]
      causes := by rw [settle_brk, hrest.2, breakTail_brk, returning_brk, hv.causes]; rfl }

end Sys2Proof.Machine

namespace Sys2Proof.Safety

open Sys2Proof Sys2Proof.Machine

/-- Settles O35: an entry to BREAK with its claim, one that activates a slot, and a trip that joins the causes. -/
theorem tripEntersBreak : Obligations.TripEntersBreak := by
  intro s d r ha he hl ht hleg
  have hexec := exec_debounceExpiry ha he (by rw [hl, ht]; decide)
  refine ⟨fun hb hp => ?_, fun k hb hp hs hpos => ?_, fun hb => ?_⟩
  · let v := s.setBrk { s.brk with det := tripOf s d }
    let t := v.setBrk (v.brk.broken false)
    have hhold : t.holdPresent = true := rfl
    have hlegt : t.head.scan.isSome = true → measuringLeg t.head.state = true := hleg
    have hidle : t.claimTakesEffectWith State.activateInEntry = t.claimTakesEffectWith id :=
      claimTakesEffectWith_idle fun w hw => activateInEntry_of_none (by rw [hw]; exact hp)
    have hbrk : (t.claimTakesEffectWith id).brk = t.brk := claimTakesEffectWith_brk _ (fun _ => rfl) _
    have e : s.debounceExpiry d = (t.claimTakesEffectWith id).breakTail := by
      rw [debounceExpiry_trip hl ht hb, State.breakEntry, breakEntryWith_tail]
      change (t.claimTakesEffectWith State.activateInEntry).breakTail.judgeThreading = _
      rw [hidle, judgeThreading_of_not_allClear]
      rw [breakTail_brk, hbrk]
      exact tripOf_not_allClear (v.brk.broken false)
    refine ⟨_, hexec, ?_⟩
    rw [e]
    refine ⟨?_, ?_, headUnderBreak hhold hlegt, ?_, ?_⟩
    · rw [settle_brk, breakTail_brk, hbrk]; rfl
    · rw [settle_profile, breakTail_profile]
    · exact pendingEnded (P := HeadNews) (Q := fun _ => True)
        ((Offers.of_ports (by rfl)).trans (claim_offers (by rw [highGrant_of_hold hhold]; simp) hlegt)) (.of_ports rfl)
    · have hn : (t.claimTakesEffectWith id).breakTail
          = ((t.claimTakesEffectWith id).clearContinuity.endPendingByBreak).offer
              (.breakState t.brk.state t.brk.causes t.brk.count) := by
        rw [State.breakTail, State.breakNotice, endPendingByBreak_brk, clearContinuity_brk, hbrk]
      rw [hn]
      exact told_of_offers (P := fun _ => False) (.of_ports rfl) fun _ h => h.elim
  · rw [debounceExpiry_trip hl ht (hb.imp_right Or.inl)] at hexec
    have h := entryEnds (s := s.setBrk { s.brk with det := tripOf s d }) false (hleg hs) hs hp hpos
    exact ⟨_, hexec, h.activated, h.count, h.scan, h.state, h.grant, h.continuity, h.pending, h.ring⟩
  · rw [hexec, debounceExpiry_cause hl ht hb, State.breakNotice, State.setBrk_brk, hb]
    rfl

end Sys2Proof.Safety
end


section
/-! SUPPORT AND PROOF. MODE PARK takes effect at once (R34, R35, R43). -/

namespace Sys2Proof.Machine

open Sys2Proof Sys2Proof.Safety

/-- The state in which a PARK claim takes effect: heard, replied, the slot set. -/
def State.parkAsked (s : State) (st : Station) (tag : Byte) : State :=
  (answered s st .mode tag (.mode .ok .park)).setSlot st .park

theorem exec_modePark {s : State} {st : Station} (tag b1 b2 b3 : Byte) (hr : Ready s st) :
    exec (.mode st tag [1, b1, b2, b3]) s = .next (s.parkAsked st tag).parkTakesEffect.redecideIfParked.settle := by
  rw [exec_mode _ _ _ _ hr]
  change Host.Outcome.next ((heard s st).modePark st tag).settle = _
  rw [State.modePark, heard_mode]
  rfl

/-- Some station holds PARK, and so one has the lowest number. -/
theorem exists_lowest_park (slots : Four ModeSlot) (st : Station) :
    ∃ low, LowestWith (slots.set st .park) (fun m => m = .park) low := exists_lowest ⟨st, by simp⟩

theorem parkAsked_highGrant {s : State} (st : Station) (tag : Byte) {low : Station} (hn : NoHold s)
    (hl : LowestWith (s.head.slots.set st .park) (fun m => m = .park) low) : (s.parkAsked st tag).highGrant = .park low :=
  highGrant_of_park (s := s.parkAsked st tag) hn hl

/-- With the drive on, the traverse goes at the recipe's step. -/
theorem traverseStep_eq (s : State) : s.traverseStep = (s.activeRecipe.map (fun r => r.motion.step)).getD 1 := rfl

/-- A deferred restart at an abort (R82). -/
theorem deferredAtAbort_of_deferred {s : State} (h : s.profile.deferred = true) :
    s.deferredAtAbort.profile = { (restartedProfile s.profile) with deferred := false }
      ∧ s.deferredAtAbort.edges = restartedEdges s.edges := by
  simp only [State.deferredAtAbort, h, if_true]
  rw [profileRestart_eq]
  exact ⟨rfl, rfl⟩

theorem deferredAtAbort_of_not {s : State} (h : s.profile.deferred = false) : s.deferredAtAbort = s := by
  simp [State.deferredAtAbort, h]

theorem deferredAtAbort_hole {s : State} (hr : s.hole.run = 0) (hm : s.hole.marker = false) :
    s.deferredAtAbort.hole.run = 0 ∧ s.deferredAtAbort.hole.marker = false := by
  simp only [State.deferredAtAbort]; split
  · rw [profileRestart_eq]
    change (if _ then _ else _ : Hole).run = 0 ∧ (if _ then _ else _ : Hole).marker = false
    split
    · exact ⟨rfl, rfl⟩
    · exact ⟨hr, hm⟩
  · exact ⟨hr, hm⟩

theorem voided_profile (s : State) : s.voided.profile = { s.profile with continuity := false } := by
  simp [State.voided, State.clearContinuity]

theorem voided_edges (s : State) : s.voided.edges = { s.edges with run := ⟨0, 0, none, none⟩ } := by
  simp [State.voided]
  rfl

section

variable (s : State)

theorem turned_hole : s.turned.hole.run = 0 ∧ s.turned.hole.marker = false :=
  deferredAtAbort_hole (by rw [voided_hole]; rfl) (by rw [voided_hole]; rfl)

theorem turned_profile_of_not (h : s.profile.deferred = false) :
    s.turned.profile = { s.profile with continuity := false } ∧ s.turned.edges = { s.edges with run := ⟨0, 0, none, none⟩ } := by
  rw [State.turned, deferredAtAbort_of_not (by rw [voided_profile]; simpa using h), voided_profile, voided_edges]
  simp

theorem turned_profile_of_deferred (h : s.profile.deferred = true) :
    s.turned.profile = { (restartedProfile s.profile) with deferred := false }
      ∧ s.turned.edges = restartedEdges { s.edges with run := ⟨0, 0, none, none⟩ } := by
  have hv : (s.toHead .returning).voided.profile.deferred = true := by rw [voided_profile]; simpa using h
  obtain ⟨hp, he⟩ := deferredAtAbort_of_deferred hv
  rw [State.turned, hp, he, voided_profile, voided_edges]
  rw [toHead_profile, toHead_edges]
  exact ⟨rfl, rfl⟩

end

/-- No hold, and no detector that the recipe finds TRIPPED: the break state stays out of the hold at an activation. -/
theorem rejudge_tripped (c : BreakCfg) (det : PerDetector DetectorUnit) (d : Detector) :
    ((c.rejudge det).get d).tripped = rejudgedTripped c d (det.get d) := by
  have h : ∀ (u : DetectorUnit) (e : Bool) (n : Nat),
      (u.rejudge e n).tripped = if e = false then false else if n * 10 ≤ u.age then u.asserted else u.tripped := fun u e n => by
    cases e
    · simp [DetectorUnit.rejudge]
    · rw [DetectorUnit.rejudge, if_neg (by simp)]
      by_cases hage : n * 10 ≤ u.age
      · rw [if_pos (show n * Config.debounceUnit ≤ u.age from hage)]; simp [hage]
      · rw [if_neg (show ¬n * Config.debounceUnit ≤ u.age from hage)]; simp [hage]
  cases d <;> exact h _ _ _

theorem handed_det (s : State) (k : SlotNo) (d : Detector) :
    ((s.handed k).brk.det.get d).tripped = rejudgedTripped (s.store.slots.get k).recipe.brk d (s.brk.det.get d) := by
  have hrec : (s.activated k).recipe = (s.store.slots.get k).recipe := handed_recipe s k
  have e : (s.handed k).brk.det = (s.store.slots.get k).recipe.brk.rejudge s.brk.det := by
    rw [State.handed, State.setBrk_brk, State.rejudged, hrec, activated_brk]
  rw [e, rejudge_tripped]

theorem handed_allClear {s : State} {k : SlotNo} (h : QuietUnder (s.store.slots.get k).recipe s) :
    (s.handed k).brk.allClear = true := allClear_iff.mpr fun d => by rw [handed_det]; exact h d

theorem newTrips_handed {s : State} {k : SlotNo} (h : QuietUnder (s.store.slots.get k).recipe s) :
    (newTrips s.brk.det (s.handed k).brk.det).any id = false := by
  rw [Bool.eq_false_iff]
  intro ht
  have hn := not_allClear_of_newTrips (b := (s.handed k).brk) (old := s.brk.det) ht
  simp [handed_allClear h] at hn

theorem activate_noHold {s : State} {k : SlotNo} (hn : NoHold s) (h : QuietUnder (s.store.slots.get k).recipe s) :
    NoHold (s.activate k) := by
  have hb : (s.handed k).brk.state = s.brk.state := by rw [State.handed, State.setBrk_brk, activated_brk]
  obtain ⟨hb1, hb2⟩ := hn
  have hbrk : (s.activate k).brk = ((s.handed k).judgeActivationWith (State.breakEntryWith id false)
      (newTrips s.brk.det (s.handed k).brk.det) (newClears s.brk.det (s.handed k).brk.det)).brk := by
    simp [State.activate, activateWith_handed]
  rw [NoHold, hbrk]
  obtain ⟨-, -, e⟩ | ⟨-, hc, -⟩ | ⟨-, e⟩ := judgeActivationWith_cases (State.breakEntryWith id false)
      (newTrips s.brk.det (s.handed k).brk.det) (newClears s.brk.det (s.handed k).brk.det) (s.handed k)
  · rw [e, recoveringEntry_eq, redecideIfParked_brk, recoverRest_brk]
    exact ⟨by simp [Supervisor.recovering], by simp [Supervisor.recovering]⟩
  · simp [handed_allClear h] at hc
  · rw [e]
    obtain e | ⟨-, ht, -⟩ | ⟨hbreak, -, -⟩ | ⟨hbreak, -⟩ := judgeDetectorsWith_cases (State.breakEntryWith id false)
      (newTrips s.brk.det (s.handed k).brk.det) (newClears s.brk.det (s.handed k).brk.det) (s.handed k)
    · rw [e, hb]; exact ⟨hb1, hb2⟩
    · simp [newTrips_handed h] at ht
    · exact absurd (hb.symm.trans hbreak) hb1
    · exact absurd (hb.symm.trans hbreak) hb1

/-- Without a scan in progress the claim does not care what an activation would do. -/
theorem claimTakesEffectWith_of_unscanned {s : State} (act : State → State) (h : s.head.scan = none) :
    s.claimTakesEffectWith act = s.claimTakesEffectWith id := by
  have habort : (s.toHead .returning).scanAbortWith act = (s.toHead .returning).scanAbortWith id := by
    rw [scanAbortWith_of_none _ (by simp [h]), scanAbortWith_of_none _ (by simp [h])]
  simp only [State.claimTakesEffectWith, habort]

/-- A PARKED head that decides under a claim of rank 1 or 2 only takes the grant. -/
structure Regranted (s u : State) (g : Grant) : Prop where
  head : u.head = if s.head.state = .parked then { s.head with grant := g } else s.head
  ring : u.ring = s.ring
  points : u.points = s.points
  absent : u.absent = s.absent
  std : u.std = s.std
  conv : u.conv = s.conv

theorem redecideIfParked_regranted {s : State} (h : s.highGrant ≠ .none) : Regranted s s.redecideIfParked s.highGrant := by
  rw [redecideIfParked_of_high h]
  split
  · next hp => exact ⟨by simp [hp, State.grantTo], rfl, rfl, rfl, rfl, rfl⟩
  · next hp => exact ⟨by simp [hp], rfl, rfl, rfl, rfl, rfl⟩

end Sys2Proof.Machine

namespace Sys2Proof.Safety

open Sys2Proof Sys2Proof.Machine

/-- A PARK claim that finds a scan in progress away from park (R34, R43). -/
theorem parkAbortsScan : ParkAbortsScan := by
  intro s st tag b1 b2 b3 x hr hl hx hpos hn
  obtain ⟨low, hlow⟩ := exists_lowest_park s.head.slots st
  let a := s.parkAsked st tag
  have hclaim : ∀ act, a.claimTakesEffectWith act = (act a.turned).beginReturning (act a.turned).highGrant :=
    fun act => claimTakesEffectWith_scan (s := a) act hl hx
  have hgrant : a.turned.highGrant = .park low := (highGrant_congr (s := a) (by simp) (by simp)).trans (parkAsked_highGrant st tag hn hlow)
  have hstill : a.turned.driveMissing = false := driveMissing_of_moving (by simp [HeadState.still])
  refine ⟨fun hp => ?_, fun k hk => ?_⟩
  · have e : a.parkTakesEffect.redecideIfParked = a.turned.returning (.park low) := by
      rw [State.parkTakesEffect, hclaim, activatePending_of_none (by rw [turned_store]; exact hp), hgrant,
        beginReturning_of_away _ hstill (by rw [turned_head]; exact hpos), redecideIfParked_of_ne (by simp)]
    have hexec : exec (.mode st tag [1, b1, b2, b3]) s = .next (a.turned.returning (.park low)).settle := by
      rw [exec_modePark tag b1 b2 b3 hr]
      exact congrArg _ (congrArg _ e)
    have hbins : (a.turned.returning (.park low)).bins = [] := by rw [returning_bins, turned_bins]
    have hhole : (a.turned.returning (.park low)).hole = a.turned.hole := by
      have hto : (a.turned.toHead .returning).hole = a.turned.hole := by simp [State.toHead, leavesMeasuring]
      exact hto
    have hedges : (a.turned.returning (.park low)).edges = a.turned.edges := by simp [State.returning]
    have hprofile : (a.turned.returning (.park low)).profile = a.turned.profile := by simp [State.returning]
    refine ⟨_, low, hexec, hlow, ?_, ?_, ?_, hbins, ?_, ?_, ?_, ?_, ?_, fun hd => ?_, fun hd => ?_, ?_⟩
    · rw [returning_head, turned_head]
      simp only [State.traverseStep, State.activeRecipe, turned_store]
      rfl
    · simp only [State.returning]
      simp
      rfl
    · simp only [State.returning]; simp; rfl
    · rw [hhole]; exact (turned_hole a).1
    · rw [hhole]; exact (turned_hole a).2
    · simp only [State.returning]; simp; rfl
    · simp only [State.returning]; simp; rfl
    · simp only [State.returning]; simp; rfl
    · rw [hedges, hprofile]; exact turned_profile_of_not a hd
    · rw [hedges, hprofile]; exact turned_profile_of_deferred a hd
    · have hports : (a.turned.returning (.park low)).ports = ((((a.turned.toHead .returning).grantTo (.park low)).drive false
          a.turned.traverseStep)).headNotice.ports := rfl
      rw [hports, State.headNotice, State.offer, State.onPorts, State.setPorts_ports]
      simp [State.grantTo, State.drive]
      rfl
  · let w := a.turned.activate k
    have hkept : AwayKept a.turned w := activate_away k (turned_away a)
    have hsk : a.turned.store.pendingSlot = some k := by rw [turned_store]; exact hk
    obtain ⟨g, hhead⟩ := hkept.head
    have hwstate : w.head.state = .returning := by rw [hhead, turned_head]
    have hwpos : w.head.position ≠ 0 := by rw [hhead, turned_head]; exact hpos
    have e : a.parkTakesEffect.redecideIfParked = w.returning w.highGrant := by
      rw [State.parkTakesEffect, hclaim, activatePending_of_some hsk,
        beginReturning_of_away _ (driveMissing_of_moving (by rw [hwstate]; rfl)) hwpos, redecideIfParked_of_ne (by simp)]
    have hexec : exec (.mode st tag [1, b1, b2, b3]) s = .next (w.returning w.highGrant).settle := by
      rw [exec_modePark tag b1 b2 b3 hr]
      exact congrArg _ (congrArg _ e)
    have hactive : Activated a.turned w k := activated_activate k
    have hwtrend : w.trend = a.turned.trend := activate_trend _ _
    have hwslots : w.head.slots = s.head.slots.set st .park := by rw [hhead, turned_head]; rfl
    have hwbins : w.bins = [] := by rw [hkept.bins, turned_bins]
    have hwring : w.ring = s.ring.onFilling (fun r => { r with status := .void }) := by rw [hkept.ring, turned_ring]; rfl
    have hwscan : w.head.scan = none := by rw [hhead, turned_head]
    have hwcont : w.profile.continuity = false := activate_continuity k
    have hquiet : QuietUnder (s.store.slots.get k).recipe s → w.highGrant = .park low := fun hq => by
      have hslot : (a.turned.store.slots.get k).recipe = (s.store.slots.get k).recipe := by rw [turned_store]; rfl
      have hturned : QuietUnder (a.turned.store.slots.get k).recipe a.turned := by
        rw [hslot]
        intro d
        rw [turned_brk]
        exact hq d
      refine highGrant_of_park (activate_noHold ?_ hturned) (by rwa [hwslots])
      rw [NoHold, turned_brk]
      exact hn
    generalize w = w at *
    refine ⟨_, hexec, activated_of_same hactive (by rw [turned_store]; rfl) ?_ ?_ ?_, ?_, ?_, ?_, ?_, ?_, ?_, ?_, ?_, ?_, fun hq => ⟨low, hlow, ?_⟩⟩
    · simp [State.returning]
    · simp [State.returning]
    · simp [State.returning]
    · simp
    · simp [hwscan]
    · simp
    · simp
    · simp [hwslots]
    · exact (returning_bins w w.highGrant).trans hwbins
    · rw [settle_trend, State.returning]; simp [hwtrend]; rfl
    · rw [settle_ring, State.returning]; simp [hwring]
    · rw [settle_profile, State.returning]; simp [hwcont]
    · simp [hquiet hq]

/-- A PARK claim that finds no scan in progress (R43). -/
theorem parkTakesHeadHome : ParkTakesHeadHome := by
  intro s st tag b1 b2 b3 hr hscan hn
  obtain ⟨low, hlow⟩ := exists_lowest_park s.head.slots st
  let a := s.parkAsked st tag
  have hgrant : a.highGrant = .park low := parkAsked_highGrant st tag hn hlow
  have hc := claimTakesEffectWith_unscanned (s := a) State.activatePending hscan (by rw [hgrant]; simp)
  have hbrk : (a.claimTakesEffectWith State.activatePending).brk = a.brk := by
    rw [claimTakesEffectWith_of_unscanned (s := a) _ hscan]
    exact claimTakesEffectWith_brk _ (fun _ => rfl) _
  have hcgrant : (a.claimTakesEffectWith State.activatePending).highGrant = .park low :=
    (highGrant_congr (by rw [hbrk]) hc.slots).trans hgrant
  have hu := redecideIfParked_regranted (by rw [hcgrant]; simp)
  have hexec := exec_modePark (tag := tag) b1 b2 b3 hr
  have htrend : (a.claimTakesEffectWith State.activatePending).redecideIfParked.trend = s.trend := by
    rw [redecideIfParked_trend, claimTakesEffectWith_trend _ (fun v => by simp)]
    rfl
  rw [hgrant] at hc
  rw [hcgrant] at hu
  change exec _ _ = .next (a.claimTakesEffectWith State.activatePending).redecideIfParked.settle at hexec
  generalize a.claimTakesEffectWith State.activatePending = c at *
  have hstate : c.redecideIfParked.head.state = c.head.state := by rw [hu.head]; split <;> rfl
  have hkeep : c.head.grant = .park low → c.redecideIfParked.head.grant = .park low := fun h => by
    rw [hu.head]; split
    · rfl
    · exact h
  have hrest : c.redecideIfParked.head.slots = c.head.slots ∧ c.redecideIfParked.head.drvEn = c.head.drvEn
      ∧ c.redecideIfParked.head.drvDir = c.head.drvDir ∧ c.redecideIfParked.head.cause = c.head.cause := by
    rw [hu.head]; split <;> exact ⟨rfl, rfl, rfl, rfl⟩
  have hother : c.head.state ≠ .parked → c.redecideIfParked.head = c.head := fun h => by rw [hu.head, if_neg h]
  obtain ⟨hslots, hen, hdir, hcause⟩ := hrest
  refine ⟨_, low, hexec, hlow, ?slots, ?ring, htrend, fun h => ?moving, fun h hd => ?fault, fun h hph => ?procedure, fun h => ?still,
    fun h => ?out⟩
  case slots => rw [settle_head, hslots, hc.slots]; rfl
  case ring => rw [settle_ring, hu.ring, hc.ring]; rfl
  case moving =>
    obtain ⟨hg, haway, hhome⟩ := hc.moving (by
      obtain h | h | h := h
      · exact Or.inr (Or.inl h)
      · exact Or.inl ⟨_, h⟩
      · exact Or.inr (Or.inr h))
    rw [settle_head, settle_points, hu.points, hstate, hen, hdir]
    refine ⟨hkeep hg, haway, hhome, hc.point, fun h => ?_⟩
    exact hu.absent.trans (hc.measuring (by change s.head.state.measuring = true; rw [h]; rfl))
  case fault =>
    obtain ⟨hst, hca, hgr⟩ := hc.low h hd
    rw [settle_head, settle_points, hu.points, hstate, hcause, hother (by rw [hst]; simp)]
    exact ⟨hst, hca, hgr, hc.point h⟩
  case procedure =>
    obtain ⟨hst, hgr, hstd, hconv⟩ := hc.procedure h
    obtain ⟨hphase, hout, hdue, hfail, hcount⟩ := stdAbort_std a
    have hdrop : a.stdAbort.conv = { s.conv with pendingSet := none } := by
      have hne : a.std.phase ≠ .idle := hph
      simp [State.stdAbort, hne, State.dropPendingSet]
      exact ⟨rfl, rfl⟩
    rw [settle_head, settle_std, settle_conv, hstate, hu.std, hu.conv, hstd, hconv, hdrop]
    exact ⟨hst, hkeep hgr, hphase, by rw [hout]; exact if_neg hph, hdue, hfail, hcount, rfl, rfl, rfl⟩
  case still =>
    have hh := hc.still h
    rw [settle_head, hstate]
    exact ⟨by rw [hh]; rfl, hkeep (by rw [hh])⟩
  case out =>
    have hh := hc.out h
    have hne : c.head.state ≠ .parked := by
      rw [hh]
      obtain h | h := h
      · change s.head.state ≠ .parked; rw [h]; simp
      · change s.head.state ≠ .parked; rw [h]; simp
    rw [settle_head, hother hne, hh]
    exact ⟨rfl, rfl⟩

/-- Settles O19: a scan in progress is aborted, any other head goes home, stays or ends its procedure. -/
theorem parkTakesEffectAtOnce : Obligations.ParkTakesEffectAtOnce := ⟨parkAbortsScan, parkTakesHeadHome⟩

end Sys2Proof.Safety
end

section
/-! SUPPORT. A request that its owner serves while another is pending (R183), the reports of STATUS, READ_POINTS and
READ_STANDARDIZATION (R22, R109, R187), and the obligation about them. -/

namespace Sys2Proof.Machine

open Sys2Proof Sys2Proof.Safety

/-! ## A request that reaches its owner (R182, R183) -/

/-- The reply queue's room as R184 counts it. -/
theorem Port.hasRoom_iff {p : Port} : p.hasRoom = true ↔ p.replies.length + (if p.pending = none then 0 else 1) < 4 := by
  cases h : p.pending <;> simp [Port.hasRoom, Port.count, Config.replyRoom, h]

/-- With room and the right length, and with nothing pending or a kind that does not wait, the owner serves. -/
theorem State.request_served {k : RequestKind} {s : State} {st : Station} (tag : Byte) {p : List Byte} (hp : p.length ≤ 1100)
    (hroom : (s.ports.get st).hasRoom = true) (hlen : lengthOk k p = true)
    (hk : (s.ports.get st).pending = none ∨ k.servedWhilePending = true) :
    s.request k st tag p = .next ((heard s st).serve k st tag p).settle := by
  have hpend : (((heard s st).ports.get st).pending.isSome && !k.servedWhilePending) = false := by
    have e : ((heard s st).ports.get st).pending = (s.ports.get st).pending := by rw [heard_get]; rfl
    rw [e]
    obtain h | h := hk <;> simp [h]
  rw [State.request, State.telegramArrival_eq s st _ tag p hp, if_pos (by rw [heardPort_hasRoom]; exact hroom),
    State.judgeKind_code, State.judgeKnown, hlen, hpend, State.done_eq]
  simp

/-! ## The report of STATUS (R187) -/

/-- What the search over the recipe slots finds passes. -/
theorem Four.first_passes {α : Type} {p : α → Bool} {f : Four α} {i : Ix4} (h : f.first p = some i) : p (f.get i) = true := by
  simp only [Four.first] at h
  cases i <;> simp only [Four.get] <;> grind

theorem active_state {b : Store} {i : SlotNo} (h : b.active = some i) : (b.slots.get i).state = .active := by
  simpa using Four.first_passes (p := fun (x : Slot) => x.state == .active) h

theorem active_eq_none {b : Store} : b.active = none ↔ ∀ i, (b.slots.get i).state ≠ .active := by
  simp [Store.active, Four.first_eq_none]

/-- The station's own hold is that of the first record that has it in its hold set (R93). -/
theorem holdsFor_of_first {r : Ring} {st : Station} {i : Nat} {x : ScanRecord} (hx : r.records[i]? = some x)
    (hheld : x.holds.get st = true) (hfirst : ∀ (j : Nat) (y : ScanRecord), j < i → r.records[j]? = some y → y.holds.get st = false) :
    r.holdsFor st = some x := by
  obtain ⟨hlt, hget⟩ := List.getElem?_eq_some_iff.mp hx
  rw [Ring.holdsFor, List.find?_eq_some_iff_getElem]
  refine ⟨hheld, i, hlt, hget, fun j hj => ?_⟩
  simp [hfirst j _ hj (List.getElem?_eq_getElem (hj.trans hlt))]

/-- The snapshot taken once the telegram has arrived is that of the state it arrived in. -/
theorem statusReport_heard (s : State) (st : Station) : (heard s st).statusReport st = s.statusReport st := by
  have e : (heard s st).ports.get st = heardPort (s.ports.get st) := heard_get s st
  simp only [State.statusReport, e]
  rfl

/-- STATUS replies with the snapshot and then clears the station's REPLIES_DROPPED. -/
theorem serve_status_heard (s : State) (st : Station) (tag : Byte) :
    (heard s st).serve .status st tag [] = s.onPort st (fun p => { heardPort p with
      replies := p.replies ++ [⟨some .status, tag, .report (s.statusReport st)⟩], dropped := false }) := by
  have e : (heard s st).serve .status st tag [] = (heard s st).serveStatus st tag := rfl
  rw [e, State.serveStatus, statusReport_heard, ← answered_eq, answered, State.onPort_onPort]

end Sys2Proof.Machine

namespace Sys2Proof.Safety

open Sys2Proof Sys2Proof.Machine

theorem statusReplies : StatusReplies := by
  intro s st tag hroom
  have hreq : exec (.status st tag []) s = s.request .status st tag [] := rfl
  refine ⟨s.statusReport st, ?reply, rfl, rfl, rfl, rfl, rfl, rfl, rfl, rfl, rfl, rfl, rfl, ?held, rfl, ?pending, rfl, ?active, rfl,
    fun i h => active_state h, active_eq_none, ?unheld, ?hold⟩
  case reply =>
    rw [hreq, State.request_served tag (by simp) (Port.hasRoom_iff.mpr hroom) rfl (Or.inr rfl), serve_status_heard]
  case held => simp [State.statusReport, State.tachHeld]
  case pending => simp [State.statusReport, Option.isSome_iff_ne_none]
  case active =>
    intro i
    simp only [State.statusReport, Option.map_eq_some_iff, Prod.mk.injEq]
    exact ⟨fun ⟨j, hj, hi, _⟩ => hi ▸ hj, fun h => ⟨i, h, rfl, rfl⟩⟩
  case unheld => simp [State.statusReport, Ring.holdsFor, List.find?_eq_none]
  case hold =>
    intro i r n hr hheld hn hfirst
    simp [State.statusReport, holdsFor_of_first hr hheld hfirst, hn]

theorem readPointsReplies : ReadPointsReplies := by
  intro s st tag f0 f1 c0 c1 hr
  have hreq : exec (.readPoints st tag [f0, f1, c0, c1]) s = s.request .readPoints st tag [f0, f1, c0, c1] := rfl
  have hcount : u16At [f0, f1, c0, c1] 2 = c0.toNat + 256 * c1.toNat := rfl
  have hserve : (heard s st).serve .readPoints st tag [f0, f1, c0, c1] =
      (heard s st).serveReadPoints st tag [f0, f1, c0, c1] := rfl
  have hfirst : BitVec.ofNat 16 (u16At [f0, f1, c0, c1] 0) = f1 ++ f0 := by
    rw [show u16At [f0, f1, c0, c1] 0 = f0.toNat + 256 * f1.toNat from rfl, ofNat_bytes]
  intro count n
  rw [hreq, State.request_ready _ s st tag _ hr (by simp) rfl, hserve, State.serveReadPoints, hcount, hfirst]
  by_cases h0 : c0.toNat + 256 * c1.toNat = 0
  · rw [if_pos h0, if_pos (show count = 0 from h0), State.answer, ← answered_eq]
  · rw [if_neg h0, if_neg (show ¬count = 0 from h0), ← answered_eq]
    have hrange : ∀ x : BitVec 16, inPointRange (f1 ++ f0) (min 32 (c0.toNat + 256 * c1.toNat)) x =
        decide (0 ≤ (x - (f1 ++ f0)).toInt ∧ (x - (f1 ++ f0)).toInt < n) := fun x => by
      have hn : ((min 32 (c0.toNat + 256 * c1.toNat) : Nat) : Int) = n := by simp only [n, count]; split <;> omega
      rw [inPointRange, aheadBy, hn, Bool.decide_and]
    simp only [hrange]
    rfl

theorem readStandardizationReplies : ReadStandardizationReplies := by
  intro s st tag hr
  have hreq : exec (.readStandardization st tag []) s = s.request .readStandardization st tag [] := rfl
  have hserve : (heard s st).serve .readStandardization st tag [] =
      (heard s st).reply st .readStandardization tag (.standardization s.stdReport) := rfl
  rw [hreq, State.request_ready _ s st tag _ hr (by simp) rfl, hserve, ← answered_eq]
  rfl

/-- Settles O11: each of the three requests is served from the state it arrives in. -/
theorem readsReplyFromState : Obligations.ReadsReplyFromState :=
  ⟨statusReplies, readPointsReplies, readStandardizationReplies⟩

end Sys2Proof.Safety
end

section
/-! SUPPORT. The arrivals of R31, R32, R35, R36 and R37, and the obligation about them. -/

namespace Sys2Proof.Machine

open Sys2Proof Sys2Proof.Safety

/-! ## The start of a scan at the end of the APPROACH leg (R31, R32) -/

/-- With no set waiting there is nothing to adopt (R10). -/
theorem adopt_of_none {s : State} (h : s.conv.pendingSet = none) : s.adopt = s := by simp [State.adopt, h]

section

variable {s : State}

theorem scanReady_recipe (dir : ScanDir) (a : Bool) : (s.scanReady dir a).recipe = s.recipe := by
  have hstore : (s.scanReady dir a).store = s.store := by cases a <;> simp [State.scanReady, State.startRecord]
  simp [State.recipe, State.activeRecipe, hstore]

theorem startScan_head (dir : ScanDir) (a : Bool) : (s.startScan dir a).head = { s.head with
    state := .scanning dir.leg, scan := some (s.newScan dir), drvEn := true, drvDir := dir.towardB,
    drvSpd := s.traverseStep, encTimer := .running Config.encoderLoss } := by
  have hstore : (s.scanReady dir a).store = s.store := by cases a <;> simp [State.scanReady, State.startRecord]
  simp only [startScan_eq, State.onLeg, State.drive, State.newScan, State.setHead_head, toHead_head, scanReady_head,
    scanReady_recipe, State.traverseStep, State.activeRecipe, State.setHead_store, toHead_store, hstore]

variable (h : s.conv.pendingSet = none)

include h

theorem startScan_parts (dir : ScanDir) (a : Bool) :
    (s.startScan dir a).head = { s.head with
        state := .scanning dir.leg, scan := some (s.newScan dir), drvEn := true, drvDir := dir.towardB,
        drvSpd := s.traverseStep, encTimer := .running Config.encoderLoss }
      ∧ (s.startScan dir a).ring = { s.ring with
          records := s.ring.records.modify s.ring.pick (fun _ => s.freshRecord dir) }
      ∧ (s.startScan dir a).bins = emptyBins s.recipe.geometry.n
      ∧ (s.startScan dir a).edges = { s.edges with run := .clear }
      ∧ (s.startScan dir a).profile = if a then { s.profile with continuity := false } else s.profile := by
  have had := adopt_of_none h
  refine ⟨startScan_head dir a, by rw [startScan_ring, had]; rfl, ?bins, ?edges, ?profile⟩
  case bins =>
    have hbins : (s.scanReady dir a).bins = emptyBins s.recipe.geometry.n := by
      cases a <;> simp only [State.scanReady, had] <;> rfl
    rw [startScan_eq, State.onLeg, ← hbins]
    exact toHead_bins ..
  case edges =>
    simp only [startScan_eq, State.onLeg, drive_edges, toHead_edges, State.setHead_edges]
    cases a <;> simp [State.scanReady, had, State.startRecord, State.clearContinuity]
  case profile =>
    simp only [startScan_eq, State.onLeg, drive_profile, toHead_profile, State.setHead_profile]
    cases a <;> simp [State.scanReady, had, State.startRecord, State.clearContinuity]

end

/-! ## The arrival at P (R36, R37) -/

theorem arrivePoint_period {s : State} (h : s.conv.pendingSet = none) : s.arrivePoint.points.period = some
    { p := s.head.pointPos, length := s.recipe.motion.pointSamples, slots := 0, sums := ⟨.zero, .zero, .zero⟩, accepted := 0,
      epoch := s.conv.epoch, mdStart := s.mdMetres, linkGaps := false, tachHeld := s.tachHeld } := by
  have had := adopt_of_none (s := (s.driveOff.toHead .singlePoint).headNotice) (by simpa using h)
  simp only [State.arrivePoint, State.startPeriod, had, State.setPoints_points, headNotice_head, toHead_head, headNotice_conv,
    toHead_conv, driveOff_conv]
  simp [State.recipe, State.activeRecipe, State.mdMetres, State.tachHeld, State.driveOff]

/-! ## The arrival in PARKED (R35, R44) -/

/-- The head has come to PARKED and the decision is still to be taken. -/
def State.atPark (s : State) : State := (s.driveOff.toHead .parked).headNotice

theorem arriveParked_eq (s : State) : s.arriveParked = s.atPark.decideParked := rfl

section

variable (s : State)

@[simp] theorem atPark_head : s.atPark.head = { s.head with state := .parked, drvEn := false, drvSpd := 0, encTimer := .stopped } := by
  simp [State.atPark, State.driveOff]
@[simp] theorem atPark_std : s.atPark.std = s.std := by simp [State.atPark]
@[simp] theorem atPark_store : s.atPark.store = s.store := by simp [State.atPark]
@[simp] theorem atPark_pins : s.atPark.pins = s.pins := by simp [State.atPark]
@[simp] theorem atPark_brk : s.atPark.brk = s.brk := by simp [State.atPark]
@[simp] theorem atPark_ring : s.atPark.ring = s.ring := by simp [State.atPark]
@[simp] theorem atPark_recipe : s.atPark.recipe = s.recipe := by simp [State.recipe, State.activeRecipe]

end

/-- Every way in which a decision leaves a still head at park. -/
theorem stillParked (s : State) (g : Grant) : (s.atPark.stayParked g).settle.head =
      { s.head with state := .parked, drvEn := false, drvSpd := 0, encTimer := .stopped, grant := g }
    ∧ (s.atPark.stayParked g).settle.std = s.std ∧ (s.atPark.stayParked g).settle.ring = s.ring := by
  simp

/-! ## The arrivals at a count -/

section

variable {dir : CountDir} {s : State}

/-- The state at the count, before its arrival. -/
def State.afterCount (s : State) (dir : CountDir) : State := s.setHead (counted s.head dir)

@[simp] theorem afterCount_head (s : State) (dir : CountDir) : (s.afterCount dir).head = counted s.head dir := rfl
theorem counted_scan (h : Head) (dir : CountDir) : (counted h dir).scan = h.scan := rfl

theorem exec_count (dir : CountDir) (s : State) : exec (.encoderCount dir) s = .next (s.afterCount dir).arrival.settle :=
  exec_encoderCount dir s

theorem afterCount_recipe : (s.afterCount dir).recipe = s.recipe := rfl

variable (ht : moveTarget s = some (counted s.head dir).position.toNat)

include ht

theorem arrival_at_a (h : s.head.state = .scanning .approach) : (s.afterCount dir).arrival = (s.afterCount dir).startScan .fwd true := by
  have hst : (s.afterCount dir).head.state = .scanning .approach := h
  have hpos : (counted s.head dir).position.toNat = s.recipe.geometry.a := by
    simp only [moveTarget, h, Option.some.injEq] at ht; exact ht.symm
  simp only [State.arrival, hst]
  rw [if_pos (by exact hpos)]
  rfl

theorem arrival_at_point (h : s.head.state = .positioning) : (s.afterCount dir).arrival = (s.afterCount dir).arrivePoint := by
  have hst : (s.afterCount dir).head.state = .positioning := h
  have hpos : (counted s.head dir).position.toNat = s.head.pointPos := by
    simp only [moveTarget, h, Option.some.injEq] at ht; exact ht.symm
  simp only [State.arrival, hst]
  rw [if_pos (by exact hpos)]

theorem position_at_park (h : s.head.state = .returning) : (counted s.head dir).position = 0 := by
  simp only [moveTarget, h, Option.some.injEq] at ht
  exact BitVec.eq_of_toNat_eq (by rw [← ht]; rfl)

theorem arrival_at_park (h : s.head.state = .returning) : (s.afterCount dir).arrival = (s.afterCount dir).atPark.decideParked := by
  have hst : (s.afterCount dir).head.state = .returning := h
  simp only [State.arrival, hst]
  rw [if_pos (by exact position_at_park ht h)]
  rfl

end

end Sys2Proof.Machine

namespace Sys2Proof.Safety

open Sys2Proof Sys2Proof.Machine

/-- Settles O13: the three arrivals, each from the state at the count. -/
theorem movesArrive : Obligations.MovesArrive := by
  intro dir s ht
  refine ⟨fun h hset => ?approach, fun h hset => ?point, fun h => ?park⟩
  case approach =>
    obtain ⟨hhead, hring, hbins, hedges, hprofile⟩ := startScan_parts (s := s.afterCount dir) hset .fwd true
    refine ⟨_, by rw [exec_count, arrival_at_a ht h], ?_⟩
    simp only [settle_head, settle_ring, settle_edges, settle_profile, hhead, hring, hedges, hprofile]
    exact ⟨rfl, rfl, trivial, rfl, rfl, rfl, hbins, rfl, rfl⟩
  case point =>
    refine ⟨_, by rw [exec_count, arrival_at_point ht h], ?_⟩
    simp only [settle_head, settle_points, settle_ring, arrivePoint_head, arrivePoint_ring, arrivePoint_points_ring,
      arrivePoint_points_next, arrivePoint_period (s := s.afterCount dir) hset]
    exact ⟨trivial, trivial, trivial, trivial, rfl, rfl, rfl, rfl, rfl⟩
  case park =>
    have hexec : exec (.encoderCount dir) s = .next (s.afterCount dir).atPark.decideParked.settle := by
      rw [exec_count, arrival_at_park ht h]
    have hpos := position_at_park ht h
    have hslots : (s.afterCount dir).atPark.head.slots = s.head.slots := by rw [atPark_head]; rfl
    have hp : (s.afterCount dir).atPark.head.state = .parked := by rw [atPark_head]
    have hposition : (s.afterCount dir).atPark.head.position.toNat = 0 := by rw [atPark_head]; exact congrArg BitVec.toNat hpos
    have hno : NoHold s → NoHold (s.afterCount dir).atPark := fun hn => by rw [NoHold, atPark_brk]; exact hn
    intro still parked isPoint
    refine ⟨fun hn => ?hold, fun hn => ⟨fun low hlow => ?claim, fun hpk => ⟨fun hstd hset => ?std, fun hdue hns hrdy => ⟨?toPoint, ?scan⟩⟩⟩⟩
    case hold =>
      have hhold : (s.afterCount dir).atPark.holdPresent = true :=
        holdPresent_iff.mpr fun h => hn (by rw [NoHold, atPark_brk] at h; exact h)
      refine ⟨_, by rw [hexec, decideParked_of_hold hhold], ?_⟩
      obtain ⟨hh, hs, hr⟩ := stillParked (s.afterCount dir) .hold
      simp only [parked, still, hh, hs, hr]
      exact ⟨trivial, trivial, ⟨trivial, trivial, trivial, rfl, rfl⟩, rfl⟩
    case claim =>
      refine ⟨_, by rw [hexec, decideParked_of_park (winner_of_park (hno hn) (by rwa [hslots]))], ?_⟩
      obtain ⟨hh, hs, hr⟩ := stillParked (s.afterCount dir) (.park low)
      simp only [parked, still, hh, hs, hr]
      exact ⟨trivial, trivial, ⟨trivial, trivial, trivial, rfl, rfl⟩, rfl⟩
    case std =>
      have hw : (s.afterCount dir).atPark.winner = .standardize :=
        winner_of_std (hno hn) (by rwa [hslots]) (by rw [hslots, atPark_std]; exact hstd)
      have hstore : (s.afterCount dir).atPark.store.machineSet = true := by rw [atPark_store]; exact hset
      refine ⟨_, by rw [hexec, decideParked_of_std hw, startStd_of_set hstore], ?_⟩
      simp only [still, settle_head, settle_std, settle_ring, standardizing_head, standardizing_std, standardizing_ring, atPark_head,
        atPark_std, atPark_ring, atPark_store]
      refine ⟨trivial, trivial, ⟨trivial, trivial, trivial, rfl, rfl⟩, ?_⟩
      rw [if_pos (by exact hset)]
      rfl
    case toPoint =>
      have hlow : LowRanks (s.afterCount dir).atPark :=
        ⟨hno hn, by rwa [hslots], by rw [atPark_std]; exact hdue, by rwa [hslots]⟩
      intro low hl p hne
      have hw := winner_of_point hlow (low := low) (by rw [hslots]; exact hl)
      rw [hslots, atPark_recipe, afterCount_recipe] at hw
      refine ⟨_, by rw [hexec, decideParked_of_point hw, beginPositioning_of_away hp (by rw [atPark_pins]; exact hrdy)
        (by rw [hposition]; exact hne.symm)], ?_⟩
      rw [settle_head, settle_ring, positioning_head, positioning_ring, atPark_ring,
        directionTo_of_ne (by rw [hposition]; exact hne.symm), hposition]
      exact ⟨rfl, rfl, rfl, rfl, by simpa [p] using Nat.pos_of_ne_zero hne, rfl⟩
    case scan =>
      have hlow : LowRanks (s.afterCount dir).atPark :=
        ⟨hno hn, by rwa [hslots], by rw [atPark_std]; exact hdue, by rwa [hslots]⟩
      intro hpt hactive hrun ha
      have hw := winner_of_scan hlow (by rwa [hslots]) (by rw [atPark_store, atPark_brk]; exact ⟨hactive, hrun⟩)
      refine ⟨_, by rw [hexec, decideParked_of_scan hw, beginApproach_of_away hp (by rw [atPark_pins]; exact hrdy)
        (by rw [hposition, atPark_recipe]; exact ha.symm)], ?_⟩
      rw [settle_head, settle_ring, approaching_head, approaching_ring, atPark_ring,
        directionTo_of_ne (by rw [hposition, atPark_recipe]; exact ha.symm), hposition, atPark_recipe]
      exact ⟨rfl, rfl, rfl, decide_eq_true (Nat.pos_of_ne_zero ha), by rw [atPark_head]; rfl, rfl⟩

end Sys2Proof.Safety
end

section
/-! SUPPORT. What an activation tells the stations and what the IDLE break state makes of it (R120, R125, R157, R171), SELECT
by the state of its slot (R167), and the obligation about it. -/

namespace Sys2Proof.Machine

open Sys2Proof Sys2Proof.Safety

/-! ## The LIMIT notice of an activation (R157) -/

/-- The last of the numbers below n that pass. -/
theorem getLast?_filter_range {p : Nat → Bool} {n j : Nat} (hj : j < n) (hp : p j = true) (hmax : ∀ k, j < k → k < n → p k = false) :
    ((List.range n).filter p).getLast? = some j := by
  induction n with
  | zero => omega
  | succ n ih =>
    rw [List.range_succ, List.filter_append]
    by_cases hjn : j = n
    · simp [← hjn, hp]
    · have hn : p n = false := hmax n (by omega) (by omega)
      simp only [hn, List.filter_cons, List.filter_nil, Bool.false_eq_true, if_false, List.append_nil]
      exact ih (by omega) fun k hk hkn => hmax k hk (by omega)

theorem lastChanged_reset {l : List LimitState} {j : Nat} {y : LimitState} (hl : l.length = 16) (hy : l[j]? = some y)
    (hne : y ≠ .clear) (hmax : ∀ k z, j < k → l[k]? = some z → z = .clear) :
    lastChanged l (Limits.reset).states = some j := by
  obtain ⟨hj, -⟩ := List.getElem?_eq_some_iff.mp hy
  have hreset : ∀ k < 16, (Limits.reset).states[k]? = some .clear := by decide
  refine getLast?_filter_range hj (by simp [hy, hreset j (by omega), hne]) fun k hk hkn => ?_
  have hz := List.getElem?_eq_getElem hkn
  simp [hz, hreset k (by omega), hmax k _ hk hz]

/-- The LIMIT notice stands at every port that takes it once the slot is ACTIVE. -/
theorem activated_bears_limit {s : State} (k : SlotNo) {j : Nat} (h : lastChanged s.limits.states (Limits.reset).states = some j)
    {st : Station} (ht : TakesNotice (s.ports.get st) (.limit (List.replicate 16 .clear) j false s.ring.newest)) :
    ((s.activated k).ports.get st).Bears (.limit (List.replicate 16 .clear) j false s.ring.newest) := by
  have e : ∀ v : State, v.limits = s.limits → v.ring = s.ring →
      v.clearLimits = (v.setLimits .reset).offer (.limit (List.replicate 16 .clear) j false s.ring.newest) := fun v hv hr => by
    have hlast : lastChanged v.limits.states (Limits.reset).states = some j := by rw [hv]; exact h
    simp only [State.clearLimits, State.setLimits_limits, State.setLimits_ring, hlast, hr]
    rfl
  rw [State.activated, e _ (by simp) (by simp)]
  exact bears_offer (by simpa using ht)

/-! ## The notices and the replies of an activation -/

section

variable (s : State) (k : SlotNo)

/-- The break state machine has judged the re-judging of a slot's activation (R120). -/
def State.breakJudged : State :=
  (s.handed k).judgeActivationWith (State.breakEntryWith id false)
    (newTrips s.brk.det (s.handed k).brk.det) (newClears s.brk.det (s.handed k).brk.det)

theorem activate_breakJudged : s.activate k = (((s.breakJudged k).recipeNotice .activated).redecideIfParked).reaim :=
  activateWith_handed _ k s

theorem breakJudged_after : After (s.handed k) (s.breakJudged k) :=
  judgeActivationWith_after _ (fun v => breakEntryWith_id_after v false) _ _

@[simp] theorem breakJudged_store : (s.breakJudged k).store = s.store.activate k := by
  rw [State.breakJudged, judgeActivationWith_store _ _ _ (fun v => by simp), handed_store]

theorem activate_store : (s.activate k).store = s.store.activate k := by
  rw [activate_breakJudged]; simp [State.recipeNotice]

theorem handed_ports : (s.handed k).ports = (s.activated k).ports := rfl

theorem activated_ports_kept (st : Station) : ((s.activated k).ports.get st).present = (s.ports.get st).present
    ∧ ((s.activated k).ports.get st).sub = (s.ports.get st).sub
    ∧ ((s.activated k).ports.get st).replies = (s.ports.get st).replies
    ∧ ((s.activated k).ports.get st).pending = (s.ports.get st).pending := by
  have e : ∀ v : State, v.ports = s.ports → ∀ w : State, w = v.clearLimits →
      (w.ports.get st).present = (s.ports.get st).present ∧ (w.ports.get st).sub = (s.ports.get st).sub
        ∧ (w.ports.get st).replies = (s.ports.get st).replies ∧ (w.ports.get st).pending = (s.ports.get st).pending := by
    intro v hv w hw
    subst hw
    obtain e | ⟨i, -, e⟩ := clearLimits_eq v
    · rw [e, State.setLimits_ports, hv]; exact ⟨rfl, rfl, rfl, rfl⟩
    · rw [e, State.offer_get, State.setLimits_ports, hv]
      obtain ⟨hr, hp, -, hpres, hsub, -⟩ := Port.offer_kept (.limit (Limits.reset).states i false v.ring.newest) (s.ports.get st)
      exact ⟨hpres, hsub, hr, hp⟩
  exact e _ (by simp) _ rfl

/-- Who takes a notice is settled by presence and subscription. -/
theorem TakesNotice.of_eq {p q : Port} {n : Notice} (h : TakesNotice p n) (hp : q.present = p.present) (hs : q.sub = p.sub) :
    TakesNotice q n := by
  rw [TakesNotice, hp, hs]; exact h

theorem breakJudged_port (st : Station) : ((s.breakJudged k).ports.get st).present = (s.ports.get st).present
    ∧ ((s.breakJudged k).ports.get st).sub = (s.ports.get st).sub := by
  have h := (breakJudged_after s k).ports st
  obtain ⟨hp, hs, -, -⟩ := activated_ports_kept s k st
  exact ⟨h.present.trans hp, h.sub.trans hs⟩

/-- The RECIPE notice of an activation stands at every port that takes it (R171). -/
theorem activate_bears_recipe {st : Station} (ht : TakesNotice (s.ports.get st) (recipeNews (s.activate k) .activated)) :
    ((s.activate k).ports.get st).Bears (recipeNews (s.activate k) .activated) := by
  obtain ⟨hp, hs⟩ := breakJudged_port s k st
  have hnews : recipeNews (s.activate k) .activated = recipeNews (s.breakJudged k) .activated := by
    simp only [recipeNews, activate_store, breakJudged_store]
  rw [hnews] at ht ⊢
  have hb : (((s.breakJudged k).recipeNotice .activated).ports.get st).Bears (recipeNews (s.breakJudged k) .activated) :=
    bears_offer (TakesNotice.of_eq ht hp hs)
  have hafter := ((redecideIfParked_after ((s.breakJudged k).recipeNotice .activated)).trans (reaim_after _)).ports st
  rw [activate_breakJudged]
  exact hafter.bears (n := recipeNews _ _) lasting_recipe hb

theorem activate_notified_recipe : Notified s (s.activate k).settle (recipeNews (s.activate k) .activated) := by
  intro st ht
  rw [State.settle_get]
  exact (activate_bears_recipe s k ht).choose.entry

/-- The LIMIT notice of an activation that finds an entry not CLEAR (R157). -/
theorem activate_notified_limit {s : State} (k : SlotNo) {j : Nat}
    (h : lastChanged s.limits.states (Limits.reset).states = some j) :
    Notified s (s.activate k).settle (.limit (List.replicate 16 .clear) j false s.ring.newest) := by
  intro st ht
  have hb := ((breakJudged_after s k).ports st).bears (n := .limit _ _ _ _) lasting_limit (activated_bears_limit k h ht)
  have hr : (((s.breakJudged k).recipeNotice .activated).ports.get st).Bears (.limit (List.replicate 16 .clear) j false s.ring.newest) := by
    rw [State.recipeNotice, State.offer_get]
    exact hb.offer (by simp [Notice.kind])
  have hafter := ((redecideIfParked_after ((s.breakJudged k).recipeNotice .activated)).trans (reaim_after _)).ports st
  rw [State.settle_get, activate_breakJudged]
  exact (hafter.bears (n := .limit _ _ _ _) lasting_limit hr).choose.entry

/-- An activation leaves a station that waits for nothing waiting for nothing, and brings it no reply. -/
theorem activate_unread {st : Station} (h : (s.ports.get st).pending = none) :
    ((s.activate k).ports.get st).pending = none ∧ ((s.activate k).ports.get st).replies = (s.ports.get st).replies := by
  obtain ⟨-, -, hreplies, hpend⟩ := activated_ports_kept s k st
  obtain ⟨hp, hr⟩ := ((breakJudged_after s k).ports st).replies (hpend.trans h)
  have hoffer := Port.offer_kept (recipeNews (s.breakJudged k) .activated) ((s.breakJudged k).ports.get st)
  have hafter := ((redecideIfParked_after ((s.breakJudged k).recipeNotice .activated)).trans (reaim_after _)).ports st
  have hget : ((s.breakJudged k).recipeNotice .activated).ports.get st
      = Port.offer (recipeNews (s.breakJudged k) .activated) ((s.breakJudged k).ports.get st) := State.offer_get ..
  obtain ⟨hn, he⟩ := hafter.replies (by rw [hget]; exact hoffer.2.1.trans hp)
  rw [activate_breakJudged]
  exact ⟨hn, by rw [he, hget, hoffer.1, hr]; exact hreplies⟩

theorem activate_replies {st : Station} (h : (s.ports.get st).pending = none) :
    ((s.activate k).settle.ports.get st).replies = (s.ports.get st).replies := by
  rw [State.settle_get, (Port.choose_kept _).1]
  exact (activate_unread s k h).2

/-! ## The first activation (R120, R125) -/

theorem activate_brk : (s.activate k).brk = (s.breakJudged k).brk := by
  rw [activate_breakJudged]; simp [State.recipeNotice]

variable {s k}

theorem breakJudged_of_quiet (hidle : s.brk.state = .idle) (hq : QuietUnder (s.store.slots.get k).recipe s) :
    s.breakJudged k = (s.handed k).recoveringEntry := by
  have hstate : (s.handed k).brk.state = .idle := by simpa [State.handed] using hidle
  simp only [State.breakJudged, State.judgeActivationWith, hstate]
  rw [if_pos (handed_allClear hq)]

theorem breakJudged_of_not_quiet (hidle : s.brk.state = .idle) (hq : ¬QuietUnder (s.store.slots.get k).recipe s) :
    s.breakJudged k = (s.handed k).breakEntryWith id false := by
  have hstate : (s.handed k).brk.state = .idle := by simpa [State.handed] using hidle
  have hnot : ¬(s.handed k).brk.allClear = true := fun h => hq fun d => by rw [← handed_det]; exact allClear_iff.mp h d
  simp only [State.breakJudged, State.judgeActivationWith, hstate]
  rw [if_neg hnot]

/-- The first activation with every detector CLEAR enters RECOVERING. -/
theorem activate_recovers (hidle : s.brk.state = .idle) (hq : QuietUnder (s.store.slots.get k).recipe s) :
    (s.activate k).brk.state = .recovering ∧ (s.activate k).brk.recoveryCount = 0 ∧ (s.activate k).brk.count = s.brk.count
      ∧ (s.head.state ≠ .parked → (s.activate k).std.stdDue = true) := by
  have hbrk : (s.activate k).brk = (s.handed k).brk.recovering := by
    rw [activate_brk, breakJudged_of_quiet hidle hq, recoveringEntry_eq, redecideIfParked_brk, recoverRest_brk]; rfl
  rw [hbrk]
  refine ⟨rfl, rfl, by simp [Supervisor.recovering, State.handed], fun hp => ?_⟩
  have hh : (s.handed k).head.state ≠ .parked := by rw [handed_head]; exact hp
  obtain ⟨hstd, hhead, -⟩ := recoveringEntry_still hh
  rw [settle_head] at hhead
  rw [settle_std] at hstd
  rw [activate_breakJudged, breakJudged_of_quiet hidle hq, reaim_std,
    redecideIfParked_of_ne (by change (s.handed k).recoveringEntry.head.state ≠ _; rw [hhead]; exact hh)]
  change (s.handed k).recoveringEntry.std.stdDue = true
  rw [hstd]

/-- The first activation with a detector TRIPPED enters BREAK. -/
theorem activate_breaks (hidle : s.brk.state = .idle) (hq : ¬QuietUnder (s.store.slots.get k).recipe s) :
    (s.activate k).brk = (s.handed k).brk.broken false := by
  have hnot : ¬((s.handed k).brk.broken false).allClear = true := fun h =>
    hq fun d => by rw [← handed_det]; exact allClear_iff.mp h d
  have hbrk : (((s.handed k).setBrk ((s.handed k).brk.broken false)).claimTakesEffectWith id).breakTail.brk
      = (s.handed k).brk.broken false := by
    rw [breakTail_brk, claimTakesEffectWith_brk id (fun _ => rfl), State.setBrk_brk]
  rw [activate_brk, breakJudged_of_not_quiet hidle hq, breakEntryWith_tail, State.judgeThreading, hbrk,
    if_neg (fun h => hnot h.2), hbrk]

end

/-! ## SELECT (R167) -/

/-- The withdrawal of a waiting selection. -/
theorem withdraw_eq (x : Slot) : x.withdraw = if x.state = .pending then { x with state := .valid } else x := by
  cases h : x.state <;> simp [Slot.withdraw, h]

theorem withdraw_slots (b : Store) :
    b.withdraw = { b with slots := b.slots.map (fun x => if x.state = .pending then { x with state := .valid } else x) } := by
  rw [Store.withdraw, show Slot.withdraw = fun x => if x.state = .pending then { x with state := .valid } else x from
    funext withdraw_eq]

theorem choose_slots {b : Store} {i : SlotNo} (h : (b.slots.get i).state = .valid) : b.choose i = { b with
    slots := (b.slots.map (fun x => if x.state = .pending then { x with state := .valid } else x)).set i
      { (b.slots.get i) with state := .pending } } := by
  simp [Store.choose, Store.onSlot, withdraw_slots, h]

theorem choose_pending (b : Store) (i : SlotNo) : (b.choose i).pendingSlot = some i := by
  have hget : ∀ j, ((b.choose i).slots.get j).state = .pending ↔ j = i := fun j => by
    by_cases hj : j = i
    · subst hj; simp [Store.choose, Store.onSlot]
    · simp only [Store.choose, Store.onSlot, withdraw_slots, Four.get_set, if_neg hj, Four.get_map]
      split
      · simp [hj]
      · next hn => simp [hj, hn]
  cases h : (b.choose i).pendingSlot with
  | none => have := (Four.first_eq_none _ _).mp h i; simp [hget] at this
  | some j => have := Four.first_some h; simp [hget] at this; rw [this]

theorem pendingSlot_isSome {b : Store} : b.pendingSlot.isSome = true ↔ ∃ j, (b.slots.get j).state = .pending := by
  rw [Option.isSome_iff_ne_none, ne_eq, Store.pendingSlot, Four.first_eq_none]
  simp

/-- An activation from the store in which the slot was chosen is one from the store before. -/
theorem Activated.of_choose {s v u : State} {i : SlotNo} (hv : v.store = s.store.choose i) (hx : (s.store.slots.get i).state = .valid)
    (h : Activated v u i) : Activated s u i := by
  obtain ⟨hset, hm, hi, hj, hl, hlay⟩ := h
  have hget : ∀ j, v.store.slots.get j = if j = i then { (s.store.slots.get i) with state := .pending } else
      if (s.store.slots.get j).state = .pending then { (s.store.slots.get j) with state := .valid } else s.store.slots.get j := fun j => by
    rw [hv, choose_slots hx, Four.get_set, Four.get_map]
  refine ⟨by rw [hset, hv]; rfl, by rw [hm, hv]; rfl, by rw [hi, hget, if_pos rfl], fun j hne => ?_, hl,
    by rw [hlay, hget, if_pos rfl]⟩
  rw [hj j hne, hget, if_neg hne]
  by_cases hp : (s.store.slots.get j).state = .pending
  · simp [hp]
  · simp [hp]

/-- The state in which a SELECT with no scan in progress activates its slot. -/
def State.chosen (s : State) (st : Station) (tag : Byte) (i : SlotNo) : State :=
  (answered s st .select tag (.select .immediate)).setStore (s.store.choose i)

/-- Whoever takes a notice before the request takes it once the reply is queued. -/
theorem takes_chosen {s : State} {st j : Station} (tag : Byte) (i : SlotNo) {n : Notice} (h : TakesNotice (s.ports.get j) n) :
    TakesNotice ((s.chosen st tag i).ports.get j) n := by
  obtain ⟨hp, hmask, hadm⟩ := h
  rw [State.chosen, State.setStore_ports, answered]
  by_cases hj : j = st
  · subst hj; rw [State.onPort_get]; exact ⟨rfl, hmask, hadm⟩
  · rw [State.onPort_get_ne _ _ hj]; exact ⟨hp, hmask, hadm⟩

theorem exec_select {s : State} {st : Station} (tag b : Byte) (hr : Ready s st) :
    exec (.select st tag [b]) s = .next ((heard s st).serveSelect st tag [b]).settle := by
  have hreq : exec (.select st tag [b]) s = s.request .select st tag [b] := rfl
  rw [hreq, State.request_ready _ s st tag _ hr (by simp) rfl]
  rfl

theorem serveSelect_of_none {s : State} (st : Station) (tag b : Byte) (h : ix4? b.toNat = none) :
    s.serveSelect st tag [b] = s.answer st .select tag .badField := by
  have e : u8At [b] 0 = b.toNat := rfl
  simp [State.serveSelect, e, h]

theorem serveSelect_of_some {s : State} (st : Station) (tag b : Byte) {i : SlotNo} (h : ix4? b.toNat = some i) :
    s.serveSelect st tag [b] = s.selectSlot st tag i := by
  have e : u8At [b] 0 = b.toNat := rfl
  simp [State.serveSelect, e, h]

end Sys2Proof.Machine

namespace Sys2Proof.Safety

open Sys2Proof Sys2Proof.Machine

/-- A valid slot and no scan in progress: the slot activates at once. -/
theorem selectActivates {s : State} {st : Station} (tag : Byte) {i : SlotNo}
    (hx : (s.store.slots.get i).state = .valid) (hscan : s.head.scan = none) :
    (heard s st).selectSlot st tag i = (s.chosen st tag i).activate i := by
  have hp : (s.chosen st tag i).store.pendingSlot = some i := choose_pending _ i
  have hstate : ((heard s st).store.slots.get i).state = .valid := hx
  simp only [State.selectSlot, hstate]
  rw [if_neg (by rw [heard_head, hscan]; simp), ← activatePending_of_some hp]
  congr 1
  rw [State.chosen, answered_eq]
  rfl

/-- Settles O46: SELECT by the state of its slot; an immediate activation with its notices and the first activation. -/
theorem selectBySlotState : Obligations.SelectBySlotState := by
  intro s st tag b hr o back told
  have ho : o = .next ((heard s st).serveSelect st tag [b]).settle := exec_select tag b hr
  refine ⟨fun h => ?_, fun i hi => ?_⟩
  · rw [ho, serveSelect_of_none _ _ _ (ix4?_of_lt h), heard_answer]
  have hs : o = .next ((heard s st).selectSlot st tag i).settle := by rw [ho, serveSelect_of_some _ _ _ hi]
  have hget : (heard s st).store.slots.get i = s.store.slots.get i := rfl
  intro x
  refine ⟨fun h => ?unready, fun h => ?pending, fun h hp => ?active, fun h hp => ?withdrawn, fun h hscan => ?waits,
    fun h hscan => ?activates⟩
  case unready =>
    rw [hs]
    obtain h | h := h <;> simp only [State.selectSlot, hget, show (s.store.slots.get i).state = _ from h] <;> rw [heard_answer]
  case pending =>
    rw [hs]
    simp only [State.selectSlot, hget, show (s.store.slots.get i).state = _ from h]
    rw [State.selectReply, ← answered_eq]
  case active =>
    have hnone : ¬(heard s st).store.pendingSlot.isSome = true := by
      rw [pendingSlot_isSome]; exact fun ⟨j, hj⟩ => hp j hj
    rw [hs]
    simp only [State.selectSlot, hget, show (s.store.slots.get i).state = _ from h]
    rw [if_neg hnone, State.selectReply, ← answered_eq]
  case withdrawn =>
    have hsome : (heard s st).store.pendingSlot.isSome = true := pendingSlot_isSome.mpr hp
    rw [hs]
    simp only [State.selectSlot, hget, show (s.store.slots.get i).state = _ from h]
    rw [if_pos hsome, heard_store, withdraw_slots, answered_eq]
    rfl
  case waits =>
    rw [hs]
    simp only [State.selectSlot, hget, show (s.store.slots.get i).state = _ from h]
    rw [if_pos (by exact hscan), heard_store, choose_slots h, answered_eq]
    rfl
  case activates =>
    rw [hs, selectActivates tag h hscan]
    have hreplies : ((s.chosen st tag i).ports.get st).replies
        = (s.ports.get st).replies ++ [⟨some .select, tag, .select .immediate⟩] := by
      rw [State.chosen, State.setStore_ports, answered, State.onPort_get]
    have hpend : ((s.chosen st tag i).ports.get st).pending = none := by
      rw [State.chosen, State.setStore_ports, answered, State.onPort_get]; exact hr.2
    have hget' : ∀ j, ((s.chosen st tag i).store.slots.get j).recipe = (s.store.slots.get j).recipe := fun j => by
      rw [State.chosen, State.setStore_store, choose_slots h, Four.get_set, Four.get_map]
      split
      · next hj => rw [hj]
      · split <;> rfl
    have hquiet : QuietUnder ((s.chosen st tag i).store.slots.get i).recipe (s.chosen st tag i) ↔ QuietUnder x.recipe s := by
      rw [hget']; rfl
    refine ⟨_, rfl, ?act, ?news, fun j y hl hy hne hmax => ?limit, ?reply, fun hidle hq => ?recovers, fun hidle hq => ?breaks⟩
    case act =>
      have hact := activated_activate (s := s.chosen st tag i) i
      exact Activated.of_choose rfl h (activated_of_same hact rfl (settle_store _) (settle_limits _) (by rw [settle_profile]))
    case news =>
      have hnews := activate_notified_recipe (s.chosen st tag i) i
      exact fun j hj => hnews j (takes_chosen tag i hj)
    case limit =>
      have hnews := activate_notified_limit (s := s.chosen st tag i) i (lastChanged_reset hl hy hne hmax)
      exact fun k hk => hnews k (takes_chosen tag i hk)
    case reply => rw [activate_replies _ i hpend, hreplies]
    case recovers =>
      obtain ⟨hb, hcount, hn, hstd⟩ := activate_recovers (s := s.chosen st tag i) hidle (hquiet.mpr hq)
      rw [settle_brk, settle_std]
      exact ⟨hb, hcount, hn, hstd⟩
    case breaks =>
      have hb := activate_breaks (s := s.chosen st tag i) hidle (fun hqc => hq (hquiet.mp hqc))
      rw [settle_brk, hb]
      refine ⟨rfl, rfl, ?_, rfl, fun d => ?_⟩
      · simp [Supervisor.broken, State.handed, State.chosen]; rfl
      · have e : ((s.chosen st tag i).handed i).brk.tripped.get d = (((s.chosen st tag i).handed i).brk.det.get d).tripped := by
          cases d <;> rfl
        change ((s.chosen st tag i).handed i).brk.tripped.get d = _
        rw [e, handed_det, hget']
        rfl

end Sys2Proof.Safety
end

section
/-! SUPPORT. MACHINE WRITE (R160, R161); a RECIPE WRITE too long for the port (R177); the obligations about them. -/

namespace Sys2Proof.Machine

open Sys2Proof Sys2Proof.Safety

/-! ## The machine body (12.2) -/

theorem polarityOf?_of_le {n : Nat} (h : n ≤ 1) : polarityOf? n = some (if n = 1 then .low else .high) := by
  interval_cases n <;> rfl

theorem polarityOf?_of_lt {n : Nat} (h : 1 < n) : polarityOf? n = none := by
  obtain ⟨m, rfl⟩ : ∃ m, n = m + 2 := ⟨n - 2, by omega⟩
  rfl

/-- A body is read when each of its polarities is a listed code, and only then. -/
theorem machineOf?_eq (p : List Byte) : machineOf? p =
    if b8 p 24 ≤ 1 ∧ b8 p 25 ≤ 1 ∧ b8 p 26 ≤ 1 ∧ b8 p 27 ≤ 1 then some (machineAt p) else none := by
  have hpol : ∀ i, (b8 p i ≤ 1 ∧ polarityOf? (u8At p i) = some (if b8 p i = 1 then .low else .high))
      ∨ (¬b8 p i ≤ 1 ∧ polarityOf? (u8At p i) = none) := fun i => by
    by_cases h : b8 p i ≤ 1
    · exact Or.inl ⟨h, polarityOf?_of_le h⟩
    · exact Or.inr ⟨h, polarityOf?_of_lt (by simpa [b8, u8At] using h)⟩
  simp only [machineOf?]
  obtain ⟨h0, e0⟩ | ⟨h0, e0⟩ := hpol 24
  · obtain ⟨h1, e1⟩ | ⟨h1, e1⟩ := hpol 25
    · obtain ⟨h2, e2⟩ | ⟨h2, e2⟩ := hpol 26
      · obtain ⟨h3, e3⟩ | ⟨h3, e3⟩ := hpol 27
        · simp only [e0, e1, e2, e3]
          rw [if_pos (show b8 p 24 ≤ 1 ∧ b8 p 25 ≤ 1 ∧ b8 p 26 ≤ 1 ∧ b8 p 27 ≤ 1 from ⟨h0, h1, h2, h3⟩)]
          rfl
        · simp [e3, h3]
      · simp [e2, h2]
    · simp [e1, h1]
  · simp [e0, h0]

/-! ## MACHINE WRITE (R160, R161) -/

theorem clamped_eq (m : MachineRecord) : m.clamped = machineInRange m := rfl

theorem stdSamplesListed_iff {n : Nat} : stdSamplesListed n = true ↔ n ∈ [64, 128, 256, 512, 1024] := by
  simp [stdSamplesListed, or_assoc]

theorem Four.any_get {α : Type} {f : Four α} {p : α → Bool} : f.any p = true ↔ ∃ j, p (f.get j) = true := by
  simp only [← Four.get_map]
  exact Four.any_iff_get (f.map p)

theorem SlotState.locked_iff {x : SlotState} : x.locked = true ↔ x = .active ∨ x = .pending := by
  cases x <;> simp [SlotState.locked]

theorem frameTooShort_iff {s : State} {len : Nat} : s.store.frameTooShort len = true ↔ frameBelowB s len := by
  rw [Store.frameTooShort, Four.any_get]
  simp [frameBelowB, SlotState.locked_iff]

theorem admitsMachineWrite_iff {h : HeadState} : h.admitsMachineWrite = true ↔ h = .parked ∨ h = .homing ∨ h = .fault := by
  cases h <;> simp [HeadState.admitsMachineWrite]

theorem invalidate_eq (x : Slot) :
    x.invalidate = if x.state = .editing ∨ x.state = .valid then { x with state := .editing } else x := by
  cases h : x.state <;> simp [Slot.invalidate, h]

/-- A changed polarity turns the level and restarts its age; an unchanged one leaves it (R161). -/
theorem repolarize_eq (a b : Polarity) (u : DetectorUnit) :
    u.repolarize (a != b) = if a = b then u else { u with asserted := !u.asserted, age := 0 } := by
  by_cases h : a = b
  · simp [DetectorUnit.repolarize, h]
  · simp [DetectorUnit.repolarize, h, DetectorUnit.relevel]

/-- The four detectors under a change of polarities. -/
theorem repolarize_zip (d : PerDetector DetectorUnit) (a b : PerDetector Polarity) :
    d.zip DetectorUnit.repolarize (a.zip (fun x y => x != y) b) =
      let flip (x y : Polarity) (u : DetectorUnit) : DetectorUnit :=
        if x = y then u else { u with asserted := !u.asserted, age := 0 }
      ⟨flip a.wet b.wet d.wet, flip a.press b.press d.press, flip a.dry b.dry d.dry, flip a.reel b.reel d.reel⟩ := by
  simp only [PerDetector.zip, repolarize_eq]

/-- The new values handed to the blocks, from the speed unit as the store has it (R161). -/
theorem handMachine_eq (s : State) (old : MachineRecord) : s.handMachine old =
    let now := atSpeedNow s.store s.speed.speed
    { s with
      speed := { s.speed with increment := s.store.machine.tachIncrement, atSpeed := now }
      absent := if s.speed.atSpeed = true ∧ now = false then ⟨false, 0, 0, false⟩ else s.absent
      hole := if s.speed.atSpeed = true ∧ now = false then { s.hole with run := 0, marker := false } else s.hole
      brk := { s.brk with det := (
        s.brk.det.zip DetectorUnit.repolarize (old.polarity.zip (fun a b => a != b) s.store.machine.polarity)) } } := by
  simp only [State.handMachine, rejudgeAtSpeed_eq]
  rfl

theorem exec_machineWrite {s : State} {st : Station} (tag : Byte) {p : List Byte} (hr : Ready s st) (hp : p.length = 28) :
    exec (.machineWrite st tag p) s = .next ((heard s st).serveMachineWrite st tag p).settle := by
  have hreq : exec (.machineWrite st tag p) s = s.request .machineWrite st tag p := rfl
  rw [hreq, State.request_ready _ s st tag _ hr (by omega) (by simp [lengthOk, hp])]
  rfl

theorem heard_machineReply (s : State) (st : Station) (tag : Byte) (c : Status) :
    (heard s st).machineReply st .machineWrite tag c
      = answered s st .machineWrite tag (.machine c s.store.machineSet s.store.machine) := by
  rw [answered_eq]; rfl

/-- The reply to an accepted MACHINE WRITE holds the record just stored. -/
theorem machineReply_setStore (s : State) (st : Station) (tag : Byte) (c : Status) (b : Store) :
    ((heard s st).setStore b).machineReply st .machineWrite tag c
      = (answered s st .machineWrite tag (.machine c b.machineSet b.machine)).setStore b := by
  rw [answered_eq]; rfl

/-! ## A telegram too long for the port (R177) -/

/-- A request of more than 1100 bytes never reaches its judgement. -/
theorem State.request_of_long (k : RequestKind) (s : State) (st : Station) (tag : Byte) {p : List Byte} (hp : 1100 < p.length) :
    s.request k st tag p = .next (s.onPort st Port.hunt).settle := by
  rw [State.request, State.telegramArrival, if_neg (by simp only [Config.maxPayload]; omega), State.done_eq]

/-- A RECIPE WRITE of an unlisted group, one byte longer than a port takes. -/
def longWrite : List Byte := 0 :: 9 :: List.replicate 1099 0

theorem longWrite_length : longWrite.length = 1101 := by
  rw [longWrite, List.length_cons, List.length_cons, List.length_replicate]

theorem lengthOk_longWrite : lengthOk .recipeWrite longWrite = true := by
  have h : 2 ≤ longWrite.length := by rw [longWrite_length]; omega
  have hg : groupOf? (u8At longWrite 1) = none := rfl
  simp [lengthOk, recipeWriteLengthOk, h, hg]

end Sys2Proof.Machine

namespace Sys2Proof.Safety

open Sys2Proof Sys2Proof.Machine

/-- Settles O43: the reading of the body, the refusals in their order, and the record taken and handed to the blocks. -/
theorem machineWriteReplacesRecord : Obligations.MachineWriteReplacesRecord := by
  refine ⟨machineOf?_eq, fun s st tag p hr hp => ?_⟩
  intro refused o
  have ho : o = .next ((heard s st).serveMachineWrite st tag p).settle := exec_machineWrite tag hr hp
  have hhead : (heard s st).head.state = s.head.state := rfl
  refine ⟨fun hp hh hf => ?state, fun hst => ⟨fun hm => ?unread, fun m hm => ⟨fun hbad => ?bad, fun hlisted hlong => ?taken⟩⟩⟩
  case state =>
    rw [ho, State.serveMachineWrite, if_neg (by rw [admitsMachineWrite_iff]; tauto), heard_machineReply]
  case unread =>
    rw [ho, State.serveMachineWrite, if_pos (show (heard s st).head.state.admitsMachineWrite = true from admitsMachineWrite_iff.mpr hst)]
    simp only [hm]
    rw [heard_machineReply]
  all_goals
    have hserve : (heard s st).serveMachineWrite st tag p = (heard s st).judgeMachine st tag m := by
      rw [State.serveMachineWrite, if_pos (show (heard s st).head.state.admitsMachineWrite = true from admitsMachineWrite_iff.mpr hst)]
      simp only [hm]
    rw [ho, hserve, State.judgeMachine, clamped_eq]
  case bad =>
    rw [if_pos, heard_machineReply]
    rw [Bool.or_eq_true, Bool.not_eq_true', ← Bool.not_eq_true, stdSamplesListed_iff, heard_store, frameTooShort_iff]
    exact hbad
  case taken =>
    have hslots : (heard s st).store.slots.map Slot.invalidate = s.store.slots.map (fun x =>
        if x.state = .editing ∨ x.state = .valid then { x with state := .editing } else x) := by
      rw [show Slot.invalidate = _ from funext invalidate_eq]; rfl
    have hnot : ¬(!stdSamplesListed m.stdSamples || (heard s st).store.frameTooShort (machineInRange m).frameLength) = true := by
      rw [Bool.or_eq_true, Bool.not_eq_true', ← Bool.not_eq_true, stdSamplesListed_iff, heard_store, frameTooShort_iff]
      tauto
    rw [if_neg hnot, State.acceptMachine, hslots, machineReply_setStore, handMachine_eq, repolarize_zip]
    rfl

/-- Refutes O44: a payload of 1101 bytes with an unlisted group has the length that a RECIPE WRITE may have, but the port
drops it, so no BAD_FIELD comes. -/
theorem not_recipeWriteStoresClamped : ¬Obligations.RecipeWriteStoresClamped := by
  intro h
  have hready : Ready State.reset .n0 := ⟨by decide, by decide⟩
  have hrefused := (h.2.1 State.reset .n0 0 longWrite hready lengthOk_longWrite).1
    (Or.inr (show 8 < 9 by omega))
  have hdropped : exec (.recipeWrite .n0 0 longWrite) State.reset = .next (State.reset.onPort .n0 Port.hunt).settle :=
    State.request_of_long .recipeWrite State.reset .n0 0 (by rw [longWrite_length]; omega)
  rw [hdropped] at hrefused
  have hreplies := congrArg (fun (u : State) => (u.ports.get .n0).replies.length) (Host.Outcome.next.inj hrefused)
  exact absurd hreplies (by decide)

end Sys2Proof.Safety
end

section
/-! SUPPORT. The wire layer (R196): the fields of a payload by size and value beside the model's own bytes, and the layouts
of the replies and the notices (12.1 to 12.5). -/

namespace Sys2Proof.Machine

open Sys2Proof Sys2Proof.Safety

/-! ## One field after another -/

theorem wire_cons_byte (n : Nat) (l : List (Nat × Int)) : wire (w8 n :: l) = byte1 n :: wire l := by rw [wire_cons, wire_w8]; rfl

theorem wire_cons_bit (b : Bool) (l : List (Nat × Int)) : wire (w8 (bit b) :: l) = flagByte b :: wire l := by
  rw [wire_cons, wire_bit]; rfl

theorem wire_cons_nat16 (n : Nat) (l : List (Nat × Int)) : wire (w16 n :: l) = le16 n ++ wire l := by rw [wire_cons, wire_w16]

theorem wire_cons_nat32 (n : Nat) (l : List (Nat × Int)) : wire (w32 n :: l) = le32 n ++ wire l := by rw [wire_cons, wire_w32]

theorem wire_cons_int16 (x : Int) (l : List (Nat × Int)) : wire (w16 x :: l) = leInt16 x ++ wire l := by
  rw [wire_cons, wire_w16_int]

theorem wire_cons_val (v : Val) (l : List (Nat × Int)) : wire (w16 (orVoid v) :: l) = leVal v ++ wire l := wire_cons_int16 _ _

/-! ## Codes put together from flags -/

theorem wire_cons_quality (q : Quality) (l : List (Nat × Int)) : wire (w8 (qualityBits q) :: l) = byte1 q.code :: wire l := by
  have h : (q.code : Int) = qualityBits q := by
    obtain ⟨a, b, c, d, e, f⟩ := q
    cases a <;> cases b <;> cases c <;> cases d <;> cases e <;> cases f <;> rfl
  rw [← h, wire_cons_byte]

theorem wire_cons_causes (c : CauseSet) (l : List (Nat × Int)) : wire (w8 (causeBits c) :: l) = byte1 c.code :: wire l := by
  have h : (c.code : Int) = causeBits c := by
    obtain ⟨⟨w, p, d, r⟩, a⟩ := c
    cases w <;> cases p <;> cases d <;> cases r <;> cases a <;> rfl
  rw [← h, wire_cons_byte]

theorem wire_cons_zero (l : List (Nat × Int)) : wire (w8 0 :: l) = 0 :: wire l := rfl
theorem wire_cons_one (l : List (Nat × Int)) : wire (w8 1 :: l) = 1 :: wire l := rfl
theorem wire_cons_zero16 (l : List (Nat × Int)) : wire (w16 0 :: l) = 0 :: 0 :: wire l := rfl

/-- The group bytes of 12.2 and the codes of a mode slot. -/
theorem wire_cons_code (l : List (Nat × Int)) : wire (w8 2 :: l) = 2 :: wire l ∧ wire (w8 3 :: l) = 3 :: wire l
    ∧ wire (w8 4 :: l) = 4 :: wire l ∧ wire (w8 5 :: l) = 5 :: wire l ∧ wire (w8 6 :: l) = 6 :: wire l
    ∧ wire (w8 7 :: l) = 7 :: wire l ∧ wire (w8 8 :: l) = 8 :: wire l := ⟨rfl, rfl, rfl, rfl, rfl, rfl, rfl⟩

/-- A flag that a condition gives. -/
theorem wire_cons_if (p : Prop) [Decidable p] (l : List (Nat × Int)) :
    wire (w8 (if p then 1 else 0) :: l) = flagByte (decide p) :: wire l := by
  rw [← wire_cons_bit, bit]; simp

/-! ## The shared parts of payloads (12.2, 12.3) -/

theorem leVal_flatMap (l : List Val) : l.flatMap leVal = wire (l.map (fun v => w16 (orVoid v))) := by
  induction l with
  | nil => rfl
  | cons v l ih => rw [List.map_cons, wire_cons_val, List.flatMap_cons, ih]

theorem wire_cons_standardized (e : Word) (l : List (Nat × Int)) :
    wire (w8 (if e = 0 then 0 else 1) :: l) = flagByte (standardized e) :: wire l := by
  rw [← wire_cons_bit, bit, standardized]
  by_cases h : e = 0 <;> simp [h]

/-- The source byte of a hole report carries the overflow in bit 7. -/
theorem wire_cons_source (n : Nat) (b : Bool) (l : List (Nat × Int)) :
    wire (w8 (n + 128 * bit b) :: l) = byte1 (n + 128 * b.toNat) :: wire l := by
  rw [← wire_cons_byte]; cases b <;> simp [bit]

theorem holeReport_bytes (r : HoleReport) (b : Bool) : r.bytes b = wire (reportFields r b) := by
  have h0 := wire_cons_source 0 b
  have h1 := wire_cons_source 1 b
  have h2 := wire_cons_source 2 b
  simp only [Nat.cast_zero, Nat.cast_one, Nat.cast_ofNat] at h0 h1 h2
  have hz : le16 0 = [0, 0] := rfl
  cases hs : r.source with
  | none =>
    simp only [HoleReport.bytes, reportFields, hs, h0, hz, wire_cons_zero16, wire_cons_nat16, wire_cons_bit, wire_cons_nat32,
      wire_nil, List.append_assoc, List.cons_append, List.nil_append, List.append_nil]
  | scan n =>
    simp only [HoleReport.bytes, reportFields, hs, h1, wire_cons_nat16, wire_cons_bit, wire_cons_nat32,
      wire_nil, List.append_assoc, List.cons_append, List.nil_append, List.append_nil]
  | take =>
    simp only [HoleReport.bytes, reportFields, hs, h2, hz, wire_cons_zero16, wire_cons_nat16, wire_cons_bit, wire_cons_nat32,
      wire_nil, List.append_assoc, List.cons_append, List.nil_append, List.append_nil]

theorem trendEntry_bytes (e : TrendEntry) : e.bytes = wire (trendFields e) := by
  simp only [TrendEntry.bytes, trendFields, wire_cons_nat16, wire_cons_byte, wire_cons_quality, wire_cons_val, wire_cons_nat32,
    wire_cons_zero, wire_nil, List.append_assoc, List.cons_append, List.nil_append]

theorem pointRecord_bytes (r : PointRecord) (h : r.quality.noSheet = false ∧ r.quality.noSlope = false) :
    r.bytes = wire (pointFields r) := by
  obtain ⟨hsheet, hslope⟩ := h
  have hq : ∀ l, wire (w8 (bit r.quality.linkGaps + 2 * bit r.quality.provisional + 4 * bit r.quality.tachHeld
      + 16 * bit r.quality.unstandardized) :: l) = byte1 r.quality.code :: wire l := fun l => by
    rw [← wire_cons_quality, qualityBits, hsheet, hslope]; simp [bit]
  simp only [PointRecord.bytes, pointFields, wire_cons_nat16, wire_cons_nat32, wire_cons_val, hq, wire_cons_zero, wire_nil,
    List.append_assoc]

theorem limitEntry_bytes (e : LimitEntry) : e.bytes = wire
    [w8 (targetCode e.target), w8 e.meas.code, w8 (if e.bound = .low then 1 else 0), w8 (if e.check = .signal then 1 else 0),
      w8 (bit e.relay), w8 0, w16 e.limit, w16 e.hysteresis] := by
  simp only [LimitEntry.bytes, beq_eq_decide, wire_cons_byte, wire_cons_if, wire_cons_bit, wire_cons_zero, wire_cons_nat16,
    wire_cons_int16 e.limit, wire_nil, List.cons_append, List.nil_append, List.append_nil]

/-- The group byte and the group body behind it. -/
theorem groupBody_bytes (b : GroupBody) : byte1 (groupCode b.group) :: b.bytes = wire (groupFields b) := by
  cases b with
  | zones z =>
    have hz : z.flatMap (fun x => le16 x.first ++ le16 x.last) = wire (z.flatMap (fun x => [w16 x.first, w16 x.last])) := by
      simp only [wire_flatMap, wire_cons_nat16, wire_nil, List.append_nil]
    simp only [GroupBody.bytes, groupFields, wire_append, hz, wire_cons_code, wire_cons_byte, wire_cons_zero, wire_nil]
    rfl
  | limits l =>
    simp only [GroupBody.bytes, groupFields, wire_cons_code, wire_flatMap, ← limitEntry_bytes]
    rfl
  | brk b =>
    simp only [GroupBody.bytes, groupFields, beq_eq_decide, wire_cons_code, wire_cons_byte, wire_cons_bit, wire_cons_if,
      wire_cons_nat16, wire_cons_zero, wire_nil, List.cons_append, List.nil_append]
    rfl
  | _ =>
    simp only [GroupBody.bytes, groupFields, wire_cons_code, wire_cons_zero, wire_cons_one, wire_cons_byte, wire_cons_nat16,
      wire_nil, List.append_assoc, List.cons_append, List.nil_append, List.append_nil]
    rfl

theorem machineRecord_bytes (m : MachineRecord) : m.bytes = wire (machineFields m) := by
  simp only [MachineRecord.bytes, machineFields, beq_eq_decide, wire_cons_nat16, wire_cons_nat32, wire_cons_if, wire_nil,
    List.append_assoc]

theorem standardization_bytes (r : StdReport) : r.bytes = wire (standardizationFields r) := by
  simp only [StdReport.bytes, standardizationFields, wire_cons_nat16, wire_cons_nat32, wire_cons_byte,
    wire_cons_standardized, wire_cons_bit, wire_nil, List.append_assoc, List.cons_append, List.nil_append]

/-! ## The report of STATUS (R187, 12.3) -/

/-- The ACTIVE slot and its generation. -/
def activeFields (a : Option (SlotNo × BitVec 16)) : List (Nat × Int) :=
  [w8 (slotCode (a.map (·.1))), w16 ((a.map (fun x => x.2.toNat)).getD 0 : Nat)]

/-- The station's mode slot and its position. -/
def ownSlotFields (m : ModeSlot) : List (Nat × Int) := [w8 m.code, w16 m.pos]

/-- Whether the station holds a record, and which. -/
def heldFields (h : Option (BitVec 16)) : List (Nat × Int) := [w8 (bit h.isSome), w16 ((h.map (·.toNat)).getD 0 : Nat)]

theorem statusFields_eq (r : StatusReport) : statusFields r =
    [w8 r.head.code, w8 (legOrPhase r.head r.phase), w8 r.cause.code, w8 r.brk.code, w8 (causeBits r.causes),
      w16 r.breakCount, w8 r.link.code, w8 (bit r.locked), w16 r.newest.toNat, w32 r.epoch.toNat,
      w8 (if r.epoch = 0 then 0 else 1), w16 r.speed, w8 (bit r.tachHeld)]
      ++ activeFields r.active ++ [w8 (slotCode r.pending)] ++ ownSlotFields r.ownSlot ++ heldFields r.ownHold
      ++ [w8 (bit r.ownPending), w8 (bit r.ownDropped)] := by
  obtain ⟨head, phase, cause, brk, causes, breakCount, link, locked, newest, epoch, speed, tachHeld, active, pending, ownSlot,
    ownHold, ownPending, ownDropped⟩ := r
  cases active <;> cases ownSlot <;> cases ownHold <;> rfl

theorem statusReport_bytes (r : StatusReport) : r.bytes = wire (statusFields r) := by
  simp only [StatusReport.bytes, statusFields_eq, activeFields, ownSlotFields, heldFields, wire_cons_byte, wire_cons_causes,
    wire_cons_nat16, wire_cons_nat32, wire_cons_bit, wire_cons_standardized, wire_nil, List.append_assoc, List.cons_append,
    List.nil_append]

/-! ## The replies (12.3) -/

theorem subscription_bytes (x : Subscription) : x.bytes = wire [w16 x.mask.toNat, w8 (bit x.limitEvery), w8 (bit x.linkEvery)] := by
  simp only [Subscription.bytes, wire_cons_nat16, wire_cons_bit, wire_nil]

end Sys2Proof.Machine

namespace Sys2Proof.Safety

open Sys2Proof Sys2Proof.Machine

theorem repliesLaidOut : RepliesLaidOut := by
  intro ring
  have hok : byte1 Status.ok.code = 0 := rfl
  refine ⟨fun c => ?status, fun r => ?report, fun n => ?timeout, fun n es => ?trend, fun c n rs h => ?points, fun r => ?std,
    fun c p => ?point, fun c m h => ?mode, fun m r n o => ?takeCount, rfl, rfl, fun n => ?check, fun c x i b => ?write,
    fun x g i b => ?read, fun c set m => ?machine, fun x => ?subscription⟩
  case status => rw [wire_cons_byte]; rfl
  case report => rw [wire_cons_zero, ← statusReport_bytes]; rfl
  case timeout => rw [wire_cons_byte, wire_cons_nat16, wire_nil, List.append_nil]; rfl
  case trend =>
    have he : es.flatMap TrendEntry.bytes = wire (es.flatMap trendFields) := by
      rw [wire_flatMap, funext trendEntry_bytes]
    simp only [ReplyBody.bytes, he, wire_append, wire_cons_zero, wire_cons_nat16, wire_cons_byte, wire_nil, hok]
    rfl
  case points =>
    have hr : rs.flatMap PointRecord.bytes = wire (rs.flatMap pointFields) := by
      rw [wire_flatMap]
      exact List.flatMap_congr fun r hr => pointRecord_bytes r (h r hr)
    simp only [ReplyBody.bytes, hr, wire_append, wire_cons_nat16, wire_cons_byte, wire_nil]
    rfl
  case std => rw [wire_cons_zero, ← standardization_bytes]; rfl
  case point => simp only [wire_cons_byte, wire_cons_code, wire_cons_zero, wire_cons_nat16, wire_nil, List.append_nil]; rfl
  case mode =>
    have hpos : m.pos = 0 := by
      cases m with
      | point p => exact absurd rfl (h p)
      | _ => rfl
    simp only [ReplyBody.bytes, hpos, wire_cons_byte, wire_cons_zero, wire_cons_zero16, wire_nil]
    rfl
  case takeCount =>
    simp only [ReplyBody.bytes, holeReport_bytes, wire_append, wire_cons_zero, wire_cons_byte, wire_cons_nat16, wire_nil, hok,
      List.append_nil]
  case check => simp only [ReplyBody.bytes, wire_cons_byte, wire_nil]
  case write =>
    simp only [ReplyBody.bytes, ← groupBody_bytes, wire_cons_byte, List.cons_append, List.nil_append]
  case read =>
    simp only [ReplyBody.bytes, ← groupBody_bytes, wire_cons_byte, wire_cons_nat16, wire_cons_zero, hok,
      List.cons_append, List.nil_append, List.append_assoc]
  case machine =>
    simp only [ReplyBody.bytes, machineRecord_bytes, wire_append, wire_cons_byte, wire_cons_bit, wire_nil]
  case subscription => rw [wire_cons_zero, ← subscription_bytes]; rfl

theorem noticesLaidOut : NoticesLaidOut := by
  refine ⟨fun n d q avg => ?scanDone, fun b c n => ?breakState, fun ss j entering n => ?limit, fun o r e n => ?standardize,
    fun h ph c g pos => ?headState, fun l n => ?headLink, fun r => holeReport_bytes r false, fun c ss a p set => ?recipe⟩
  case limit =>
    have hs : wire (ss.map (fun x => w8 x.code)) = ss.map (fun x => byte1 x.code) := by
      induction ss with
      | nil => rfl
      | cons x l ih => rw [List.map_cons, wire_cons_byte, ih, List.map_cons]
    simp only [Notice.bytes, wire_append, hs, wire_cons_byte, wire_cons_bit, wire_cons_nat16, wire_nil, List.append_assoc,
      List.cons_append, List.nil_append, List.append_nil]
  all_goals
    simp only [Notice.bytes, wire_cons_byte, wire_cons_bit, wire_cons_nat16, wire_cons_nat32, wire_cons_quality, wire_cons_val,
      wire_cons_causes, wire_nil, List.flatMap_cons, List.flatMap_nil, List.append_assoc, List.cons_append, List.nil_append,
      List.append_nil]

theorem codesAsListed : CodesAsListed := by
  refine ⟨rfl, fun ph => rfl, rfl, rfl, fun st p => rfl, rfl, rfl, rfl, rfl, rfl, rfl, rfl, rfl, rfl, rfl, rfl, rfl, fun p => rfl,
    rfl, rfl, rfl, rfl, rfl, rfl⟩

end Sys2Proof.Safety
end

section
/-! SUPPORT. The request discipline (R182 to R184), READ SCAN with the reply served from a record (R93 to R97), and the
obligations about them. -/

namespace Sys2Proof.Machine

open Sys2Proof Sys2Proof.Safety

/-! ## The request discipline (R182 to R184) -/

/-- The queued replies and the pending request of a port, as R184 counts them. -/
theorem Port.count_eq (p : Port) : p.count = p.replies.length + (if p.pending = none then 0 else 1) := by
  cases h : p.pending <;> simp [Port.count, h]

/-- A request of the wrong length, given room (R182, step 3). -/
theorem State.request_badLength {k : RequestKind} {s : State} {st : Station} (tag : Byte) {p : List Byte} (hp : p.length ≤ 1100)
    (hroom : (s.ports.get st).hasRoom = true) (hlen : lengthOk k p = false) :
    s.request k st tag p = .next (answered s st k tag (.status .badLength)).settle := by
  rw [State.request, State.telegramArrival_eq s st _ tag p hp, if_pos (by rw [heardPort_hasRoom]; exact hroom),
    State.judgeKind_code, State.judgeKnown, hlen, State.done_eq, ← heard_answer]
  rfl

theorem ofCode_of_unlisted {kind : Byte} (h : kind.toNat = 0 ∨ 0x12 < kind.toNat) : RequestKind.ofCode kind = none := by
  simp only [RequestKind.ofCode]
  split
  case h_19 => rfl
  all_goals next hk => rw [hk] at h; omega

/-- A good telegram of no request kind is judged by its room alone (R182, steps 1 and 2). -/
theorem exec_unknownKind_judged {s : State} {st : Station} {kind : Byte} (tag : Byte) {p : List Byte} (hp : p.length ≤ 1100)
    (hk : kind.toNat = 0 ∨ 0x12 < kind.toNat) : exec (.unknownKind st kind tag p) s = .next
      (if (s.ports.get st).hasRoom then s.onPort st (fun x => { heardPort x with
          replies := x.replies ++ [⟨none, tag, .status .unknownKind⟩] })
        else s.onPort st (fun x => { heardPort x with dropped := true })).settle := by
  have ha : (heard s st).judgeKind st kind tag p = s.onPort st (fun x => { heardPort x with
      replies := x.replies ++ [⟨none, tag, .status .unknownKind⟩] }) := by
    rw [State.judgeKind, ofCode_of_unlisted hk, State.answerUnknown, heard, State.onPort_onPort]
    rfl
  rw [exec_unknownKind, State.telegramArrival_eq s st kind tag p hp, heardPort_hasRoom, ha]

theorem groupOf?_of_lt {n : Nat} (h : 8 < n) : groupOf? n = none := by
  obtain ⟨m, rfl⟩ : ∃ m, n = m + 9 := ⟨n - 9, by omega⟩
  rfl

theorem recipeWriteLength_iff (p : List Byte) : lengthOk .recipeWrite p = true ↔ recipeWriteFits p := by
  have h1 : u8At p 1 = b8 p 1 := rfl
  have h2 : u8At p 2 = b8 p 2 := rfl
  simp only [lengthOk, recipeWriteLengthOk, recipeWriteFits, h1, h2, Bool.and_eq_true, decide_eq_true_eq]
  refine and_congr_right fun _ => ?_
  generalize b8 p 1 = n
  by_cases h : 8 < n
  · obtain ⟨m, rfl⟩ : ∃ m, n = m + 9 := ⟨n - 9, by omega⟩
    simp [groupOf?]
  · have h' : n ≤ 8 := by omega
    interval_cases n <;> simp [groupOf?, groupBodyLength]

end Sys2Proof.Machine

namespace Sys2Proof.Safety

open Sys2Proof Sys2Proof.Machine

theorem requestsJudged : RequestsJudged := by
  refine ⟨fun k s st tag p hp => ?request, fun s st kind tag p hp hk => ?unknown, fun k n p hn => ?fixed, recipeWriteLength_iff,
    fun k tag b => ⟨?kind, rfl⟩⟩
  case request =>
    intro count
    have hc : (s.ports.get st).count = count := Port.count_eq _
    have hroom : count < 4 → (s.ports.get st).hasRoom = true := fun h => by rw [Port.hasRoom_iff]; exact h
    rw [exec_requestOf]
    refine ⟨fun h => State.request_full k s st tag p hp (by rw [hc]; exact h),
      fun h hl => State.request_badLength tag hp (hroom h) hl, fun h hl hpend hs hcancel => ?_⟩
    have hlt : (s.ports.get st).replies.length < 3 := (Port.hasRoom_iff_of_pending hpend).mp (hroom h)
    refine State.request_busy tag hp hl hpend hlt ?_
    cases k with
    | status => exact absurd rfl hs
    | cancel => exact absurd rfl hcancel
    | _ => rfl
  case unknown =>
    intro count
    rw [exec_unknownKind_judged tag hp hk]
    refine ⟨fun h => ?_, fun h => ?_⟩
    · rw [if_neg (by rw [Port.hasRoom_iff]; exact fun h' => absurd h' (by simp only [count] at h; omega))]
    · rw [if_pos (by rw [Port.hasRoom_iff]; exact h)]
  case fixed =>
    cases k with
    | recipeWrite => exact absurd hn (by simp [fixedLength])
    | _ => simp only [fixedLength, Option.some.injEq] at hn; simp [lengthOk, ← hn]
  case kind => cases k <;> rfl

/-- Settles O47: the discipline in its order, the codes, and the bytes of every reply and notice. -/
theorem requestsJudgedInOrder : Obligations.RequestsJudgedInOrder := ⟨requestsJudged, codesAsListed, repliesLaidOut, noticesLaidOut⟩

end Sys2Proof.Safety
end

section
/-! SUPPORT. READ SCAN with the reply served from a record (R93 to R97), and the obligation about it. -/

namespace Sys2Proof.Machine

open Sys2Proof Sys2Proof.Safety

/-! ## The payload of a READ SCAN (R94) -/

theorem measOf?_of_le {n : Nat} (h : n ≤ 2) : measOf? n = some (if n = 0 then .bw else if n = 1 then .moist else .cal) := by
  interval_cases n <;> rfl

theorem measOf?_of_lt {n : Nat} (h : 2 < n) : measOf? n = none := by
  obtain ⟨m, rfl⟩ : ∃ m, n = m + 3 := ⟨n - 3, by omega⟩
  rfl

theorem partOf?_of_le {n : Nat} (h : n ≤ 3) :
    partOf? n = some (if n = 0 then .means else if n = 1 then .deviations else if n = 2 then .profile else .zones) := by
  interval_cases n <;> rfl

theorem partOf?_of_lt {n : Nat} (h : 3 < n) : partOf? n = none := by
  obtain ⟨m, rfl⟩ : ∃ m, n = m + 4 := ⟨n - 4, by omega⟩
  rfl

/-- The selection and the query of a payload whose fields R94 does not refuse. -/
def scanAt (p : List Byte) : Selector × ScanQuery :=
  (if b8 p 0 = 1 then .number (BitVec.ofNat 16 (b16 p 1))
    else .newest (if b8 p 9 = 1 then some (BitVec.ofNat 16 (b16 p 10)) else none) (max 1 (min 600 (b16 p 12))),
   ⟨if b8 p 3 = 0 then .bw else if b8 p 3 = 1 then .moist else .cal,
    if b8 p 4 = 0 then .means else if b8 p 4 = 1 then .deviations else if b8 p 4 = 2 then .profile else .zones,
    b16 p 5, b16 p 7⟩)

/-- R94 refuses the payload. -/
def scanRefused (p : List Byte) : Prop :=
  1 < b8 p 0 ∨ 2 < b8 p 3 ∨ 3 < b8 p 4 ∨ b16 p 7 < b16 p 5 ∨ 1 < b8 p 9 ∨ (b8 p 0 = 1 ∧ b8 p 9 = 1)

theorem readScanOf?_of_refused {p : List Byte} (h : scanRefused p) : readScanOf? p = none := by
  have e8 : ∀ i, u8At p i = b8 p i := fun _ => rfl
  have e16 : ∀ i, u16At p i = b16 p i := fun _ => rfl
  simp only [readScanOf?, e8, e16]
  by_cases h0 : 1 < b8 p 0
  · rw [flagOf?_of_lt h0]
  by_cases h3 : 2 < b8 p 3
  · simp [measOf?_of_lt h3]
  by_cases h4 : 3 < b8 p 4
  · simp [partOf?_of_lt h4]
  by_cases h9 : 1 < b8 p 9
  · simp [flagOf?_of_lt h9]
  rw [flagOf?_of_le (by omega), measOf?_of_le (by omega), partOf?_of_le (by omega), flagOf?_of_le (by omega)]
  have hrest : b16 p 7 < b16 p 5 ∨ (b8 p 0 = 1 ∧ b8 p 9 = 1) := by
    unfold scanRefused at h; omega
  obtain hlt | ⟨hn, hm⟩ := hrest
  · exact if_pos hlt
  · simp [hn, hm]

theorem readScanOf?_of_not_refused {p : List Byte} (h : ¬scanRefused p) : readScanOf? p = some (scanAt p) := by
  have e8 : ∀ i, u8At p i = b8 p i := fun _ => rfl
  have e16 : ∀ i, u16At p i = b16 p i := fun _ => rfl
  simp only [scanRefused, not_or, not_and] at h
  obtain ⟨h0, h3, h4, hlt, h9, hboth⟩ := h
  simp only [readScanOf?, e8, e16]
  rw [flagOf?_of_le (by omega), measOf?_of_le (by omega), partOf?_of_le (by omega), flagOf?_of_le (by omega)]
  have hb : (decide (b8 p 0 = 1) && decide (b8 p 9 = 1)) = false := by
    rw [Bool.and_eq_false_iff, decide_eq_false_iff_not, decide_eq_false_iff_not]
    tauto
  simp only [if_neg hlt, hb, Bool.false_eq_true, if_false, decide_eq_true_eq]
  rfl

/-! ## The reply served from a record (R96, 12.5) -/

/-- Consecutive values of a list, read one by one. -/
theorem take_drop_eq_map_range {l : List Val} {a c : Nat} (h : a + c ≤ l.length) :
    (l.drop a).take c = (List.range c).map (fun k => l.getD (a + k) none) := by
  refine List.ext_getElem (by simp; omega) fun k hk _ => ?_
  have hlt : a + k < l.length := by simp at hk; omega
  simp [List.getD_eq_getElem?_getD, List.getElem?_eq_getElem hlt]

/-- A served reply: the header of the record with the range sent, and the values of the range. -/
theorem scanRecord_bytes {r : ScanRecord} {n : BitVec 16} (q : ScanQuery) (hn : r.number = some n) :
    r.bytes q = wire (scanHeader r n q (r.range q).1 (r.range q).2.1 (r.range q).2.2.length) ++ (r.range q).2.2.flatMap leVal := by
  have hok : byte1 Status.ok.code = 0 := rfl
  have hz : le16 0 = [0, 0] := rfl
  unfold ScanRecord.bytes
  generalize r.range q = rg
  obtain ⟨first, last, values⟩ := rg
  dsimp only
  generalize values.flatMap leVal = sent
  rw [hn, hok, scanHeader, wire_cons_zero]
  dsimp only [Option.getD_some]
  simp only [wire_cons_byte, wire_cons_nat16, wire_cons_nat32]
  cases r.edges with
  | none =>
    simp only [Option.map_none, Option.getD_none, hz, wire_cons_zero16, wire_cons_byte, wire_cons_nat16, wire_cons_bit,
      wire_cons_quality, wire_cons_val, wire_nil, List.append_assoc, List.cons_append, List.nil_append]
  | some e =>
    simp only [Option.map_some, Option.getD_some, wire_cons_byte, wire_cons_nat16, wire_cons_bit, wire_cons_quality,
      wire_cons_val, wire_nil, List.append_assoc, List.cons_append, List.nil_append]

/-! ## A search served (R93, R95) -/

/-- A search of the ring, served from what it finds. -/
theorem servedFrom_search {s : State} {st : Station} (tag : Byte) (q : ScanQuery) {test : ScanRecord → Prop}
    {f : ScanRecord → Bool} (hf : ∀ r, f r = true ↔ test r) :
    ServedFrom s st tag q test (.next ((heard s st).serveFound st tag q (s.ring.records.findIdx? f)).settle) := by
  refine ⟨fun i r hr ht hfirst => ?_, fun hnone => ?_⟩
  · have hfound : s.ring.records.findIdx? f = some i := by
      obtain ⟨hlt, hget⟩ := List.getElem?_eq_some_iff.mp hr
      rw [List.findIdx?_eq_some_iff_getElem]
      refine ⟨hlt, by rw [hget]; exact (hf r).mpr ht, fun j hj => ?_⟩
      rw [hf]
      exact hfirst j _ hj (List.getElem?_eq_getElem (hj.trans hlt))
    rw [hfound, answered_eq]
    rfl
  · have hfound : s.ring.records.findIdx? f = none := by
      rw [List.findIdx?_eq_none_iff]
      exact fun r hr => by rw [← Bool.not_eq_true, hf]; exact hnone r hr
    rw [hfound, ← heard_answer]
    rfl

theorem servedFrom_numbered {s : State} {st : Station} (tag : Byte) (q : ScanQuery) (n : BitVec 16) :
    ServedFrom s st tag q (fun r => r.status = .complete ∧ r.number = some n ∧ 0 ≤ aheadBy s.ring.newest n ∧ aheadBy s.ring.newest n ≤ 64)
      (.next ((heard s st).serveFound st tag q (s.ring.numbered n)).settle) := by
  by_cases h : 0 ≤ aheadBy s.ring.newest n ∧ aheadBy s.ring.newest n ≤ 64
  · rw [Ring.numbered, if_pos (show _ ∧ aheadBy s.ring.newest n ≤ Config.scanReach from h)]
    exact servedFrom_search tag q fun r => by simp [h]
  · rw [Ring.numbered, if_neg (show ¬(_ ∧ aheadBy s.ring.newest n ≤ Config.scanReach) from h)]
    refine ⟨fun i r _ ht => absurd ht.2.2 h, fun _ => ?_⟩
    rw [← heard_answer]
    rfl

theorem servedFrom_newest {s : State} {st : Station} (tag : Byte) (q : ScanQuery) :
    ServedFrom s st tag q (fun r => r.status = .complete ∧ r.number = some s.ring.newest)
      (.next ((heard s st).serveFound st tag q s.ring.newestRecord).settle) :=
  servedFrom_search tag q fun r => by simp

/-! ## READ SCAN (R93 to R97) -/

theorem exec_readScan {s : State} {st : Station} (tag : Byte) {p : List Byte} (hr : Ready s st) (hp : p.length = 14) :
    exec (.readScan st tag p) s = .next ((heard s st).serveReadScan st tag p).settle := by
  have hreq : exec (.readScan st tag p) s = s.request .readScan st tag p := rfl
  rw [hreq, State.request_ready _ s st tag _ hr (by omega) (by simp [lengthOk, hp])]
  rfl

section

variable {s : State} (st : Station) (tag : Byte) {p : List Byte}

theorem serveReadScan_of_held (h : ∃ r ∈ s.ring.records, r.holds.get st = true) :
    s.serveReadScan st tag p = s.answer st .readScan tag .busy := by
  have hsome : (s.ring.holdsFor st).isSome = true := by
    simpa [Ring.holdsFor, List.find?_isSome] using h
  rw [State.serveReadScan, if_pos hsome]

variable (h : ∀ r ∈ s.ring.records, r.holds.get st = false)

include h

theorem serveReadScan_of_refused (hp : readScanOf? p = none) : s.serveReadScan st tag p = s.answer st .readScan tag .badField := by
  rw [State.serveReadScan, unheld_iff_holdsFor.mp h]; simp [hp]

theorem serveReadScan_of_number {n : BitVec 16} {q : ScanQuery} (hp : readScanOf? p = some (.number n, q)) :
    s.serveReadScan st tag p = s.serveFound st tag q (s.ring.numbered n) := by
  rw [State.serveReadScan, unheld_iff_holdsFor.mp h]; simp [hp]

theorem serveReadScan_of_newest {w : Nat} {q : ScanQuery} (hp : readScanOf? p = some (.newest none w, q)) :
    s.serveReadScan st tag p = s.serveFound st tag q s.ring.newestRecord := by
  rw [State.serveReadScan, unheld_iff_holdsFor.mp h]; simp [hp]

theorem serveReadScan_of_minimum {m : BitVec 16} {w : Nat} {q : ScanQuery} (hp : readScanOf? p = some (.newest (some m) w, q)) :
    s.serveReadScan st tag p = s.serveMinimum st tag q m w := by
  rw [State.serveReadScan, unheld_iff_holdsFor.mp h]; simp [hp]

end

end Sys2Proof.Machine

namespace Sys2Proof.Safety

open Sys2Proof Sys2Proof.Machine

theorem scanReplyLaidOut : ScanReplyLaidOut := by
  intro ring i q r n hr hn hq m values size sent
  have hsent : sent = r.bytes q := by
    have hat : ring.at i = r := by simp [Ring.at, List.getD_eq_getElem?_getD, hr]
    exact congrArg (fun x => ScanRecord.bytes x q) hat
  have hvalues : (r.meas.get q.meas).part q.part = values := by
    cases hp : q.part <;> simp only [values, hp] <;> rfl
  have hsize : r.partSize q.part = size := by
    cases hp : q.part <;> simp only [size, hp] <;> rfl
  rw [hsent, scanRecord_bytes q hn]
  refine ⟨fun hp hz => ?_, fun hpos hlen => ?_⟩
  · have hrange : r.range q = (0, 0, []) := by
      rw [ScanRecord.range, if_pos (show r.partSize q.part = 0 by rw [hp]; exact hz)]
    rw [hrange]
    exact List.append_nil _
  · intro first last count
    have hslice : (values.drop first).take count = (List.range count).map (fun k => values.getD (first + k) none) :=
      take_drop_eq_map_range (by simp only [first, last, count]; omega)
    have hrange : r.range q = (first, last, (List.range count).map (fun k => values.getD (first + k) none)) := by
      rw [ScanRecord.range, if_neg (show r.partSize q.part ≠ 0 by omega), hsize, hvalues, ← hslice]
    rw [hrange, wire_append, leVal_flatMap, List.map_map, List.length_map, List.length_range]
    rfl

/-- Settles O30: the refusals in their order, the searches, the wait, the fields of the payload, and the served reply. -/
theorem readScanServedOrWaits : Obligations.ReadScanServedOrWaits := by
  refine ⟨scanReplyLaidOut, fun s st tag p hr hp => ?_⟩
  intro o
  have ho : o = .next ((heard s st).serveReadScan st tag p).settle := exec_readScan tag hr hp
  have hring : (heard s st).ring = s.ring := rfl
  refine ⟨fun h => ?held, fun h => ⟨fun hb => ?refused, fun n q hb => ?number, fun w q hb => ?newest, fun m w q hb => ?minimum⟩,
    ?iff, fun sel q hb => ?fields⟩
  case held => rw [ho, serveReadScan_of_held st tag (s := heard s st) h, heard_answer]
  case refused => rw [ho, serveReadScan_of_refused st tag (s := heard s st) h hb, heard_answer]
  case number => rw [ho, serveReadScan_of_number st tag (s := heard s st) h hb]; exact servedFrom_numbered tag q n
  case newest => rw [ho, serveReadScan_of_newest st tag (s := heard s st) h hb]; exact servedFrom_newest tag q
  case minimum =>
    rw [ho, serveReadScan_of_minimum st tag (s := heard s st) h hb, State.serveMinimum, hring]
    refine ⟨fun hle => ?_, fun hgt => ?_, fun hge hle hbrk => ?_, fun hge hle hb ht => ?_⟩
    · rw [if_pos hle]; exact servedFrom_newest tag q
    · rw [if_neg (by omega), if_pos (show Config.scanReach < aheadBy m s.ring.newest from hgt), heard_answer]
    · have hhold : (heard s st).holdPresent = true := holdPresent_iff.mpr fun hn => by
        obtain ⟨hnb, hnt⟩ := hn
        obtain hb | hb := hbrk
        · exact hnb hb
        · exact hnt hb
      rw [if_neg (by omega), if_neg (show ¬Config.scanReach < aheadBy m s.ring.newest by simp only [Config.scanReach]; omega),
        if_pos hhold, heard_answer]
    · have hhold : (heard s st).holdPresent = false := not_holdPresent ⟨hb, ht⟩
      rw [if_neg (by omega), if_neg (show ¬Config.scanReach < aheadBy m s.ring.newest by simp only [Config.scanReach]; omega),
        hhold, State.makePending, heard, State.onPort_onPort]
      rfl
  case iff =>
    constructor
    · intro hb
      by_contra hnot
      rw [readScanOf?_of_not_refused hnot] at hb
      exact absurd hb (by simp)
    · exact readScanOf?_of_refused
  case fields =>
    by_cases hnot : scanRefused p
    · rw [readScanOf?_of_refused hnot] at hb; exact absurd hb (by simp)
    · rw [readScanOf?_of_not_refused hnot, Option.some.injEq] at hb
      obtain ⟨rfl, rfl⟩ : (scanAt p).1 = sel ∧ (scanAt p).2 = q := by rw [hb]; exact ⟨rfl, rfl⟩
      exact ⟨rfl, rfl, rfl, rfl, rfl⟩

end Sys2Proof.Safety
end

section
/-! SUPPORT. A slot that ends no window: what the receiver makes of it, what its converted sample does to each consumer
(R7 to R9, R48, R49, R60, R106, R122, R142 to R145), and the obligations about one accepted sample. -/

namespace Sys2Proof.Machine

open Sys2Proof Sys2Proof.Safety

/-! ## Conversion (R7, R8) -/

theorem roundHalfUp_eq (n d : Nat) : roundHalfUp n d = (2 * n + d) / (2 * d) := rfl

theorem convertChannel_eq (z g raw : Nat) (ok : Bool) : convertChannel z g raw ok = convertedAs z g raw ok := by
  cases ok <;> rfl

theorem presentThreshold_eq (s : State) :
    s.presentThreshold = (s.activeRecipe.map (fun r => r.measure.threshold)).getD 1 := by
  cases h : s.activeRecipe <;> simp [State.presentThreshold, h]

theorem presentOf_iff {th : Nat} {bw : Option Nat} : presentOf th bw = true ↔ ∃ b, bw = some b ∧ th ≤ b := by
  cases bw <;> simp [presentOf]

/-! ## The consumers of a converted sample (R9) -/

section

variable (s : State) (x : Sample)

/-- The edge tracker after a sample (R48, R49). -/
def State.edgesTaken : EdgeTracker := if s.head.scan.isSome then { s.edges with run := s.edges.run.take x.present x.pos } else s.edges

/-- The bins after a sample (R60). -/
def State.binsTaken : List BinSums :=
  if s.head.scan.isSome && x.present then
    (s.recipe.geometry.binOf x.pos).elim s.bins (fun i => s.bins.modify i (BinSums.add · x))
  else s.bins

/-- The point unit after a sample (R106). -/
def State.pointsTaken : Points :=
  if s.head.state = .singlePoint then { s.points with period := s.points.period.map (fun p => p.take x) } else s.points

/-- The absent detector after a sample (R122). -/
def State.absentTaken : Absent :=
  if s.assesses x.pos then
    { s.absent with
      assessing := true, assessed := s.absent.assessed + 1, present := s.absent.present + x.present.toNat }
  else { s.absent with assessing := s.assessingNow }

/-- The hole detector after a sample (R142 to R145). -/
def State.holeTaken : Hole :=
  if s.assesses x.pos then s.hole.take s.recipe.holes.maxRun x.present
  else if s.assessingNow then s.hole.endStretch
  else s.hole

theorem edgeTake_eq : s.edgeTake x = s.setEdges (s.edgesTaken x) := by
  simp only [State.edgeTake, State.edgesTaken]; split <;> rfl

theorem binTake_eq : s.binTake x = s.setBins (s.binsTaken x) := by
  simp only [State.binsTaken, State.binTake]; split
  · cases s.recipe.geometry.binOf x.pos <;> rfl
  · rfl

theorem pointTake_eq : s.pointTake x = s.setPoints (s.pointsTaken x) := by
  cases h : s.head.state <;> simp only [State.pointTake, State.pointsTaken, h] <;> rfl

theorem absentTake_eq : s.absentTake x = s.setAbsent (s.absentTaken x) := by
  simp only [State.absentTaken, State.absentTake]; split <;> rfl

theorem holeTake_eq : s.holeTake x = s.setHole (s.holeTaken x) := by
  simp only [State.holeTaken, State.holeTake]; split
  · rfl
  · split <;> rfl

/-- A sample moves no edge lock, so what it is assessed by stays. -/
theorem edgesTaken_lock : (s.edgesTaken x).locked = s.edges.locked ∧ (s.edgesTaken x).lockedEdges = s.edges.lockedEdges := by
  simp only [State.edgesTaken]; split <;> exact ⟨rfl, rfl⟩

/-- The five consumers each change their own unit and look at none of the others'. -/
theorem handOn_eq : s.handOn x = { s with
    edges := s.edgesTaken x, bins := s.binsTaken x, points := s.pointsTaken x, absent := s.absentTaken x,
    hole := s.holeTaken x } := by
  obtain ⟨hlocked, hedges⟩ := edgesTaken_lock s x
  have hnow : ((s.setEdges (s.edgesTaken x)).setBins (s.binsTaken x)).assessingNow = s.assessingNow := by
    simp only [State.assessingNow]; exact congrArg (fun b => _ && _ && b && _) hlocked
  have hin : (s.edgesTaken x).inside (s.assessPos x.pos) = s.edges.inside (s.assessPos x.pos) := by
    simp only [EdgeTracker.inside, hlocked, hedges]
  have hassess : ((s.setEdges (s.edgesTaken x)).setBins (s.binsTaken x)).assesses x.pos = s.assesses x.pos := by
    simp only [State.assesses, hnow]; exact congrArg (fun b => _ && b) hin
  have ha : (((s.setEdges (s.edgesTaken x)).setBins (s.binsTaken x)).setPoints (s.pointsTaken x)).absentTaken x
      = s.absentTaken x := by
    simp only [State.absentTaken, ← hassess, ← hnow]; rfl
  have hh : ((((s.setEdges (s.edgesTaken x)).setBins (s.binsTaken x)).setPoints (s.pointsTaken x)).setAbsent
      (s.absentTaken x)).holeTaken x = s.holeTaken x := by
    simp only [State.holeTaken, ← hassess, ← hnow]; rfl
  have hp : ((s.setEdges (s.edgesTaken x)).setBins (s.binsTaken x)).pointsTaken x = s.pointsTaken x := rfl
  have hb : (s.setEdges (s.edgesTaken x)).binsTaken x = s.binsTaken x := rfl
  rw [State.handOn, edgeTake_eq, binTake_eq, hb, pointTake_eq, hp, absentTake_eq, ha, holeTake_eq, hh]
  rfl

end

/-! ## An arrival that ends no window (R1 to R5) -/

/-- A slot is good: the check is right and the sequence number is the expected one, or resync admits any (R3). -/
def GoodSample (s : State) (t : SampleTelegram) : Prop :=
  crc16 (sampleCovered t) = t.check ∧ (t.seq = s.link.expected ∨ s.link.resync = true)

theorem slotGood_iff {s : State} {t : SampleTelegram} :
    slotGood s.link (sampleCheckOk t) t.seq = true ↔ GoodSample s t := by
  simp [slotGood, sampleCheckOk, GoodSample, or_comm]

/-- The accepted sample of an arrival (R3, R5). -/
theorem acceptedOf_arrival {s : State} {t : SampleTelegram} (hsync : s.link.state = .sync) (hg : GoodSample s t) :
    s.link.acceptedOf (.arrival t) = some t := by
  simp [HeadLink.acceptedOf, HeadLink.accepts, hsync, slotGood_iff.mpr hg]

theorem exec_arrival (t : SampleTelegram) (s : State) :
    exec (.sampleTelegramArrival t) s = .next ((s.setHeadRx none).declareSlot (.arrival t)).settle := rfl

/-- The state in which an arrival's slot has been judged and counted (R2 to R4, R37). -/
def State.slotted (s : State) (t : SampleTelegram) : State :=
  ((s.setHeadRx none).setLink ((s.setHeadRx none).link.declare (.arrival t))).periodSlot

section

variable {s : State} {t : SampleTelegram}

theorem slotted_link : (s.slotted t).link = (s.setHeadRx none).link.declare (.arrival t) := rfl

/-- The receiver after a good arrival while the missing-slot timer runs. -/
theorem slotted_link_of_good (hrun : s.link.missingTimer.isRunning = true) (hg : GoodSample s t) :
    (s.slotted t).link = { s.link with
      rx := none, missingTimer := .running 750, expected := t.seq + 1, resync := false, slotCount := s.link.slotCount + 1 } := by
  have hgood : slotGood (s.setHeadRx none).link (sampleCheckOk t) t.seq = true := slotGood_iff.mpr hg
  have hfirst : (s.setHeadRx none).link.firstArrival = (s.setHeadRx none).link := if_pos hrun
  rw [slotted_link, HeadLink.declare, hfirst, hgood, HeadLink.arrive]
  simp [State.setHeadRx, Config.missingFirst]

theorem slotted_link_received : (s.slotted t).link.received
    = ((s.setHeadRx none).link.arrive (slotGood s.link (sampleCheckOk t) t.seq) t.seq).received := by
  rw [slotted_link, HeadLink.declare, HeadLink.firstArrival]
  split
  · rfl
  · simp only [HeadLink.raise]; split <;> rfl

theorem slotted_link_state : (s.slotted t).link.state = s.link.state := (HeadLink.received_eq slotted_link_received).2.1

theorem slotted_period : (s.slotted t).points = { s.points with
    period := s.points.period.map (fun p => { p with slots := p.slots + 1 }) } := rfl

theorem slotted_assessingNow : (s.slotted t).assessingNow = s.assessingNow := by
  simp only [State.assessingNow, slotted_link_state]; rfl

theorem slotted_assesses (pos : Nat) : (s.slotted t).assesses pos = s.assesses pos := by
  simp only [State.assesses, slotted_assessingNow]; rfl

theorem slotted_convert : (s.slotted t).convert t = s.convert t := rfl

/-- A period that has slots to come goes on (R37). -/
theorem pointPeriodEnd_of_more {u : State} (h : u.head.state = .singlePoint → ∀ p, u.points.period = some p → p.slots < p.length) :
    u.pointPeriodEnd = u := by
  simp only [State.pointPeriodEnd]; split
  · next p hs hp =>
    have hlt := h hs p hp
    rw [if_neg (by simp [PointPeriod.over]; omega)]
  · rfl

theorem absentWindowEnd_of_lt {u : State} (h : u.absent.assessed < 64) : u.absentWindowEnd = u := by
  have hfull : u.absent.full = false := decide_eq_false (by simp only [Config.absentWindow]; omega)
  simp [State.absentWindowEnd, hfull]

/-- The sample taken by its consumers, whatever comes of the absence window. -/
def State.taken (s : State) (t : SampleTelegram) : State := (s.slotted t).handOn (s.convert t)

theorem taken_eq : s.taken t = { s.slotted t with
    edges := s.edgesTaken (s.convert t), bins := s.binsTaken (s.convert t)
    points := (s.slotted t).pointsTaken (s.convert t), absent := s.absentTaken (s.convert t)
    hole := s.holeTaken (s.convert t) } := by
  have ha : (s.slotted t).absentTaken (s.convert t) = s.absentTaken (s.convert t) := by
    simp only [State.absentTaken, slotted_assesses, slotted_assessingNow]; rfl
  have hh : (s.slotted t).holeTaken (s.convert t) = s.holeTaken (s.convert t) := by
    simp only [State.holeTaken, slotted_assesses, slotted_assessingNow]; rfl
  rw [State.taken, handOn_eq, ha, hh]
  rfl

/-- The sample of an arrival judged good, once the absence window has been looked at. -/
theorem declareSlot_accepted (hc : s.link.slotCount < 63) (hsync : s.link.state = .sync) (hg : GoodSample s t) :
    (s.setHeadRx none).declareSlot (.arrival t) =
      ((if s.assesses s.head.position.toNat then (s.taken t).absentWindowEnd else s.taken t).stdSlot
        (some (sampleRaw t))).pointPeriodEnd := by
  have hacc : (s.setHeadRx none).link.acceptedOf (.arrival t) = some t := acceptedOf_arrival (s := s.setHeadRx none) hsync hg
  rw [State.declareSlot_plain _ (by exact hc), hacc]
  change State.pointPeriodEnd (State.stdSlot (if (s.slotted t).assesses s.head.position.toNat then _ else _) _) = _
  rw [slotted_assesses]
  rfl

/-- A sample is assessed only while the edge lock is LOCKED (R121). -/
theorem locked_of_assesses {pos : Nat} (h : s.assesses pos = true) : s.edges.locked = true := by
  simp only [State.assesses, State.assessingNow, Bool.and_eq_true] at h
  obtain ⟨⟨⟨-, hl⟩, -⟩, -⟩ := h
  exact hl

theorem absentTaken_of_assessed {x : Sample} (ha : s.assesses x.pos = true) :
    s.absentTaken x = ⟨true, s.absent.assessed + 1, s.absent.present + (if x.present then 1 else 0), s.absent.short⟩ := by
  rw [State.absentTaken, if_pos ha]
  cases x.present <;> rfl

/-- A sample ends no period that has slots to come. -/
theorem taken_period_goesOn (hp : PlainSlot s) (hs : (s.taken t).head.state = .singlePoint) (p : PointPeriod)
    (hper : (s.taken t).points.period = some p) : p.slots < p.length := by
  obtain ⟨-, hmore⟩ := hp
  rw [taken_eq] at hs hper
  have hpoint : (s.slotted t).head.state = .singlePoint := hs
  simp only [State.pointsTaken, if_pos hpoint, slotted_period, Option.map_map, Option.map_eq_some_iff] at hper
  obtain ⟨q, hq, rfl⟩ := hper
  exact hmore q hq

/-- A good arrival outside a procedure that ends neither a window nor a period is taken by the consumers, and that is all. -/
theorem exec_arrival_taken (hp : PlainSlot s) (hidle : s.std.phase = .idle) (hsync : s.link.state = .sync) (hg : GoodSample s t)
    (hw : s.assesses s.head.position.toNat = true → s.absent.assessed < 63) :
    exec (.sampleTelegramArrival t) s = .next (s.taken t).settle := by
  have hc := hp.1
  have htaken : (if s.assesses s.head.position.toNat then (s.taken t).absentWindowEnd else s.taken t) = s.taken t := by
    split
    · next ha => 
      have hlt := hw ha
      refine absentWindowEnd_of_lt ?_
      rw [taken_eq]
      change (s.absentTaken (s.convert t)).assessed < 64
      rw [absentTaken_of_assessed (x := s.convert t) ha]
      change s.absent.assessed + 1 < 64
      omega
    · rfl
  have hphase : (s.taken t).std.phase = .idle := by rw [taken_eq]; exact hidle
  rw [exec_arrival, declareSlot_accepted hc hsync hg, htaken, State.stdSlot_idle _ hphase, pointPeriodEnd_of_more (taken_period_goesOn hp)]

end

end Sys2Proof.Machine

namespace Sys2Proof.Safety

open Sys2Proof Sys2Proof.Machine

theorem edgeRun_take_eq (r : EdgeRun) (present : Bool) (pos : Nat) : r.take present pos = runAfter r present pos := by
  cases present with
  | false => rfl
  | true =>
    simp only [EdgeRun.take, runAfter, Config.edgeConfirm]
    by_cases h0 : r.len = 0
    · simp [h0]
    by_cases h7 : r.len < 7
    · simp [h0, h7, show r.len + 1 < 8 by omega]
    by_cases h8 : r.len = 7
    · simp [h8]
    · simp [h0, h7, h8, show ¬r.len + 1 < 8 by omega, show ¬r.len < 8 by omega]

theorem binPlus_eq (sc : SumCount) (v : Option Nat) : sc.add Config.hold16 v = binPlus sc v := by
  cases v <;> rfl

theorem binsTaken_eq {s : State} (x : Sample) (h : s.head.scan.isSome = true) : s.binsTaken x = binsAfter s x := by
  have hadd : (fun b => BinSums.add b x) = (fun b : BinSums => ⟨binPlus b.bw x.bw, binPlus b.moist x.moist, binPlus b.cal x.cal⟩) := by
    funext b; simp only [BinSums.add, binPlus_eq]
  simp only [State.binsTaken, binsAfter, h, Bool.true_and, hadd, Geometry.binOf]
  by_cases hp : x.present = true
  · by_cases hin : s.recipe.geometry.origin ≤ x.pos ∧ x.pos < s.recipe.geometry.origin + s.recipe.geometry.n * s.recipe.geometry.w
    · simp [hp, hin]
    · rw [if_pos hp, if_neg hin, if_neg (fun h => hin h.2)]; rfl
  · rw [if_neg hp, if_neg (fun h => hp h.1)]

/-- A sample in the period in progress (R106). -/
theorem pointTake_period (p : PointPeriod) (x : Sample) (n : Nat) :
    ({ p with slots := n } : PointPeriod).take x = { (pointPlus p x) with slots := n } := by
  cases hx : x.present with
  | false => simp [PointPeriod.take, pointPlus, hx]
  | true => cases hb : x.bw <;> cases hm : x.moist <;> cases hc : x.cal <;> simp [PointPeriod.take, pointPlus, SumCount.addValid, hx, hb, hm, hc]

/-- Settles O7: the conversion and class of R7 and R8, and the sample of a point period. -/
theorem conversionAndClass : Obligations.ConversionAndClass := by
  refine ⟨fun s t => ?convert, fun s t p hp hpt hper hw hidle hcrc hseq hsync => ?point⟩
  case convert =>
    intro x c th
    refine ⟨convertChannel_eq _ _ _ _, convertChannel_eq _ _ _ _, convertChannel_eq _ _ _ _, ?_, ?_, rfl, rfl⟩
    · have hm : x.moist = moistureOf th x.bw x.water := congrArg (fun n => moistureOf n x.bw x.water) (presentThreshold_eq s)
      rw [hm]
      cases x.bw with
      | none => rfl
      | some b => cases x.water <;> rfl
    · have hpr : x.present = presentOf th x.bw := congrArg (fun n => presentOf n x.bw) (presentThreshold_eq s)
      rw [hpr]
      exact presentOf_iff
  case point =>
    refine ⟨_, exec_arrival_taken hp hidle hsync ⟨hcrc, hseq⟩ (fun h => hw (locked_of_assesses h)), ?_⟩
    rw [settle_points, taken_eq]
    have hpoint : (s.slotted t).head.state = .singlePoint := hpt
    simp only [State.pointsTaken, if_pos hpoint, slotted_period, hper, Option.map_some, pointTake_period]
    exact ⟨trivial, trivial⟩

/-- Settles O20: an accepted sample in a scan goes to the edge tracker and the bins, and nothing else of the scan changes. -/
theorem acceptedSampleInScan : Obligations.AcceptedSampleInScan := by
  intro s t hp hleg hscan hidle hsync hrun hcrc hseq x link points edges
  have hlink : (s.slotted t).link = link := slotted_link_of_good hrun ⟨hcrc, hseq⟩
  have hedges : s.edgesTaken x = edges := by rw [State.edgesTaken, if_pos hscan, edgeRun_take_eq]
  have hpoints : (s.slotted t).pointsTaken x = points := by
    rw [State.pointsTaken, if_neg (show (s.slotted t).head.state ≠ .singlePoint by change s.head.state ≠ _; intro h; rw [h] at hleg; exact absurd hleg (by decide))]
    rfl
  have htaken : s.taken t = { s with
      link := link, points := points, edges := edges, bins := binsAfter s x, absent := s.absentTaken x, hole := s.holeTaken x } := by
    rw [taken_eq, hedges, hpoints, binsTaken_eq x hscan, ← hlink]
    rfl
  refine ⟨fun hu => ?unlocked, fun hw => ?any⟩
  case unlocked =>
    have hnow : s.assessingNow = false := by simp [State.assessingNow, hu]
    have hassess : s.assesses x.pos = false := by simp [State.assesses, hnow]
    rw [exec_arrival_taken hp hidle hsync ⟨hcrc, hseq⟩ (fun h => absurd (locked_of_assesses h) (by simp [hu])), htaken]
    simp only [State.absentTaken, State.holeTaken, hassess, hnow, Bool.false_eq_true, if_false]
  case any =>
    refine ⟨_, exec_arrival_taken hp hidle hsync ⟨hcrc, hseq⟩ (fun h => hw (locked_of_assesses h)), ?_⟩
    rw [htaken]
    exact ⟨rfl, rfl, rfl, rfl, rfl, rfl, rfl, rfl, rfl, rfl, rfl, rfl, rfl, rfl, rfl, rfl, rfl⟩

/-! ## Assessed samples, and samples outside the interval (R121, R142 to R145) -/

theorem measuring_of {h : HeadState} (hm : (∃ leg, h = .scanning leg) ∨ h = .singlePoint) : h.measuring = true := by
  obtain ⟨leg, rfl⟩ | rfl := hm <;> rfl

theorem assessingNow_of {s : State} (hm : s.head.state.measuring = true) (hsync : s.link.state = .sync)
    (hl : s.edges.locked = true) (hv : s.speed.atSpeed = true) : s.assessingNow = true := by
  simp [State.assessingNow, hm, hsync, hl, hv]

theorem assessPos_of_scanning {s : State} {leg : Leg} (h : s.head.state = .scanning leg) (pos : Nat) : s.assessPos pos = pos := by
  simp [State.assessPos, h]

theorem assessPos_of_point {s : State} (h : s.head.state = .singlePoint) (pos : Nat) : s.assessPos pos = s.head.pointPos := by
  simp [State.assessPos, h]

theorem inside_iff {e : EdgeTracker} {x : Edges} (hl : e.locked = true) (hx : e.lockedEdges = some x) (pos : Nat) :
    e.inside pos = true ↔ x.a ≤ pos ∧ pos ≤ x.b := by
  simp [EdgeTracker.inside, hl, hx]

theorem assesses_of_assessed {s : State} {t : SampleTelegram} (h : AssessedArrival s t) :
    s.assesses s.head.position.toNat = true ∧ s.assessingNow = true := by
  obtain ⟨-, -, hsync, hl, hv, -, -, e, he, hpos⟩ := h
  have hm : s.head.state.measuring = true := by
    obtain ⟨hs, -⟩ | ⟨hs, -⟩ := hpos
    · exact measuring_of (Or.inl hs)
    · exact measuring_of (Or.inr hs)
  have hnow := assessingNow_of hm hsync hl hv
  refine ⟨?_, hnow⟩
  rw [State.assesses, hnow, Bool.true_and, inside_iff hl he]
  obtain ⟨⟨leg, hs⟩, hin⟩ | ⟨hs, hin⟩ := hpos
  · rw [assessPos_of_scanning hs]; exact hin
  · rw [assessPos_of_point hs]; exact hin

theorem assesses_of_outside {s : State} {t : SampleTelegram} (h : OutsideArrival s t) :
    s.assesses s.head.position.toNat = false ∧ s.assessingNow = true := by
  obtain ⟨-, -, hsync, hl, hv, -, -, e, he, hpos⟩ := h
  have hm : s.head.state.measuring = true := by
    obtain ⟨hs, -⟩ | ⟨hs, -⟩ := hpos
    · exact measuring_of (Or.inl hs)
    · exact measuring_of (Or.inr hs)
  have hnow := assessingNow_of hm hsync hl hv
  refine ⟨?_, hnow⟩
  rw [State.assesses, hnow, Bool.true_and, ← Bool.not_eq_true, inside_iff hl he]
  obtain ⟨⟨leg, hs⟩, hout⟩ | ⟨hs, hout⟩ := hpos
  · rw [assessPos_of_scanning hs]; omega
  · rw [assessPos_of_point hs]; omega

theorem holeTake_table {h : Hole} (maxRun : Nat) (present : Bool) (hr : h.run ≤ 33) (hc : h.counter ≤ 65535) :
    h.take maxRun present = holeTable h maxRun present := by
  cases present with
  | false =>
    cases hm : h.marker with
    | false => simp [Hole.take, holeTable, hm]
    | true =>
      have hrun : min Config.holeRunHold (h.run + 1) = if h.run < 33 then h.run + 1 else 33 := by
        simp only [Config.holeRunHold]; split <;> omega
      simp [Hole.take, holeTable, hm, hrun]
  | true =>
    cases hm : h.marker with
    | false => simp [Hole.take, holeTable, hm]
    | true =>
      simp only [Hole.take, holeTable, hm, Bool.not_true, Bool.false_eq_true, if_true, if_false]
      by_cases hin : 1 ≤ h.run ∧ h.run ≤ maxRun
      · rw [if_pos hin, if_pos hin]
        by_cases hmax : h.counter = 65535
        · simp [Hole.found, Config.hold16, hmax, hm]
        · simp [Hole.found, Config.hold16, hmax, show h.counter < 65535 by omega, hm]
      · rw [if_neg hin, if_neg hin]

/-- Settles O39: the hole run and the window counts at an assessed sample, and the stretch's end outside the interval. -/
theorem holeRunFollowsTable : Obligations.HoleRunFollowsTable := by
  intro s t
  refine ⟨fun h hlt hrun hcount => ?assessed, fun h => ?outside⟩
  case assessed =>
    obtain ⟨hassess, -⟩ := assesses_of_assessed h
    obtain ⟨hp, hidle, hsync, hl, -, hcrc, hseq, -⟩ := h
    have hassess' : s.assesses (s.convert t).pos = true := hassess
    refine ⟨_, exec_arrival_taken hp hidle hsync ⟨hcrc, hseq⟩ (fun _ => hlt), ?_⟩
    rw [taken_eq]
    refine ⟨?_, ?_, rfl, rfl⟩
    · rw [settle_hole, State.holeTaken, if_pos hassess', holeTake_table _ _ hrun hcount]
    · change s.absentTaken (s.convert t) = _
      rw [absentTaken_of_assessed hassess']
  case outside =>
    obtain ⟨hassess, hnow⟩ := assesses_of_outside h
    obtain ⟨hp, hidle, hsync, hl, -, hcrc, hseq, -⟩ := h
    have hassess' : s.assesses (s.convert t).pos = false := hassess
    refine ⟨_, exec_arrival_taken hp hidle hsync ⟨hcrc, hseq⟩ (fun h => absurd h (by rw [hassess]; simp)), ?_⟩
    rw [taken_eq]
    refine ⟨?_, ?_, rfl, rfl⟩
    · rw [settle_hole, State.holeTaken, hassess', hnow]; rfl
    · change s.absentTaken (s.convert t) = _
      rw [State.absentTaken, hassess', hnow]; rfl

end Sys2Proof.Safety
end

section
/-! SUPPORT. A declared slot queues a HEAD_LINK notice only at the end of a window (R4), and the obligation about slots and
windows. -/

namespace Sys2Proof.Machine

open Sys2Proof Sys2Proof.Safety

/-! ## Entries of one kind -/

/-- The entries of a kind stand as they stood, at ports that hear as they heard. -/
def KindKept (k : NoticeKind) (s t : State) : Prop :=
  ∀ st, (t.ports.get st).present = (s.ports.get st).present ∧ (t.ports.get st).sub = (s.ports.get st).sub
    ∧ (t.ports.get st).entries k = (s.ports.get st).entries k

section

variable {k : NoticeKind} {s t u : State}

theorem KindKept.refl (s : State) : KindKept k s s := fun _ => ⟨rfl, rfl, rfl⟩

theorem KindKept.trans (h : KindKept k s t) (h' : KindKept k t u) : KindKept k s u := fun st => by
  obtain ⟨a, b, c⟩ := h st
  obtain ⟨a', b', c'⟩ := h' st
  exact ⟨a'.trans a, b'.trans b, c'.trans c⟩

theorem KindKept.of_ports (h : t.ports = s.ports) : KindKept k s t := fun st => by rw [h]; exact ⟨rfl, rfl, rfl⟩

theorem After.kindKept (h : After s t) (hk : Lasting k) : KindKept k s t := fun st =>
  ⟨(h.ports st).present, (h.ports st).sub, (h.ports st).entries k hk⟩

theorem KindKept.offer (s : State) {n : Notice} (hn : n.kind ≠ k) : KindKept k s (s.offer n) := fun st => by
  obtain ⟨-, -, -, hpres, hsub, -⟩ := Port.offer_kept n (s.ports.get st)
  rw [State.offer_get]
  exact ⟨hpres, hsub, Port.offer_entries hn _⟩

theorem KindKept.settle (s : State) : KindKept k s s.settle := fun st => by
  obtain ⟨-, hn, -, hpres, hsub, -⟩ := Port.choose_kept (s.ports.get st)
  rw [State.settle_get]
  exact ⟨hpres, hsub, by rw [Port.entries, hn]; rfl⟩

/-- A notice queued before stands after. -/
theorem KindKept.notified {n : Notice} (h : KindKept n.kind s t) (hb : ∀ st, TakesNotice (u.ports.get st) n → (s.ports.get st).Bears n) :
    Notified u t n := fun st ht => ((hb st ht).of_entries (h st).2.2).entry

/-- Who takes a notice before takes it after. -/
theorem KindKept.takes {n : Notice} {st : Station} (h : KindKept k s t) (ht : TakesNotice (s.ports.get st) n) :
    TakesNotice (t.ports.get st) n := TakesNotice.of_eq ht (h st).1 (h st).2.1

theorem KindKept.unheard (h : KindKept k s t) : Unheard s t k := fun st => (h st).2.2

end

/-! ## What queues neither a RECIPE nor a LIMIT notice of its own queues no other lasting kind -/

/-- A kind that only its own occasion queues. -/
def Single (k : NoticeKind) : Prop := Lasting k ∧ k ≠ .recipe ∧ k ≠ .limit

theorem single_headLink : Single .headLink := by simp [Single, lasting_headLink]
theorem single_scanDone : Single .scanDone := by simp [Single, lasting_scanDone]
theorem single_holeReport : Single .holeReport := by simp [Single, lasting_holeReport]

section

variable {k : NoticeKind} (hk : Single k) (s : State)

include hk

theorem clearLimits_kindKept : KindKept k s s.clearLimits := by
  have hset : KindKept k s (s.setLimits .reset) := .of_ports rfl
  obtain e | ⟨j, -, e⟩ := clearLimits_eq s <;> rw [e]
  · exact hset
  · exact hset.trans (.offer _ hk.2.2.symm)

theorem handed_kindKept (i : SlotNo) : KindKept k s (s.handed i) := by
  have hp : KindKept k s ((s.setStore (s.store.activate i)).profileActivation (s.setStore (s.store.activate i)).recipe.layout) :=
    .of_ports (by simp)
  exact hp.trans (clearLimits_kindKept hk _)

theorem activateWith_kindKept {judge : PerDetector Bool → PerDetector Bool → State → State}
    (hj : ∀ a b v, After v (judge a b v)) (i : SlotNo) : KindKept k s (s.activateWith judge i) := by
  have hnews : ∀ v : State, KindKept k v (v.recipeNotice .activated) := fun v =>
    KindKept.offer (n := recipeNews v .activated) v hk.2.1.symm
  have hrest : ∀ v : State, KindKept k v v.redecideIfParked.reaim := fun v =>
    ((redecideIfParked_after v).trans (reaim_after _)).kindKept hk.1
  rw [activateWith_handed]
  exact (((handed_kindKept hk s i).trans ((hj _ _ _).kindKept hk.1)).trans (hnews _)).trans (hrest _)

theorem activate_kindKept (i : SlotNo) : KindKept k s (s.activate i) :=
  activateWith_kindKept hk s (fun a b v => judgeActivationWith_after v (fun v => breakEntryWith_id_after v false) a b) i

theorem activatePending_kindKept : KindKept k s s.activatePending := by
  cases h : s.store.pendingSlot with
  | none => rw [activatePending_of_none h]; exact .refl s
  | some i => rw [activatePending_of_some h]; exact activate_kindKept hk s i

theorem activateInEntry_kindKept : KindKept k s s.activateInEntry := by
  cases h : s.store.pendingSlot with
  | none => rw [activateInEntry_of_none h]; exact .refl s
  | some i =>
    rw [activateInEntry_of_some h]
    exact activateWith_kindKept hk s (fun a b v => judgeInEntry_after v a b) i

theorem scanAbortWith_kindKept {act : State → State} (hact : ∀ v, KindKept k v (act v)) : KindKept k s (s.scanAbortWith act) := by
  cases h : s.head.scan with
  | none => rw [scanAbortWith_of_none _ h]; exact .refl s
  | some x =>
    rw [scanAbortWith_of_some _ h]
    exact (((voided_after s).trans (deferredAtAbort_after _)).kindKept hk.1).trans (hact _)

theorem breakEntry_kindKept (absent : Bool) : KindKept k s (s.breakEntry absent) := by
  have hclaim : ∀ v : State, KindKept k v (v.claimTakesEffectWith State.activateInEntry) := fun v => by
    simp only [State.claimTakesEffectWith]; split
    · have h : KindKept k v (v.toHead .returning) := .of_ports (by simp)
      exact (h.trans (scanAbortWith_kindKept hk _ (activateInEntry_kindKept hk))).trans ((beginReturning_after _ _).kindKept hk.1)
    · exact (beginReturning_after v _).kindKept hk.1
    · have h : KindKept k v v.dropPeriod := .of_ports rfl
      exact h.trans ((beginReturning_after _ _).kindKept hk.1)
    · exact ((stdAbort_decision v).after.trans (enterHead_decision _ _ _).after).kindKept hk.1
    all_goals exact .refl v
  have hset : KindKept k s (s.setBrk (s.brk.broken absent)) := .of_ports rfl
  exact ((hset.trans (hclaim _)).trans ((breakTail_after _).kindKept hk.1)).trans ((judgeThreading_after _).kindKept hk.1)

theorem faultEntry_kindKept (cause : FaultCause) : KindKept k s (s.faultEntry cause) := by
  have hdrop : ∀ v : State, KindKept k v v.dropPeriod := fun v => .of_ports rfl
  have htail : ∀ v : State, KindKept k v v.faultTail := fun v =>
    (hdrop v).trans (((stdAbort_decision _).after.trans (headNotice_after _)).kindKept hk.1)
  exact (((faulted_after s cause).kindKept hk.1).trans (scanAbortWith_kindKept hk _ (activatePending_kindKept hk))).trans (htail _)

/-! ## The parts of a declared slot -/

theorem absentWindowEnd_kindKept : KindKept k s s.absentWindowEnd := by
  have hnext : KindKept k s s.absentNextWindow := .of_ports (by simp)
  simp only [State.absentWindowEnd]; split
  · split
    · split
      · exact hnext.trans (breakEntry_kindKept hk _ _)
      · exact hnext
    · split
      · exact hnext.trans (breakEntry_kindKept hk _ _)
      · exact hnext
    all_goals exact hnext
  · exact .refl s

theorem takeSample_kindKept (t : Option SampleTelegram) : KindKept k s (s.takeSample t) := by
  cases t with
  | none => exact .refl s
  | some y =>
    have hon : KindKept k s (s.handOn (s.convert y)) := .of_ports (by simp)
    simp only [State.takeSample]; split
    · exact hon.trans (absentWindowEnd_kindKept hk _)
    · exact hon

theorem stdEnded_kindKept : KindKept k s s.stdEnded := by
  simp only [State.stdEnded]; split
  · exact (decideParked_after s).kindKept hk.1
  all_goals exact .refl s

theorem withdrawEnd_kindKept : KindKept k s s.withdrawEnd := by
  have hcommit : KindKept k s s.stdCommit :=
    KindKept.trans (.of_ports (by simp)) ((stdNotice_after _).kindKept hk.1)
  have hfail : KindKept k s s.stdFail :=
    KindKept.trans (.of_ports (by simp)) ((stdNotice_after _).kindKept hk.1)
  simp only [State.withdrawEnd]; split
  · exact hcommit.trans (stdEnded_kindKept hk _)
  · split
    · exact hfail.trans (faultEntry_kindKept hk _ _)
    · exact hfail.trans (stdEnded_kindKept hk _)

theorem stdSlot_kindKept (raw : Option RawSample) : KindKept k s (s.stdSlot raw) := by
  simp only [State.stdSlot]; split
  · exact .refl s
  · exact .of_ports (by simp)
  · split
    · exact .of_ports (by simp)
    · split
      · exact .of_ports (by simp)
      · exact .refl s
  · split
    · exact withdrawEnd_kindKept hk s
    · exact .refl s

theorem linkLost_kindKept : KindKept k s s.linkLost := by
  have hmark : KindKept k s s.markLinkGaps.stopAssessment := .of_ports (by simp)
  simp only [State.linkLost]; split
  · exact hmark
  · exact hmark.trans (((stdAbort_decision _).after.kindKept hk.1).trans (stdEnded_kindKept hk _))

theorem pointPeriodEnd_kindKept : KindKept k s s.pointPeriodEnd := by
  have hend : ∀ v : State, KindKept k v v.decidePeriodEnd := fun v => by
    simp only [State.decidePeriodEnd]; split
    · exact (beginReturning_after v _).kindKept hk.1
    · split
      · exact .of_ports (by simp)
      · exact (beginPositioning_after v _ _).kindKept hk.1
    · exact (beginApproach_after v _).kindKept hk.1
    all_goals exact (beginReturning_after v _).kindKept hk.1
  simp only [State.pointPeriodEnd]; split
  · split
    · exact KindKept.trans (.of_ports (by simp)) (hend _)
    · exact .refl s
  · exact .refl s

end

/-! ## The 64th slot of a window (R4) -/

/-- The state in which a declared slot finds the end of its window. -/
def State.beforeWindowEnd (s : State) (d : SlotDecl) : State :=
  (((s.setLink (s.link.declare d)).periodSlot.takeSample (s.link.acceptedOf d)).stdSlot ((s.link.acceptedOf d).map sampleRaw))

theorem declareSlot_eq (s : State) (d : SlotDecl) : s.declareSlot d = (s.beforeWindowEnd d).linkWindowEnd.pointPeriodEnd := rfl

theorem beforeWindowEnd_kindKept {k : NoticeKind} (hk : Single k) (s : State) (d : SlotDecl) : KindKept k s (s.beforeWindowEnd d) := by
  have hslot : KindKept k s (s.setLink (s.link.declare d)).periodSlot := .of_ports (by simp)
  exact (hslot.trans (takeSample_kindKept hk _ _)).trans (stdSlot_kindKept hk _ _)

/-- What the end of a window tells: a HEAD_LINK notice when the link state changes. -/
theorem declareSlot_headLink {s : State} {d : SlotDecl} {result : LinkState} {bad : Nat}
    (hl : (s.beforeWindowEnd d).link.windowEnd.state = result) (hfull : 64 ≤ (s.beforeWindowEnd d).link.slotCount)
    (hwas : (s.beforeWindowEnd d).link.state = s.link.state) (hbad : (s.beforeWindowEnd d).link.badCount = bad) :
    (result ≠ s.link.state → Notified s (s.declareSlot d).settle (.headLink result bad))
    ∧ (result = s.link.state → Unheard s (s.declareSlot d).settle .headLink) := by
  have hbefore := beforeWindowEnd_kindKept single_headLink s d
  have hafter : KindKept .headLink (s.beforeWindowEnd d).windowTold (s.declareSlot d).settle := by
    refine (KindKept.trans ?_ (pointPeriodEnd_kindKept single_headLink _)).trans (.settle _)
    change KindKept _ _ (s.beforeWindowEnd d).linkWindowEnd
    rw [linkWindowEnd_eq hfull]; split
    · exact linkLost_kindKept single_headLink _
    · exact .refl _
  have htold : (s.beforeWindowEnd d).windowTold = if result = s.link.state then
      (s.beforeWindowEnd d).setLink (s.beforeWindowEnd d).link.windowEnd
      else ((s.beforeWindowEnd d).setLink (s.beforeWindowEnd d).link.windowEnd).offer (.headLink result bad) := by
    simp only [State.windowTold, State.setLink_link, hl, hwas, hbad]
  have hset : KindKept .headLink (s.beforeWindowEnd d) ((s.beforeWindowEnd d).setLink (s.beforeWindowEnd d).link.windowEnd) :=
    .of_ports rfl
  refine ⟨fun hne => ?_, fun heq => ?_⟩
  · rw [if_neg hne] at htold
    refine KindKept.notified (n := .headLink result bad) hafter fun st ht => ?_
    rw [htold]
    exact bears_offer ((hbefore.trans hset).takes ht)
  · rw [if_pos heq] at htold
    rw [htold] at hafter
    exact ((hbefore.trans hset).trans hafter).unheard

/-! ## The receiver through a declared slot (R2 to R4) -/

theorem arrive_received {a b : HeadLink} (h : a.received = b.received) (good : Bool) (seq : Byte) :
    (a.arrive good seq).received = (b.arrive good seq).received := by
  have hw : ∀ l : HeadLink, (l.arrive good seq).received = l.received.arrive good seq := fun _ => rfl
  rw [hw, hw, h]

/-- The receiver's part of an arrival's declaration. -/
theorem declare_arrival_received (l : HeadLink) (t : SampleTelegram) :
    (l.declare (.arrival t)).received = (l.arrive (slotGood l (sampleCheckOk t) t.seq) t.seq).received :=
  arrive_received (HeadLink.firstArrival_received l) _ _

theorem exec_missingSlot {s : State} (h : s.link.missingTimer.isRunning = true) :
    exec .missingSlot s = .next (s.declareSlot .missing).settle := by
  have e : exec .missingSlot s = (s.declareIf true .missing).done := rfl
  rw [e, State.declareIf, if_pos (by simp [State.canDeclare, h]), State.done_eq]

/-- Each declaration by its plain command. -/
theorem exec_slotCommand {s : State} (d : SlotDecl) (h : s.link.missingTimer.isRunning = true) :
    exec (slotCommand d) s = .next ((s.beforeSlot d).declareSlot d).settle := by
  cases d with
  | arrival t => rfl
  | missing => exact exec_missingSlot h

theorem canDeclare_of_running {s : State} (d : SlotDecl) (h : s.link.missingTimer.isRunning = true) : s.canDeclare d = true := by
  cases d with
  | arrival t => rfl
  | missing => exact h

theorem exec_windowEnd {s : State} (d : SlotDecl) (hfull : 63 ≤ s.link.slotCount) (h : s.link.missingTimer.isRunning = true) :
    exec (.windowEnd d) s = .next ((s.beforeSlot d).declareSlot d).settle := by
  have e : exec (.windowEnd d) s = (if s.endsWindow && s.canDeclare d then (s.beforeSlot d).declareSlot d else s).done := rfl
  have hends : s.endsWindow = true := decide_eq_true (by simp only [Config.windowSlots]; omega)
  rw [e, hends, canDeclare_of_running d h, State.done_eq]
  rfl

/-! ## The 64th slot at the receiver, and a slot that is dropped -/

theorem windowResult_eq (n : Nat) : windowResult n = if n < 5 then .sync else .lost := rfl

/-- What the receiver makes of the 64th slot of a window (R2 to R4). -/
theorem declare_closed {s : State} {d : SlotDecl} (hfull : s.link.slotCount = 63) (hrun : s.link.missingTimer.isRunning = true) :
    ((s.beforeSlot d).link.declare d).windowEnd = closedLink s d ∧ ((s.beforeSlot d).link.declare d).badCount = badAtEnd s d
      ∧ ((s.beforeSlot d).link.declare d).slotCount = 64 ∧ ((s.beforeSlot d).link.declare d).state = s.link.state := by
  cases d with
  | missing =>
    refine ⟨?_, rfl, congrArg (· + 1) hfull, rfl⟩
    simp [State.beforeSlot, HeadLink.declare, HeadLink.miss, HeadLink.windowEnd, windowResult_eq, closedLink, badAtEnd, goodSlot,
      beq_eq_decide, Config.missingNext]
  | arrival t =>
    have hfirst : (s.setHeadRx none).link.firstArrival = (s.setHeadRx none).link := if_pos hrun
    have hgood : slotGood (s.setHeadRx none).link (sampleCheckOk t) t.seq = goodSlot s (.arrival t) := by
      rw [Bool.eq_iff_iff, goodSlot, decide_eq_true_eq]; exact slotGood_iff
    have e : ((s.beforeSlot (.arrival t)).link.declare (.arrival t))
        = (s.setHeadRx none).link.arrive (goodSlot s (.arrival t)) t.seq := by
      change (s.setHeadRx none).link.firstArrival.arrive (slotGood (s.setHeadRx none).link (sampleCheckOk t) t.seq) t.seq = _
      rw [hfirst, hgood]
    rw [e]
    refine ⟨?_, ?_, congrArg (· + 1) hfull, rfl⟩
    · cases hg : goodSlot s (.arrival t) <;>
        simp [HeadLink.arrive, HeadLink.windowEnd, windowResult_eq, closedLink, badAtEnd, hg, beq_eq_decide, State.setHeadRx,
          Config.missingFirst]
    · cases hg : goodSlot s (.arrival t) <;> simp [HeadLink.arrive, badAtEnd, hg, State.setHeadRx]

/-- A link is known by its receiver and by the commands on their way. -/
theorem eq_of_received {a b : HeadLink} (h : a.received = b.received) : a = { b with sending := a.sending, waiting := a.waiting } := by
  cases a; cases b
  simpa [HeadLink.received] using h

theorem acceptedOf_of_dropped {s : State} {d : SlotDecl} (h : goodSlot s d = false ∨ s.link.state = .lost) :
    (s.beforeSlot d).link.acceptedOf d = none := by
  cases d with
  | missing => rfl
  | arrival t =>
    refine if_neg ?_
    rw [HeadLink.accepts, Bool.and_eq_true, beq_iff_eq]
    rintro ⟨hgood, hsync⟩
    have hg : GoodSample s t := slotGood_iff.mp hgood
    obtain h | h := h
    · rw [goodSlot, decide_eq_false_iff_not] at h; exact h hg
    · have hsync' : s.link.state = .sync := hsync
      rw [h] at hsync'; exact absurd hsync' (by simp)

theorem beforeSlot_ports (s : State) (d : SlotDecl) : (s.beforeSlot d).ports = s.ports := by cases d <;> rfl

/-- The state of a dropped slot that has been judged and counted. -/
def State.counted64 (s : State) (d : SlotDecl) : State := { s with
  link := (s.beforeSlot d).link.declare d
  points := { s.points with period := s.points.period.map (fun p => { p with slots := p.slots + 1 }) } }

theorem beforeWindowEnd_of_dropped {s : State} {d : SlotDecl} (h : goodSlot s d = false ∨ s.link.state = .lost)
    (hidle : s.std.phase = .idle) : (s.beforeSlot d).beforeWindowEnd d = s.counted64 d := by
  have hphase : (((s.beforeSlot d).setLink ((s.beforeSlot d).link.declare d)).periodSlot.takeSample none).std.phase = .idle := by
    cases d <;> exact hidle
  rw [State.beforeWindowEnd, acceptedOf_of_dropped h, Option.map_none, State.stdSlot_idle _ hphase]
  cases d <;> rfl

/-- A LOST window outside a procedure (R4, R124). -/
theorem linkLost_of_idle {v : State} (h : v.std.phase = .idle) : v.linkLost = { v with
    ring := v.ring.onFilling (fun r => { r with quality := { r.quality with linkGaps := true } })
    points := { v.points with period := v.points.period.map (fun p => { p with linkGaps := true }) }
    absent := ⟨false, 0, 0, false⟩
    hole := { v.hole with run := 0, marker := false } } := by
  have hphase : v.markLinkGaps.stopAssessment.std.phase = .idle := by simpa using h
  simp only [State.linkLost, hphase, if_true]
  rfl

end Sys2Proof.Machine

namespace Sys2Proof.Safety

open Sys2Proof Sys2Proof.Machine

theorem slotsJudged : SlotsJudgedByCheckAndSequence := by
  refine ⟨fun t s hc => ?arrival, fun s hc hrun => ?missing⟩
  case arrival =>
    refine ⟨_, exec_arrival t s, ?_⟩
    have hr := (State.declareSlot_received (s := s.setHeadRx none) (.arrival t) hc).trans (declare_arrival_received _ t)
    obtain ⟨hrx, hst, hre, hex, hco, hb, hm⟩ := HeadLink.received_eq hr
    rw [settle_link, hrx, hst, hre, hex, hco, hb, hm]
    refine ⟨rfl, rfl, rfl, rfl, ?_⟩
    have hgood : slotGood (s.setHeadRx none).link (sampleCheckOk t) t.seq = true ↔ GoodSample s t := slotGood_iff
    split
    · next hg => rw [hgood.mpr hg]; simp [HeadLink.arrive, State.setHeadRx]
    · next hg =>
      have hbad : slotGood (s.setHeadRx none).link (sampleCheckOk t) t.seq = false := by
        rw [← Bool.not_eq_true, hgood]; exact hg
      rw [hbad]; simp [HeadLink.arrive, State.setHeadRx]
  case missing =>
    refine ⟨_, exec_missingSlot hrun, ?_⟩
    obtain ⟨hrx, hst, hre, hex, hco, hb, hm⟩ := HeadLink.received_eq (State.declareSlot_received .missing hc)
    rw [settle_link, hrx, hst, hre, hex, hco, hb, hm]
    exact ⟨rfl, rfl, rfl, rfl, rfl, rfl, rfl⟩

theorem windowEndDecidesLink : WindowEndDecidesLink := by
  intro s d hfull hrun result bad
  obtain ⟨hclosed, hbad, hcount, hstate⟩ := declare_closed (d := d) hfull hrun
  have hwas : (s.beforeSlot d).link.state = s.link.state := by cases d <;> rfl
  have hrec : ((s.beforeSlot d).beforeWindowEnd d).link.received = ((s.beforeSlot d).link.declare d).received := by
    simp [State.beforeWindowEnd]
  obtain ⟨-, hst, -, -, hco, hba, -⟩ := HeadLink.received_eq hrec
  have hfull64 : 64 ≤ ((s.beforeSlot d).beforeWindowEnd d).link.slotCount := by rw [hco, hcount]
  refine ⟨⟨_, exec_windowEnd d (by omega) hrun, exec_slotCommand d hrun, ?link, ?news⟩, fun hdrop hidle hpoint => ?dropped⟩
  case link =>
    refine eq_of_received ?_
    rw [settle_link, declareSlot_received, HeadLink.declared, if_pos (by rw [hcount]), hclosed]
  case news =>
    have hresult : ((s.beforeSlot d).beforeWindowEnd d).link.windowEnd.state = result := by
      change windowResult _ = _
      rw [hba, hbad]; rfl
    have h := declareSlot_headLink (s := s.beforeSlot d) (d := d) hresult hfull64 (by rw [hst, hstate, hwas]) (hba.trans hbad)
    rw [hwas] at h
    simp only [Notified, Unheard, beforeSlot_ports] at h ⊢
    exact h
  case dropped =>
    intro lost told
    have hb : (s.beforeSlot d).beforeWindowEnd d = s.counted64 d := beforeWindowEnd_of_dropped hdrop hidle
    have hlink : (s.counted64 d).link.windowEnd = closedLink s d := hclosed
    have htold : (s.counted64 d).windowTold = told { (s.counted64 d) with link := closedLink s d } := by
      simp only [State.windowTold, State.setLink_link, hlink, told]
      change (if (closedLink s d).state = ((s.beforeSlot d).link.declare d).state then _ else
        State.offer _ (.headLink (closedLink s d).state ((s.beforeSlot d).link.declare d).badCount)) = _
      rw [hstate, hbad]
      rfl
    have hnone : ∀ v : State, v.head.state = s.head.state → v.pointPeriodEnd = v := fun v hv =>
      pointPeriodEnd_of_more fun h => absurd (hv.symm.trans h) hpoint
    rw [exec_windowEnd d (by omega) hrun, declareSlot_eq, hb, linkWindowEnd_eq (by exact hcount.ge), htold]
    have hkept : ∀ x : State, (told x).link = x.link ∧ (told x).std = x.std ∧ (told x).head = x.head := fun x => by
      simp only [told]; split <;> exact ⟨rfl, rfl, rfl⟩
    obtain ⟨hl, hs, hh⟩ := hkept { s.counted64 d with link := closedLink s d }
    rw [hl]
    by_cases hlost : result = .lost
    · have hl' : lost = true := decide_eq_true hlost
      rw [if_pos hlost, linkLost_of_idle (by rw [hs]; exact hidle), hl', hnone _ (by exact congrArg (fun h => h.state) hh)]
      have hmap : ((s.counted64 d).points.period.map (fun p => { p with linkGaps := true }))
          = s.points.period.map (fun p => { p with slots := p.slots + 1, linkGaps := p.linkGaps || true }) := by
        simp [State.counted64, Option.map_map, Function.comp_def]
      rw [← hmap]
      simp only [told]; split <;> rfl
    · have hl' : lost = false := decide_eq_false hlost
      rw [if_neg hlost, hl', hnone _ (by exact congrArg (fun h => h.state) hh)]
      simp only [told, Bool.or_false, Bool.false_eq_true, if_false]
      split <;> rfl

/-- Settles O4: the slot's judgement by the receiver, and the link state that a window's 64th slot decides. -/
theorem slotsAndWindowsJudged : Obligations.SlotsAndWindowsJudged := ⟨slotsJudged, windowEndDecidesLink⟩

end Sys2Proof.Safety
end

section
/-! SUPPORT. The expiries of the standardization unit's two timers (R15, R17), and the obligation about them. -/

namespace Sys2Proof.Machine

open Sys2Proof Sys2Proof.Safety

section

variable {s : State}

/-- A fault of a head that is standardizing, its procedure ended, has no scan to abort and no period to drop but the stored
one. -/
theorem faultEntry_of_standardizing (cause : FaultCause) (hh : s.head.state = .standardizing) (hs : s.head.scan = none)
    (hi : s.std.phase = .idle) : s.faultEntry cause = State.headNotice { s with
      head := { s.head with
        state := .fault, cause := cause, grant := .none, drvEn := false, drvSpd := 0, encTimer := .stopped,
        homingTimer := .stopped }
      points := { s.points with period := none } } := by
  have hleave : leavesMeasuring s.driveOff.head.state .fault = false := by
    simp [State.driveOff, hh, leavesMeasuring]
  have hfaulted : s.faulted cause = { s with
      head := { s.head with
        state := .fault, cause := cause, grant := .none, drvEn := false, drvSpd := 0, encTimer := .stopped,
        homingTimer := .stopped } } := by
    rw [State.faulted, State.toHead, if_neg (by simp [hleave])]
    rfl
  rw [State.faultEntry, faultEntryWith_eq, scanAbortWith_of_none _ (by simp [hs]), stdAbort_of_idle (by simp [hi]), hfaulted]
  rfl

theorem exec_tileTimerExpiry (h : s.std.phase = .reference) (hc : s.std.collecting = false) :
    exec .tileTimerExpiry s = .next s.tileExpired.settle := by
  change State.done (if s.std.awaitsTile then s.tileExpired else s) = _
  rw [if_pos (by simp [StdUnit.awaitsTile, h, hc])]
  rfl

theorem exec_withdrawTimerExpiry (h : s.std.phase = .withdraw) :
    exec .withdrawTimerExpiry s = .next (s.stuckTile.faultEntry .tile).settle := by
  change State.done (if s.std.phase = .withdraw then s.stuckTile.faultEntry .tile else s) = _
  rw [if_pos h]
  rfl

end

end Sys2Proof.Machine

namespace Sys2Proof.Safety

open Sys2Proof Sys2Proof.Machine

/-- Settles O9, each half by the command's one branch; the fault finds the unit at rest after R19. -/
theorem stdTimersExpire : Obligations.StdTimersExpire := by
  refine ⟨fun s hr hc => ?_, fun s hw hh hs => ?_⟩
  · rw [exec_tileTimerExpiry hr hc]
    simp [State.tileExpired, State.enterWithdraw, State.raise, hc, Config.withdraw]
    rfl
  · rw [exec_withdrawTimerExpiry hw, faultEntry_of_standardizing (s := s.stuckTile) .tile hh hs rfl]
    rfl

end Sys2Proof.Safety
end

section
/-! SUPPORT. What a decision leaves as it is when nothing is to be standardized or adopted, and the obligation about the end of
a standardization by the tile clearing (R18, R19). -/

namespace Sys2Proof.Machine

open Sys2Proof Sys2Proof.Safety

/-! ## Decisions without a claim of the standardization unit -/

/-- The constants, the standardization unit and the mode slots are as in another state. -/
structure UnitKept (s t : State) : Prop where
  conv : t.conv = s.conv
  std : t.std = s.std
  slots : t.head.slots = s.head.slots

/-- The unit is at rest, nothing asks for a procedure, and no set of constants waits to be adopted. -/
structure UnitRests (s : State) : Prop where
  idle : s.std.phase = .idle
  due : s.std.stdDue = false
  slots : ∀ st, s.head.slots.get st ≠ .standardize
  adopted : s.conv.pendingSet = none

/-- The head is not standardizing, and a fault it stands in is one of the drive. -/
def OnlyDriveFault (s : State) : Prop :=
  s.head.state ≠ .standardizing ∧ (s.head.state = .fault → s.head.cause = .drive)

theorem UnitKept.refl (s : State) : UnitKept s s := ⟨rfl, rfl, rfl⟩

section

variable {s t u : State}

theorem UnitKept.trans (h : UnitKept s t) (h' : UnitKept t u) : UnitKept s u :=
  ⟨h'.conv.trans h.conv, h'.std.trans h.std, h'.slots.trans h.slots⟩

theorem UnitRests.of_kept (h : UnitRests s) (hk : UnitKept s t) : UnitRests t :=
  ⟨by rw [hk.std]; exact h.idle, by rw [hk.std]; exact h.due, by rw [hk.slots]; exact h.slots, by rw [hk.conv]; exact h.adopted⟩

theorem UnitRests.winner_ne (h : UnitRests s) : s.winner ≠ .standardize := by
  have hclaim : s.stdClaim = false := by
    rw [Bool.eq_false_iff, ne_eq, stdClaim_iff, h.due]
    simp [h.slots]
  simp only [State.winner, State.lowWinner, hclaim]
  split
  · simp
  · split
    · simp
    · rw [if_neg (by simp)]
      split
      · simp
      · split <;> simp

theorem faultStill_conv (cause : FaultCause) (h : s.std.phase = .idle) : (s.faultStill cause).conv = s.conv := by
  have hstd : (((s.faulted cause).scanAbortWith id).dropPeriod).std.phase = .idle := by
    rw [dropPeriod_std, scanAbortWith_std id (fun _ => rfl)]
    simpa [State.faulted] using h
  rw [State.faultStill, faultEntryWith_eq, stdAbort_of_idle hstd, headNotice_conv, dropPeriod_conv,
    scanAbortWith_conv id (fun _ => rfl)]
  simp [State.faulted]

theorem faultStill_kept (cause : FaultCause) (h : s.std.phase = .idle) : UnitKept s (s.faultStill cause) :=
  ⟨faultStill_conv cause h, faultStill_std cause h, by simp⟩

theorem faultStill_onlyDrive : OnlyDriveFault (s.faultStill .drive) := by simp [OnlyDriveFault]

theorem startScan_conv (dir : ScanDir) (a : Bool) (h : s.conv.pendingSet = none) : (s.startScan dir a).conv = s.conv := by
  have had := adopt_of_none h
  cases a <;> simp [startScan_eq, State.onLeg, State.scanReady, had]

theorem approaching_conv (g : Grant) : (s.approaching g).conv = s.conv := by
  simp only [State.approaching]; split <;> simp

theorem approaching_kept (g : Grant) : UnitKept s (s.approaching g) := ⟨approaching_conv g, approaching_std g, by simp⟩

theorem positioning_kept (st : Station) (p : Nat) : UnitKept s (s.positioning st p) :=
  ⟨by simp [State.positioning], positioning_std st p, by simp⟩

theorem returning_kept (g : Grant) : UnitKept s (s.returning g) :=
  ⟨by simp [State.returning], by simp [State.returning], by simp⟩

theorem startPeriod_kept (h : s.conv.pendingSet = none) : UnitKept s s.startPeriod := by
  simp only [State.startPeriod, adopt_of_none h]
  exact ⟨rfl, rfl, rfl⟩

theorem arrivePoint_kept (h : s.conv.pendingSet = none) : UnitKept s s.arrivePoint := by
  have hnear : UnitKept s (s.driveOff.toHead .singlePoint).headNotice := ⟨by simp, by simp, by simp [State.driveOff]⟩
  exact hnear.trans (startPeriod_kept (by rw [hnear.conv]; exact h))

theorem beginApproach_kept (g : Grant) (h : UnitRests s) : UnitKept s (s.beginApproach g) ∧ OnlyDriveFault (s.beginApproach g) := by
  rw [beginApproach_eq]
  split
  · exact ⟨faultStill_kept _ h.idle, faultStill_onlyDrive⟩
  · have hleft := approaching_kept (s := s) g
    split
    · have hrests := h.of_kept hleft
      refine ⟨hleft.trans ⟨startScan_conv _ _ hrests.adopted, by simp [State.arriveApproach], startScan_slots _ _⟩, ?_⟩
      simp [OnlyDriveFault, State.arriveApproach]
    · exact ⟨hleft, by simp [OnlyDriveFault]⟩

theorem beginPositioning_kept (st : Station) (p : Nat) (h : UnitRests s) :
    UnitKept s (s.beginPositioning st p) ∧ OnlyDriveFault (s.beginPositioning st p) := by
  rw [beginPositioning_eq]
  split
  · exact ⟨faultStill_kept _ h.idle, faultStill_onlyDrive⟩
  · have hleft := positioning_kept (s := s) st p
    split
    · exact ⟨hleft.trans (arrivePoint_kept (h.of_kept hleft).adopted), by simp [OnlyDriveFault, arrivePoint_head]⟩
    · exact ⟨hleft, by simp [OnlyDriveFault]⟩

theorem stayParked_kept (g : Grant) : UnitKept s (s.stayParked g) ∧ OnlyDriveFault (s.stayParked g) :=
  ⟨⟨by simp, by simp, by simp⟩, by simp [OnlyDriveFault]⟩

/-- A decision of a head at park with nothing to standardize. -/
theorem decideParked_kept (h : UnitRests s) : UnitKept s s.decideParked ∧ OnlyDriveFault s.decideParked := by
  rw [decideParked_eq, if_neg h.winner_ne]
  cases s.winner with
  | point st p => exact beginPositioning_kept st p h
  | scan => exact beginApproach_kept _ h
  | _ => exact stayParked_kept _

theorem beginReturning_kept (g : Grant) (h : UnitRests s) :
    UnitKept s (s.beginReturning g) ∧ OnlyDriveFault (s.beginReturning g) := by
  rw [beginReturning_eq]
  split
  · exact ⟨faultStill_kept _ h.idle, faultStill_onlyDrive⟩
  · have hleft := returning_kept (s := s) g
    split
    · have hpark : UnitKept s (((s.returning g).driveOff.toHead .parked).headNotice) :=
        hleft.trans ⟨by simp, by simp, by simp [State.driveOff]⟩
      obtain ⟨hkept, honly⟩ := decideParked_kept (h.of_kept hpark)
      exact ⟨hpark.trans hkept, honly⟩
    · exact ⟨hleft, by simp [OnlyDriveFault]⟩

theorem decidePeriodEnd_kept (h : UnitRests s) (ho : OnlyDriveFault s) :
    UnitKept s s.decidePeriodEnd ∧ OnlyDriveFault s.decidePeriodEnd := by
  simp only [State.decidePeriodEnd]
  cases hw : s.winner with
  | standardize => exact absurd hw h.winner_ne
  | point st p =>
    dsimp only
    split
    · have hgrant : UnitKept s (s.grantTo (.point st p)) := ⟨rfl, rfl, rfl⟩
      refine ⟨hgrant.trans (startPeriod_kept h.adopted), ?_⟩
      simpa [OnlyDriveFault, State.grantTo] using ho
    · exact beginPositioning_kept st p h
  | scan => exact beginApproach_kept _ h
  | _ => exact beginReturning_kept _ h

theorem pointPeriodEnd_kept (h : UnitRests s) (ho : OnlyDriveFault s) :
    UnitKept s s.pointPeriodEnd ∧ OnlyDriveFault s.pointPeriodEnd := by
  simp only [State.pointPeriodEnd]; split
  · next p hp _ =>
    split
    · have hrec : UnitKept s (s.recordPeriod p) := ⟨by simp, by simp, by simp⟩
      have hrec' : OnlyDriveFault (s.recordPeriod p) := by simpa [OnlyDriveFault] using ho
      obtain ⟨hkept, honly⟩ := decidePeriodEnd_kept (h.of_kept hrec) hrec'
      exact ⟨hrec.trans hkept, honly⟩
    · exact ⟨.refl s, ho⟩
  · exact ⟨.refl s, ho⟩

end

/-! ## A slot of a head that is standardizing -/

/-- The state in which a declared slot is put to the standardization unit (R2 to R5). -/
def State.beforeUnit (s : State) (d : SlotDecl) : State :=
  ((s.beforeSlot d).setLink ((s.beforeSlot d).link.declare d)).periodSlot.takeSample ((s.beforeSlot d).link.acceptedOf d)

section

variable {s : State} {d : SlotDecl}

/-- A slot that ends no window comes to the unit, and then to the end of a period. -/
theorem declareSlot_beforeUnit (hc : s.link.slotCount < 63) : (s.beforeSlot d).declareSlot d =
    ((s.beforeUnit d).stdSlot (((s.beforeSlot d).link.acceptedOf d).map sampleRaw)).pointPeriodEnd :=
  State.declareSlot_plain _ (by cases d <;> exact hc)

theorem acceptedOf_beforeSlot : (s.beforeSlot d).link.acceptedOf d = acceptedSlot s d := by
  cases d with
  | missing => rfl
  | arrival t =>
    have hiff : (s.beforeSlot (.arrival t)).link.accepts t = true
        ↔ s.link.state = .sync ∧ crc16 (sampleCovered t) = t.check ∧ (t.seq = s.link.expected ∨ s.link.resync = true) := by
      rw [HeadLink.accepts, Bool.and_eq_true, beq_iff_eq]
      exact (and_congr_left' slotGood_iff).trans and_comm
    simp only [HeadLink.acceptedOf, acceptedSlot, hiff]

/-- With the head standardizing no sample is assessed, so a slot reaches the unit with head, unit and constants as they were. -/
theorem takeSample_of_standardizing {v : State} (h : v.head.state = .standardizing) (x : Option SampleTelegram) :
    (v.takeSample x).head = v.head ∧ (v.takeSample x).std = v.std ∧ (v.takeSample x).conv = v.conv
      ∧ (v.takeSample x).link = v.link := by
  cases x with
  | none => exact ⟨rfl, rfl, rfl, rfl⟩
  | some t =>
    have hno : ∀ pos, v.assesses pos = false := fun pos => by
      simp [State.assesses, State.assessingNow, h, HeadState.measuring]
    have e : v.takeSample (some t) = v.handOn (v.convert t) := if_neg (by simp [hno])
    rw [e, handOn_eq]
    exact ⟨rfl, rfl, rfl, rfl⟩

theorem beforeUnit_kept (h : s.head.state = .standardizing) :
    (s.beforeUnit d).head = s.head ∧ (s.beforeUnit d).std = s.std ∧ (s.beforeUnit d).conv = s.conv := by
  have hv : ((s.beforeSlot d).setLink ((s.beforeSlot d).link.declare d)).periodSlot.head.state = .standardizing := by
    cases d <;> exact h
  obtain ⟨hhead, hstd, hconv, -⟩ := takeSample_of_standardizing hv ((s.beforeSlot d).link.acceptedOf d)
  refine ⟨hhead.trans ?_, hstd.trans ?_, hconv.trans ?_⟩ <;> cases d <;> rfl

end

/-! ## The end of WITHDRAW (R18, R19) -/

section

variable {s : State}

theorem allPass_iff {r : PerChannel Reason} : allPass r = true ↔ r = ⟨.pass, .pass, .pass⟩ := by
  obtain ⟨a, b, c⟩ := r
  simp [allPass, PerChannel.all, and_assoc]

theorem Four.get_map_standardize (f : Four ModeSlot) (st : Station) :
    (f.map (fun m => if m = .standardize then ModeSlot.none else m)).get st
      = if f.get st = .standardize then .none else f.get st := Four.get_map ..

/-- After R18 or R19 nothing asks for a procedure. -/
theorem consumed_ne_standardize (f : Four ModeSlot) (st : Station) :
    (f.map (fun m => if m = .standardize then ModeSlot.none else m)).get st ≠ .standardize := by
  rw [Four.get_map_standardize]; split
  · simp
  · assumption

theorem stdFail_rests : UnitRests s.stdFail := ⟨rfl, rfl, consumed_ne_standardize _, rfl⟩

theorem stdCommit_eq {c : ConstSet} (h : s.conv.pendingSet = some c) : s.stdCommit =
    (({ s with
      conv := { consts := c, epoch := nextEpoch s.conv.epoch, pendingSet := none }
      std := { (s.std.finish .commit) with failCount := 0, scanCounter := 0, stdDue := false } }).consumeStd).stdNotice := by
  simp only [State.stdCommit, State.adopt, h]
  rfl

theorem stdCommit_rests {c : ConstSet} (h : s.conv.pendingSet = some c) : UnitRests s.stdCommit := by
  rw [stdCommit_eq h]
  exact ⟨rfl, rfl, consumed_ne_standardize _, rfl⟩

theorem stdSlot_of_withdraw {r : RawSample} (h : s.std.phase = .withdraw) (hr : r.refInPlace = false) :
    s.stdSlot (some r) = s.withdrawEnd := by
  simp [State.stdSlot, h, tileOut, hr]

theorem withdrawEnd_of_pass (h : s.std.reasons = ⟨.pass, .pass, .pass⟩) : s.withdrawEnd = s.stdCommit.stdEnded :=
  if_pos (allPass_iff.mpr h)

theorem withdrawEnd_of_fail (h : s.std.reasons ≠ ⟨.pass, .pass, .pass⟩) :
    s.withdrawEnd = if 3 ≤ s.stdFail.std.failCount then s.stdFail.faultEntry .standardize else s.stdFail.stdEnded :=
  if_neg (mt allPass_iff.mp h)

/-- The tile clears before a head that is standardizing: the end of WITHDRAW, then of a period (R18, R19). -/
theorem exec_tileClears {t : SampleTelegram} (hc : s.link.slotCount < 63) (hh : s.head.state = .standardizing)
    (hw : s.std.phase = .withdraw) (hsync : s.link.state = .sync) (hg : GoodSample s t) (ht : t.flags.getLsbD 3 = false) :
    exec (.sampleTelegramArrival t) s = .next ((s.beforeUnit (.arrival t)).withdrawEnd.pointPeriodEnd).settle := by
  have hacc : (s.beforeSlot (.arrival t)).link.acceptedOf (.arrival t) = some t :=
    acceptedOf_arrival (s := s.setHeadRx none) hsync hg
  obtain ⟨-, hstd, -⟩ := beforeUnit_kept (d := .arrival t) hh
  have e : exec (.sampleTelegramArrival t) s = .next ((s.beforeSlot (.arrival t)).declareSlot (.arrival t)).settle := rfl
  rw [e, declareSlot_beforeUnit hc, hacc, Option.map_some, stdSlot_of_withdraw (by rw [hstd, hw]) ht]

end

end Sys2Proof.Machine

namespace Sys2Proof.Safety

open Sys2Proof Sys2Proof.Machine

theorem nextEpoch_eq (e : BitVec 32) : nextEpoch e = if e = 4294967295#32 then 1 else e + 1 := by
  have h : e + 1 = 0 ↔ e = 4294967295#32 := by bv_omega
  simp only [nextEpoch, h]

/-- Settles O10: the unit's outcome is what R18 or R19 makes it, and the decisions after it leave it. -/
theorem tileClearingCommits : Obligations.TileClearingCommits := by
  intro s t hp hh hw hsync hcrc hseq ht
  obtain ⟨hc, -⟩ := hp
  have hexec := exec_tileClears hc hh hw hsync ⟨hcrc, hseq⟩ ht
  obtain ⟨hhead, hstd, hconv⟩ := beforeUnit_kept (d := .arrival t) hh
  generalize s.beforeUnit (.arrival t) = w at hexec hhead hstd hconv
  have hstate : w.head.state = .standardizing := by rw [hhead, hh]
  refine ⟨fun c hpass hpend => ?commit, fun hfail hscan => ?fail⟩
  case commit =>
    have hset : w.conv.pendingSet = some c := by rw [hconv, hpend]
    have hrests := stdCommit_rests hset
    have hstill : w.stdCommit.head.state = .standardizing := by rw [stdCommit_eq hset]; exact hstate
    obtain ⟨hk, ho⟩ := decideParked_kept hrests
    obtain ⟨hk', -⟩ := pointPeriodEnd_kept (hrests.of_kept hk) ho
    have hend := hk.trans hk'
    refine ⟨_, hexec, ?_⟩
    rw [withdrawEnd_of_pass (by rw [hstd, hpass]), stdEnded_of_standardizing hstill]
    simp only [settle_conv, settle_std, settle_head, hend.conv, hend.std, hend.slots]
    rw [stdCommit_eq hset]
    refine ⟨rfl, rfl, ?_, rfl, rfl, rfl, rfl, rfl, ?_, fun st => ?_, consumed_ne_standardize _⟩
    · rw [← nextEpoch_eq, ← hconv]; rfl
    · rw [← hpass, ← hstd]; rfl
    · have hslot := Four.get_map_standardize w.head.slots st
      rw [hhead] at hslot
      by_cases h : s.head.slots.get st = .standardize
      · rw [if_pos h] at hslot; exact .inl (by rw [← hhead] at hslot; exact hslot)
      · rw [if_neg h] at hslot; exact .inr (by rw [← hhead] at hslot ⊢; exact hslot)
  case fail =>
    have hend : ∃ u : State, w.withdrawEnd.pointPeriodEnd = u ∧ u.conv = w.stdFail.conv ∧ u.std = w.stdFail.std
        ∧ u.head.slots = w.stdFail.head.slots
        ∧ (3 ≤ s.std.failCount + 1 →
          u.head.state = .fault ∧ u.head.cause = .standardize ∧ u.head.grant = .none ∧ u.head.drvEn = false)
        ∧ (s.std.failCount + 1 < 3 → OnlyDriveFault u) := by
      have hcount : w.stdFail.std.failCount = min 3 (s.std.failCount + 1) := by rw [← hstd]; rfl
      refine ⟨_, rfl, ?_⟩
      rw [withdrawEnd_of_fail (by rw [hstd]; exact hfail), hcount]
      by_cases h3 : 3 ≤ s.std.failCount + 1
      · rw [if_pos (by omega), faultEntry_of_standardizing (s := w.stdFail) _ hstate (by rw [← hscan, ← hhead]; rfl) rfl,
          pointPeriodEnd_of_more (fun h => absurd h (by simp))]
        refine ⟨rfl, rfl, rfl, fun _ => ⟨rfl, rfl, rfl, rfl⟩, fun h => by omega⟩
      · rw [if_neg (by omega), stdEnded_of_standardizing (s := w.stdFail) hstate]
        obtain ⟨hk, ho⟩ := decideParked_kept (stdFail_rests (s := w))
        obtain ⟨hk', ho'⟩ := pointPeriodEnd_kept (stdFail_rests.of_kept hk) ho
        have hboth := hk.trans hk'
        exact ⟨hboth.conv, hboth.std, hboth.slots, fun h => absurd h h3, fun _ => ho'⟩
    obtain ⟨u, hu, huconv, hustd, huslots, hthird, hlow⟩ := hend
    refine ⟨_, hexec, ?_⟩
    rw [hu]
    simp only [settle_conv, settle_std, settle_head, huconv, hustd, huslots]
    refine ⟨?_, rfl, ?_, rfl, rfl, rfl, ?_, fun st => ?_, hthird, hlow⟩
    · rw [← hconv]; rfl
    · rw [← hstd]; rfl
    · rw [← hstd]; rfl
    · rw [← hhead]; exact Four.get_map_standardize _ _

end Sys2Proof.Safety
end

section
/-! SUPPORT. One slot of a collection: sums, the slot limit, the ends of the ZERO and REFERENCE collections (R13 to R16), and the
obligation about them. -/

namespace Sys2Proof.Machine

open Sys2Proof Sys2Proof.Safety

/-! ## The checks of one channel (R16) -/

theorem lt_distance_iff (limit a b : Nat) : limit < distance a b ↔ (limit : Int) < |(a : Int) - b| := by
  simp only [distance]
  rcases abs_cases ((a : Int) - b) with ⟨h, hs⟩ | ⟨h, hs⟩ <;> rw [h] <;> omega

section

variable {drift : Bool} {nominal zeroLimit gainLimit zForce gForce z mean : Nat}

theorem gainCheck_of_le (h : mean ≤ z) :
    gainCheck drift nominal zeroLimit gainLimit zForce gForce z mean = (0, .denominator) := if_pos h

/-- The gain candidate stands whatever the checks after it say. -/
theorem gainCheck_of_lt {g : Nat} (h : z < mean) (hg : roundHalfUp (nominal * 16384) (mean - z) = g) :
    gainCheck drift nominal zeroLimit gainLimit zForce gForce z mean = (g,
      if g < 8192 ∨ 32768 < g then .gainRange
      else if drift = true ∧ (zeroLimit : Int) < |(z : Int) - zForce| then .zeroDrift
      else if drift = true ∧ (gainLimit : Int) < |(g : Int) - gForce| then .gainDrift
      else .pass) := by
  simp only [gainCheck, if_neg (Nat.not_le.mpr h), hg, Bool.and_eq_true, decide_eq_true_eq, lt_distance_iff, apply_ite (Prod.mk g)]

end

/-! ## A slot's sample in the sums (R13) -/

section

variable {s : State} {x : Option SampleTelegram}

/-- The unit after a slot, before the slot-limit test. -/
theorem slot_eq (s : State) (x : Option SampleTelegram) : s.std.slot (x.map sampleRaw) =
    { s.std with sums := sumsAfter s x, slotCount := s.std.slotCount + 1 } := by
  cases x with
  | none => rfl
  | some t =>
    have htake : ∀ (fits ok : Bool) (v : Nat) (r : Reason) (sc : SumCount) (n : Nat),
        channelTake n fits ok v r sc
          = if r = .none ∧ ok = true ∧ fits = true ∧ sc.count < n then ⟨sc.sum + v, sc.count + 1⟩ else sc := by
      intro fits ok v r sc n
      have hiff : (fits && ok && r == .none && decide (sc.count < n)) = true
          ↔ r = .none ∧ ok = true ∧ fits = true ∧ sc.count < n := by
        simp only [Bool.and_eq_true, beq_iff_eq, decide_eq_true_eq]; tauto
      simp only [channelTake, hiff]
    have hfits : ((sampleRaw t).refInPlace == (s.std.phase == .reference)) = true
        ↔ t.flags.getLsbD 3 = decide (s.std.phase = .reference) := by
      rw [beq_iff_eq, beq_eq_decide]; rfl
    simp only [Option.map_some, StdUnit.slot, StdUnit.take, sumsAfter, channelAfter, htake, hfits]
    rfl

theorem noDataAt_false (n : Nat) (r : Reason) (sc : SumCount) : noDataAt false n r sc = r := rfl

theorem noDataAt_true (n : Nat) (r : Reason) (sc : SumCount) : noDataAt true n r sc = shortFails n r sc := by
  simp [noDataAt, shortFails]

/-- A channel that is collected or has failed is not short. -/
theorem shortFails_of_done {n : Nat} {r : Reason} {sc : SumCount} (h : r ≠ .none ∨ n ≤ sc.count) : shortFails n r sc = r :=
  if_neg fun ⟨hr, hc⟩ => h.elim (· hr) (by omega)

theorem shortFails_ne_none {n : Nat} {r : Reason} {sc : SumCount} (h : ¬n ≤ sc.count) : shortFails n r sc ≠ .none := by
  unfold shortFails; split
  · simp
  · next hne => exact fun hr => hne ⟨hr, by omega⟩

/-- The unit at the end of a slot: at the limit the short channels have failed. -/
def StdUnit.judged (u : StdUnit) (sums : PerChannel SumCount) : StdUnit :=
  { u with
    sums := sums, slotCount := u.slotCount + 1, reasons := u.reasons.zip (shortFails u.params.samples) sums }

/-- Not at the limit the reasons stand, at the limit the short channels fail. -/
theorem limitTest_slot (s : State) (x : Option SampleTelegram) : (s.std.slot (x.map sampleRaw)).limitTest =
    if 4 * s.std.params.samples ≤ s.std.slotCount + 1 then s.std.judged (sumsAfter s x)
    else { s.std with sums := sumsAfter s x, slotCount := s.std.slotCount + 1 } := by
  rw [slot_eq]
  split
  · next h => simp only [StdUnit.limitTest, decide_eq_true h, PerChannel.zip, noDataAt_true]; rfl
  · next h => simp only [StdUnit.limitTest, decide_eq_false h, PerChannel.zip, noDataAt_false]

theorem collected_iff {u : StdUnit} : u.collected = true ↔
    (u.reasons.bw ≠ .none ∨ u.params.samples ≤ u.sums.bw.count) ∧ (u.reasons.water ≠ .none ∨ u.params.samples ≤ u.sums.water.count)
      ∧ (u.reasons.gap ≠ .none ∨ u.params.samples ≤ u.sums.gap.count) := by
  simp [StdUnit.collected, PerChannel.all, PerChannel.zip, and_assoc]

theorem collected_judged (u : StdUnit) (sums : PerChannel SumCount) : (u.judged sums).collected = true := by
  have hdone : ∀ (r : Reason) (sc : SumCount), shortFails u.params.samples r sc ≠ .none ∨ u.params.samples ≤ sc.count := fun r sc => by
    by_cases h : u.params.samples ≤ sc.count
    · exact .inr h
    · exact .inl (shortFails_ne_none h)
  exact collected_iff.mpr ⟨hdone _ _, hdone _ _, hdone _ _⟩

/-- The end of a collection at this slot, or none (R13). -/
theorem slot_collected (s : State) (x : Option SampleTelegram) :
    (CollectionOver s (sumsAfter s x) → (s.std.slot (x.map sampleRaw)).limitTest = s.std.judged (sumsAfter s x))
    ∧ (¬CollectionOver s (sumsAfter s x) → (s.std.slot (x.map sampleRaw)).limitTest
        = { s.std with sums := sumsAfter s x, slotCount := s.std.slotCount + 1 }
      ∧ (s.std.slot (x.map sampleRaw)).limitTest.collected = false) := by
  rw [limitTest_slot]
  refine ⟨fun h => ?ends, fun h => ?goesOn⟩
  case ends =>
    split
    · rfl
    · next hlimit =>
      obtain ⟨hb, hw, hg⟩ := h.resolve_left hlimit
      simp only [StdUnit.judged, PerChannel.zip, shortFails_of_done hb, shortFails_of_done hw, shortFails_of_done hg]
  case goesOn =>
    rw [CollectionOver, not_or] at h
    obtain ⟨hlimit, hopen⟩ := h
    rw [if_neg hlimit]
    refine ⟨rfl, ?_⟩
    rw [Bool.eq_false_iff, ne_eq, collected_iff]
    exact hopen

/-! ## The ends of the two collections (R14, R16) -/

theorem commandRaised {s u v : State} {c : HeadCommand} (hu : u.link = v.link.raise c) (hs : v.link.sending = s.link.sending)
    (hw : v.link.waiting = s.link.waiting) : CommandRaised s u c := by
  rw [CommandRaised, hu, HeadLink.raise, ← hs, ← hw]
  cases hsend : v.link.sending with
  | none => exact ⟨fun _ => ⟨rfl, rfl⟩, fun h => absurd rfl h⟩
  | some x => exact ⟨fun h => absurd h (by simp), fun _ => ⟨rfl, rfl⟩⟩

/-- What a unit's slot finds of a state: head, unit, constants and the commands on their way. -/
structure UnitFinds (s w : State) : Prop where
  head : w.head = s.head
  std : w.std = s.std
  conv : w.conv = s.conv
  sending : w.link.sending = s.link.sending
  waiting : w.link.waiting = s.link.waiting

/-- The unit with its Z candidates (R14). -/
def StdUnit.zeroed (u : StdUnit) : StdUnit := { u with cand := u.reasons.zip (zeroCandidate u.params.samples) u.sums }

theorem all_ne_none_iff {r : PerChannel Reason} :
    r.all (fun r => r != .none) = true ↔ r.bw ≠ .none ∧ r.water ≠ .none ∧ r.gap ≠ .none := by
  simp [PerChannel.all, and_assoc]

variable {w : State} {sums : PerChannel SumCount}

theorem zeroEnded (h : UnitFinds s w) : ZeroEnded s (w.setStd (s.std.judged sums)).zeroEnd sums := by
  have hend : (w.setStd (s.std.judged sums)).zeroEnd =
      if (s.std.judged sums).reasons.all (fun r => r != .none) then (w.setStd ((s.std.judged sums).zeroed)).enterWithdraw
      else (w.setStd ((s.std.judged sums).zeroed)).enterReference := rfl
  by_cases hall : (s.std.judged sums).reasons.bw ≠ .none ∧ (s.std.judged sums).reasons.water ≠ .none
      ∧ (s.std.judged sums).reasons.gap ≠ .none
  · rw [hend, if_pos (all_ne_none_iff.mpr hall)]
    refine ⟨rfl, rfl, h.conv, rfl, ?_⟩
    rw [if_pos (by exact hall)]
    exact ⟨rfl, rfl, commandRaised (v := w) rfl h.sending h.waiting⟩
  · rw [hend, if_neg (mt all_ne_none_iff.mp hall)]
    refine ⟨rfl, rfl, h.conv, rfl, ?_⟩
    rw [if_neg (by exact hall)]
    exact ⟨rfl, rfl, commandRaised (v := w) rfl h.sending h.waiting⟩

/-- One channel's end is R16's, whether it failed before, is short, or is checked. -/
theorem channelEnd_eq (s : State) (nominal zeroLimit zForce gForce : Nat) (r : Reason) (sc : SumCount) (c : Candidate) :
    channelEnd s.std.params.samples (standardized s.conv.epoch) nominal zeroLimit s.std.params.gainDrift zForce gForce
      (shortFails s.std.params.samples r sc) sc c = referenceJudged s nominal zeroLimit zForce gForce r sc c := by
  simp only [referenceJudged, channelEnd, shortFails, standardized]
  by_cases hr : r = .none
  · by_cases hshort : sc.count < s.std.params.samples
    · simp [hr, hshort]
    · simp [hr, hshort]
  · simp [hr]

theorem referenceEnded (h : UnitFinds s w) : ReferenceEnded s (w.setStd (s.std.judged sums)).referenceEnd sums := by
  have hresults : (w.setStd (s.std.judged sums)).referenceResults =
      ⟨referenceJudged s s.std.params.nominal.bw s.std.params.zeroDrift.bw s.conv.consts.zero.bw s.conv.consts.gain.bw
          s.std.reasons.bw sums.bw s.std.cand.bw,
        referenceJudged s s.std.params.nominal.water s.std.params.zeroDrift.water s.conv.consts.zero.water s.conv.consts.gain.water
          s.std.reasons.water sums.water s.std.cand.water,
        referenceJudged s s.std.params.nominal.gap s.std.params.zeroDrift.gap s.conv.consts.zero.gap s.conv.consts.gain.gap
          s.std.reasons.gap sums.gap s.std.cand.gap⟩ := by
    simp only [← channelEnd_eq, ← h.conv]
    rfl
  simp only [ReferenceEnded, State.referenceEnd, hresults, PerChannel.map, allPass_iff, PerChannel.mk.injEq]
  split
  · next hpass => exact ⟨rfl, rfl, rfl, commandRaised (v := w) rfl h.sending h.waiting, rfl, rfl,
      fun _ => by rw [← h.conv]; rfl, fun hno => absurd hpass hno⟩
  · next hfail => exact ⟨rfl, rfl, rfl, commandRaised (v := w) rfl h.sending h.waiting, rfl, rfl,
      fun hpass => absurd hpass hfail, fun _ => h.conv⟩

theorem collectionSlot_of_open {u : StdUnit} {raw : Option RawSample} (hu : (w.std.slot raw).limitTest = u)
    (h : u.collected = false) : w.collectionSlot raw = w.setStd u := by
  simp [State.collectionSlot, hu, h]

theorem collectionSlot_of_zero {u : StdUnit} {raw : Option RawSample} (hu : (w.std.slot raw).limitTest = u)
    (h : u.collected = true) (hp : u.phase = .zero) : w.collectionSlot raw = (w.setStd u).zeroEnd := by
  simp [State.collectionSlot, hu, h, hp]

theorem collectionSlot_of_reference {u : StdUnit} {raw : Option RawSample} (hu : (w.std.slot raw).limitTest = u)
    (h : u.collected = true) (hp : u.phase = .reference) : w.collectionSlot raw = (w.setStd u).referenceEnd := by
  simp [State.collectionSlot, hu, h, hp]

/-- One slot of a running collection (R13). -/
theorem collectionSlot_judged (h : UnitFinds s w) (x : Option SampleTelegram) :
    CollectionSlot s (w.collectionSlot (x.map sampleRaw)) x := by
  obtain ⟨hover, hgoes⟩ := slot_collected s x
  rw [← h.std] at hover hgoes
  refine ⟨by rw [collectionSlot_head, h.head], fun hno => ?_, fun hyes hz => ?_, fun hyes hr => ?_⟩
  · obtain ⟨hunit, hopen⟩ := hgoes hno
    rw [collectionSlot_of_open rfl hopen, hunit]
    exact ⟨by rw [← h.std]; rfl, h.conv, h.sending, h.waiting⟩
  · rw [collectionSlot_of_zero (hover hyes) (collected_judged _ _) (by rw [h.std]; exact hz), h.std]
    exact zeroEnded h
  · rw [collectionSlot_of_reference (hover hyes) (collected_judged _ _) (by rw [h.std]; exact hr), h.std]
    exact referenceEnded h

end

/-! ## The slot as declared -/

section

variable {s : State} {d : SlotDecl}

/-- A slot while the missing-slot timer runs raises no command. -/
theorem declare_sending (hrun : s.link.missingTimer.isRunning = true) :
    ((s.beforeSlot d).link.declare d).sending = s.link.sending ∧ ((s.beforeSlot d).link.declare d).waiting = s.link.waiting := by
  cases d with
  | missing => exact ⟨rfl, rfl⟩
  | arrival t =>
    have hfirst : (s.setHeadRx none).link.firstArrival = (s.setHeadRx none).link := if_pos hrun
    change (HeadLink.arrive (s.setHeadRx none).link.firstArrival _ _).sending = _
      ∧ (HeadLink.arrive (s.setHeadRx none).link.firstArrival _ _).waiting = _
    rw [hfirst]
    exact ⟨rfl, rfl⟩

theorem unitFinds_beforeUnit (hh : s.head.state = .standardizing) (hrun : s.link.missingTimer.isRunning = true) :
    UnitFinds s (s.beforeUnit d) := by
  obtain ⟨hhead, hstd, hconv⟩ := beforeUnit_kept (d := d) hh
  have hv : ((s.beforeSlot d).setLink ((s.beforeSlot d).link.declare d)).periodSlot.head.state = .standardizing := by
    cases d <;> exact hh
  obtain ⟨-, -, -, hlink⟩ := takeSample_of_standardizing hv ((s.beforeSlot d).link.acceptedOf d)
  obtain ⟨hsend, hwait⟩ := declare_sending (d := d) hrun
  exact ⟨hhead, hstd, hconv, (congrArg HeadLink.sending hlink).trans hsend, (congrArg HeadLink.waiting hlink).trans hwait⟩

theorem pointPeriodEnd_of_standardizing (h : s.head.state = .standardizing) : s.pointPeriodEnd = s :=
  pointPeriodEnd_of_more fun hp => absurd (h.symm.trans hp) (by simp)

/-- A slot of a head that is standardizing is the unit's, if the unit leaves the head. -/
theorem declareSlot_of_standardizing {u : State} (hc : s.link.slotCount < 63)
    (hu : (s.beforeUnit d).stdSlot ((acceptedSlot s d).map sampleRaw) = u) (hstill : u.head.state = .standardizing) :
    (s.beforeSlot d).declareSlot d = u := by
  rw [declareSlot_beforeUnit hc, acceptedOf_beforeSlot, hu, pointPeriodEnd_of_standardizing hstill]

theorem stdSlot_of_collecting (raw : Option RawSample) (hc : s.std.collecting = true) (hp : s.std.phase = .zero ∨ s.std.phase = .reference) :
    s.stdSlot raw = s.collectionSlot raw := by
  obtain hp | hp := hp <;> simp [State.stdSlot, hp, hc]

theorem stdSlot_of_tile {raw : Option RawSample} (hp : s.std.phase = .reference) (hc : s.std.collecting = false)
    (ht : tileIn raw = true) : s.stdSlot raw = s.tileSeen.collectionSlot raw := by
  simp [State.stdSlot, hp, hc, ht]

theorem stdSlot_of_no_tile {raw : Option RawSample} (hp : s.std.phase = .reference) (hc : s.std.collecting = false)
    (ht : tileIn raw = false) : s.stdSlot raw = s := by
  simp [State.stdSlot, hp, hc, ht]

theorem exec_stdSlotLimit (hcoll : s.std.collecting = true) (hl : 4 * s.std.params.samples ≤ s.std.slotCount + 1)
    (hrun : s.link.missingTimer.isRunning = true) :
    exec (.stdSlotLimit d) s = .next ((s.beforeSlot d).declareSlot d).settle := by
  have e : exec (.stdSlotLimit d) s = (if s.reachesSlotLimit && s.canDeclare d then (s.beforeSlot d).declareSlot d else s).done := rfl
  rw [e, canDeclare_of_running d hrun, State.reachesSlotLimit, hcoll, decide_eq_true hl]
  rfl

end

end Sys2Proof.Machine

namespace Sys2Proof.Safety

open Sys2Proof Sys2Proof.Machine

/-- A REFERENCE collection that goes on waits for no tile. -/
theorem CollectionSlot.tileTimer {s u : State} {x : Option SampleTelegram} (h : CollectionSlot s u x) (href : s.std.phase = .reference)
    (hstop : s.std.tileTimer = .stopped) (hstays : u.std.phase = .reference) : u.std.tileTimer = .stopped := by
  obtain ⟨-, hgoes, -, hends⟩ := h
  by_cases hover : CollectionOver s (sumsAfter s x)
  · obtain ⟨hwithdraw, -⟩ := hends hover href
    exact absurd (hwithdraw.symm.trans hstays) (by simp)
  · obtain ⟨hstd, -⟩ := hgoes hover
    rw [hstd]; exact hstop

theorem gainChecksInOrder : GainChecksInOrder := by
  intro drift nominal zeroLimit gainLimit zForce gForce z mean r g
  refine ⟨fun h => gainCheck_of_le h, fun h => ?_⟩
  have hr : r = (g, if g < 8192 ∨ 32768 < g then .gainRange
      else if drift = true ∧ (zeroLimit : Int) < |(z : Int) - zForce| then .zeroDrift
      else if drift = true ∧ (gainLimit : Int) < |(g : Int) - gForce| then .gainDrift
      else .pass) := gainCheck_of_lt h rfl
  rw [hr]
  refine ⟨rfl, fun hrange => if_pos hrange, fun hlow hhigh hd hz => ?_, fun hlow hhigh hd hz hg => ?_, fun hlow hhigh hok => ?_⟩
  all_goals
    have hin : ¬(g < 8192 ∨ 32768 < g) := by omega
    dsimp only
    rw [if_neg hin]
  · rw [if_pos ⟨hd, hz⟩]
  · rw [if_neg (fun h => absurd h.2 (not_lt.mpr hz)), if_pos ⟨hd, hg⟩]
  · obtain hd | ⟨hz, hg⟩ := hok
    · rw [if_neg (by simp [hd]), if_neg (by simp [hd])]
    · rw [if_neg (fun h => absurd h.2 (not_lt.mpr hz)), if_neg (fun h => absurd h.2 (not_lt.mpr hg))]

/-- Settles O8: the sums, the slot limit and the two ends, each channel judged on its own. -/
theorem collectionEndJudged : Obligations.CollectionEndJudged := by
  refine ⟨gainChecksInOrder, fun s d hc hrun hh => ?_⟩
  intro x
  have hfinds : UnitFinds s (s.beforeUnit d) := unitFinds_beforeUnit hh hrun
  have hnext : ∀ u : State, (s.beforeUnit d).stdSlot (x.map sampleRaw) = u → u.head.state = .standardizing →
      exec (slotCommand d) s = .next u.settle := fun u hu hstill => by
    rw [exec_slotCommand d hrun, declareSlot_of_standardizing hc hu hstill]
  refine ⟨fun hcoll hphase => ?collecting, fun href hcoll => ⟨fun t ht htile => ?tile, fun hno => ?waits⟩⟩
  case collecting =>
    have hslot : (s.beforeUnit d).stdSlot (x.map sampleRaw) = (s.beforeUnit d).collectionSlot (x.map sampleRaw) :=
      stdSlot_of_collecting _ (by rw [hfinds.std, hcoll]) (by rw [hfinds.std]; exact hphase)
    have hstill : ((s.beforeUnit d).collectionSlot (x.map sampleRaw)).head.state = .standardizing := by
      rw [collectionSlot_head, hfinds.head, hh]
    refine ⟨_, hnext _ hslot hstill, collectionSlot_judged hfinds x, fun hl => ?_⟩
    rw [exec_stdSlotLimit hcoll hl hrun, declareSlot_of_standardizing hc hslot hstill]
  case tile =>
    intro begun
    have hseen : UnitFinds begun (s.beforeUnit d).tileSeen :=
      ⟨hfinds.head, by rw [State.tileSeen, hfinds.std]; rfl, hfinds.conv, hfinds.sending, hfinds.waiting⟩
    have hslot : (s.beforeUnit d).stdSlot (x.map sampleRaw) = (s.beforeUnit d).tileSeen.collectionSlot (x.map sampleRaw) :=
      stdSlot_of_tile (by rw [hfinds.std, href]) (by rw [hfinds.std, hcoll]) (by rw [ht]; exact htile)
    have hjudged : CollectionSlot begun ((s.beforeUnit d).tileSeen.collectionSlot (x.map sampleRaw)) x :=
      collectionSlot_judged hseen x
    exact ⟨_, hnext _ hslot (by rw [collectionSlot_head, hseen.head]; exact hh), hjudged, hjudged.tileTimer href rfl⟩
  case waits =>
    have hraw : tileIn (x.map sampleRaw) = false := by
      cases hx : x with
      | none => rfl
      | some t => exact hno t hx
    have hslot := stdSlot_of_no_tile (s := s.beforeUnit d) (by rw [hfinds.std, href]) (by rw [hfinds.std, hcoll]) hraw
    exact ⟨_, hnext _ hslot (by rw [hfinds.head, hh]), hfinds.std, hfinds.conv, hfinds.head⟩

end Sys2Proof.Safety
end

section
/-! SUPPORT. The end of a point period: its record, the decision after it (R37, R44, R106 to R108), and the obligation about
them. -/

namespace Sys2Proof.Machine

open Sys2Proof Sys2Proof.Safety

/-! ## The last slot of a period -/

/-- The period once a slot's accepted sample, if any, is taken (R106). -/
def PointPeriod.withSample (p : PointPeriod) (s : State) (x : Option SampleTelegram) : PointPeriod :=
  x.elim p (fun t => pointPlus p (s.convert t))

/-- A state whose sample units may have moved: the link, the edge tracker, the bins, the absence window, the hole run. -/
structure SlotTaken (s v : State) : Prop where
  head : v.head = s.head
  std : v.std = s.std
  conv : v.conv = s.conv
  store : v.store = s.store
  pins : v.pins = s.pins
  brk : v.brk = s.brk
  speed : v.speed = s.speed

section

variable {s : State} {d : SlotDecl} {p : PointPeriod}

theorem withSample_length (x : Option SampleTelegram) : (p.withSample s x).length = p.length := by cases x <;> rfl

/-- A sample changes the count and the sums of its period alone. -/
theorem withSample_eq (x : Option SampleTelegram) : p.withSample s x =
    { p with accepted := (p.withSample s x).accepted, sums := (p.withSample s x).sums } := by cases x <;> rfl

/-- No sample ends an absence window that lacks more than one. -/
theorem takeSample_of_below {v : State} (t : SampleTelegram) (h : v.edges.locked = true → v.absent.assessed < 63) :
    v.takeSample (some t) = v.handOn (v.convert t) := by
  simp only [State.takeSample]
  split
  · next ha =>
    have hlt := h (locked_of_assesses ha)
    refine absentWindowEnd_of_lt ?_
    rw [handOn_eq]
    change (v.absentTaken (v.convert t)).assessed < 64
    rw [absentTaken_of_assessed ha]
    change v.absent.assessed + 1 < 64
    omega
  · rfl

/-- What a slot in SINGLE_POINT that ends neither a window nor an absence window leaves to the period's end. -/
theorem beforeUnit_of_point (hh : s.head.state = .singlePoint) (hp : s.points.period = some p)
    (hw : s.edges.locked = true → s.absent.assessed < 63) : SlotTaken s (s.beforeUnit d)
      ∧ (s.beforeUnit d).points = { s.points with
          period := some { (p.withSample s (acceptedSlot s d)) with slots := p.slots + 1 } } := by
  rw [State.beforeUnit, acceptedOf_beforeSlot]
  generalize hv : ((s.beforeSlot d).setLink ((s.beforeSlot d).link.declare d)).periodSlot = v
  have hpoints : v.points = { s.points with period := some { p with slots := p.slots + 1 } } := by
    rw [← hv]; cases d <;> simp [State.periodSlot, State.beforeSlot, State.setHeadRx, hp]
  have hkept : SlotTaken s v := by rw [← hv]; cases d <;> exact ⟨rfl, rfl, rfl, rfl, rfl, rfl, rfl⟩
  cases acceptedSlot s d with
  | none => exact ⟨hkept, hpoints⟩
  | some t =>
    have hconvert : v.convert t = s.convert t := by rw [← hv]; cases d <;> rfl
    have hbelow : v.edges.locked = true → v.absent.assessed < 63 := by rw [← hv]; cases d <;> exact hw
    rw [takeSample_of_below t hbelow, handOn_eq, hconvert]
    refine ⟨⟨hkept.head, hkept.std, hkept.conv, hkept.store, hkept.pins, hkept.brk, hkept.speed⟩, ?_⟩
    change v.pointsTaken (s.convert t) = _
    rw [State.pointsTaken, if_pos (by rw [hkept.head, hh]), hpoints]
    simp only [Option.map_some, pointTake_period]
    rfl

theorem pointRecord_congr {v : State} (h : SlotTaken s v) (hn : v.points.next = s.points.next) (q : PointPeriod) :
    v.pointRecord q = s.pointRecord q := by
  simp only [State.pointRecord, hn, State.mdMetres, State.tachHeld, h.speed, h.brk]

/-- The last slot of a period: its record appended, and the decision (R37). -/
theorem declareSlot_of_period (hh : s.head.state = .singlePoint) (hp : s.points.period = some p)
    (hover : p.length ≤ p.slots + 1) (hc : s.link.slotCount < 63) (hidle : s.std.phase = .idle)
    (hw : s.edges.locked = true → s.absent.assessed < 63) :
    ∃ r : State, (s.beforeSlot d).declareSlot d = r.decidePeriodEnd ∧ SlotTaken s r
      ∧ r.points = ⟨none, keepNewest 32 (s.points.ring ++ [s.pointRecord (p.withSample s (acceptedSlot s d))]),
          s.points.next + 1⟩ := by
  obtain ⟨hkept, hpoints⟩ := beforeUnit_of_point (d := d) hh hp hw
  rw [declareSlot_beforeUnit hc, State.stdSlot_idle _ (by rw [hkept.std, hidle])]
  generalize s.beforeUnit d = v at hkept hpoints
  generalize hq : ({ (p.withSample s (acceptedSlot s d)) with slots := p.slots + 1 } : PointPeriod) = q at hpoints
  have hqover : q.over = true := decide_eq_true (by rw [← hq]; exact (withSample_length _).le.trans hover)
  refine ⟨v.recordPeriod q, ?_, ⟨?_, ?_, ?_, ?_, ?_, ?_, ?_⟩, ?_⟩
  · simp [State.pointPeriodEnd, hkept.head, hh, hpoints, hqover]
  · rw [recordPeriod_head, hkept.head]
  · rw [recordPeriod_std, hkept.std]
  · rw [recordPeriod_conv, hkept.conv]
  · rw [recordPeriod_store, hkept.store]
  · rw [recordPeriod_pins, hkept.pins]
  · rw [recordPeriod_brk, hkept.brk]
  · rw [recordPeriod_speed, hkept.speed]
  · rw [State.recordPeriod, State.setPoints_points, pointRecord_congr hkept (by rw [hpoints]), hpoints, ← hq]
    rfl

theorem exec_pointPeriodEnd (hp : s.points.period = some p) (hover : p.length ≤ p.slots + 1)
    (hrun : s.link.missingTimer.isRunning = true) :
    exec (.pointPeriodEnd d) s = .next ((s.beforeSlot d).declareSlot d).settle := by
  have e : exec (.pointPeriodEnd d) s = (if s.endsPeriod && s.canDeclare d then (s.beforeSlot d).declareSlot d else s).done := rfl
  have hends : s.endsPeriod = true := by simp [State.endsPeriod, hp, hover]
  rw [e, canDeclare_of_running d hrun, hends]
  rfl

end

/-! ## The decision at the end of a period (R44, fifth column) -/

section

variable {s r : State}

theorem recipe_congr {v : State} (h : v.store = s.store) : v.recipe = s.recipe := by
  simp [State.recipe, State.activeRecipe, h]

theorem faultStill_period (cause : FaultCause) : (r.faultStill cause).points.period = none := by
  rw [State.faultStill, faultEntryWith_eq, headNotice_points, stdAbort_points]
  rfl

/-- A fault of the drive ends a period without a record (R26, R37). -/
theorem faultStill_faulted : (r.faultStill .drive).head.state = .fault ∧ (r.faultStill .drive).head.cause = .drive
    ∧ (r.faultStill .drive).head.grant = .none ∧ (r.faultStill .drive).points.period = none := by
  refine ⟨?_, ?_, ?_, faultStill_period _⟩ <;> simp

theorem driveMissing_of_point (h : r.head.state = .singlePoint) : r.driveMissing = !r.pins.drvRdy := by
  simp [State.driveMissing, h, HeadState.still]

theorem decidePeriodEnd_of_std (h : r.winner = .standardize) : r.decidePeriodEnd = r.beginReturning .standardize := by
  simp [State.decidePeriodEnd, h]

theorem decidePeriodEnd_of_scan (h : r.winner = .scan) : r.decidePeriodEnd = r.beginApproach .scan := by
  simp [State.decidePeriodEnd, h]

theorem decidePeriodEnd_of_point {st : Station} {p : Nat} (h : r.winner = .point st p) : r.decidePeriodEnd =
    if p = r.head.pointPos then (r.grantTo (.point st p)).startPeriod else r.beginPositioning st p := by
  simp [State.decidePeriodEnd, h]

theorem returning_points (g : Grant) : (r.returning g).points = r.points := by simp [State.returning]

theorem positioning_points (st : Station) (p : Nat) : (r.positioning st p).points = r.points := by simp [State.positioning]

theorem approaching_points (g : Grant) : (r.approaching g).points = r.points := by
  simp only [State.approaching]; split <;> simp

/-- At A a head that is to approach starts its scan at once (R31). -/
theorem beginApproach_of_at (g : Grant) (hd : r.driveMissing = false) (ha : r.head.position.toNat = r.recipe.geometry.a) :
    r.beginApproach g = (r.approaching g).startScan .fwd true := by
  rw [beginApproach_eq, if_neg (by simp [hd]), if_pos (by rw [approaching_head, approaching_recipe]; exact ha)]
  rfl

theorem periodEndDecides (h : SlotTaken s r) (hper : r.points.period = none) (hh : s.head.state = .singlePoint)
    (hactive : s.store.active.isSome = true) (hbrk : s.brk.state = .running ∨ s.brk.state = .recovering)
    (hpark : ∀ j, s.head.slots.get j ≠ .park) : PeriodEndDecides s r.decidePeriodEnd := by
  have hhead := h.head
  have hrecipe := recipe_congr h.store
  have hnoHold : NoHold r := by
    rw [NoHold, h.brk]
    obtain hbrk | hbrk := hbrk <;> simp [hbrk]
  have hlow : ¬(s.std.stdDue = true ∨ ∃ j, s.head.slots.get j = .standardize) → LowRanks r := fun hno => by
    rw [not_or, Bool.not_eq_true, not_exists] at hno
    obtain ⟨hdue, hstd⟩ := hno
    exact ⟨hnoHold, by rwa [hhead], by rw [h.std, hdue], by rwa [hhead]⟩
  have hready : s.pins.drvRdy = true → r.driveMissing = false := fun hd => by
    rw [driveMissing_of_point (by rw [hhead, hh]), h.pins, hd]; rfl
  have hmissing : s.pins.drvRdy = false → r.driveMissing = true := fun hd => by
    rw [driveMissing_of_point (by rw [hhead, hh]), h.pins, hd]; rfl
  have hwins : (s.std.stdDue = true ∨ ∃ j, s.head.slots.get j = .standardize) → r.winner = .standardize := fun hstd =>
    winner_of_std hnoHold (by rwa [hhead]) (by rwa [hhead, h.std])
  have hpointWins : ∀ low, ¬(s.std.stdDue = true ∨ ∃ j, s.head.slots.get j = .standardize) →
      LowestWith s.head.slots (fun m => ∃ p, m = .point p) low →
      r.winner = .point low (max s.recipe.geometry.a (min s.recipe.geometry.b (s.head.slots.get low).pos)) := fun low hno hl => by
    rw [winner_of_point (hlow hno) (by rw [hhead]; exact hl), hrecipe, hhead]
  have hscanWins : ¬(s.std.stdDue = true ∨ ∃ j, s.head.slots.get j = .standardize) →
      (∀ j, ¬∃ p, s.head.slots.get j = .point p) → r.winner = .scan := fun hno hpoint =>
    winner_of_scan (hlow hno) (by rwa [hhead]) (by rw [h.store, h.brk]; exact ⟨hactive, hbrk⟩)
  refine ⟨fun hstd hd hpos => ?std, fun hstd hd => ?stdFault, fun low hno hl => ⟨fun hat => ?again, fun hne hd hpos => ?point,
    fun hne hd => ?pointFault⟩, fun hno hpoint => ⟨fun hd => ?scan, fun hd => ?scanFault⟩⟩
  case std =>
    rw [decidePeriodEnd_of_std (hwins hstd), beginReturning_of_away _ (hready hd) (by rw [hhead]; simpa [← BitVec.toNat_inj] using hpos),
      returning_head, returning_points]
    exact ⟨rfl, rfl, rfl, rfl, hper⟩
  case stdFault =>
    rw [decidePeriodEnd_of_std (hwins hstd), beginReturning_of_missing _ (hmissing hd)]
    exact faultStill_faulted
  case again =>
    rw [decidePeriodEnd_of_point (hpointWins low hno hl), if_pos (by rw [hhead]; exact hat)]
    refine ⟨?_, fun hset => ?_⟩
    · rw [startPeriod_head, State.grantTo, State.setHead_head, hhead]
    · rw [State.startPeriod, adopt_of_none (by rw [grantTo_conv, h.conv, hset])]
      have hmetres : (r.grantTo (.point low s.head.pointPos)).mdMetres = s.mdMetres := by
        simp only [State.mdMetres, grantTo_speed, h.speed]
      have hheld : (r.grantTo (.point low s.head.pointPos)).tachHeld = s.tachHeld := by
        simp only [State.tachHeld, grantTo_speed, h.speed]
      have hset' : (r.grantTo (.point low s.head.pointPos)).recipe = s.recipe :=
        (recipe_congr (grantTo_store _ _)).trans hrecipe
      rw [hat]
      simp only [State.setPoints_points, hmetres, hheld, hset', grantTo_conv, h.conv]
      rw [State.grantTo, State.setHead_head, hhead]
      rfl
  case point =>
    rw [decidePeriodEnd_of_point (hpointWins low hno hl), if_neg (by rw [hhead]; exact hne), beginPositioning_eq,
      if_neg (by simp [hready hd]), if_neg (by rw [positioning_head, hhead]; exact hpos), positioning_head, positioning_points]
    refine ⟨rfl, rfl, rfl, rfl, ?_, hper⟩
    rw [directionTo_of_ne (by rw [hhead]; exact hpos), hhead]
  case pointFault =>
    rw [decidePeriodEnd_of_point (hpointWins low hno hl), if_neg (by rw [hhead]; exact hne), beginPositioning_eq,
      if_pos (hmissing hd)]
    exact faultStill_faulted
  case scan =>
    rw [decidePeriodEnd_of_scan (hscanWins hno hpoint)]
    by_cases hat : r.head.position.toNat = r.recipe.geometry.a
    · rw [beginApproach_of_at _ (hready hd) hat, startScan_head, startScan_points, approaching_points,
        State.newScan, approaching_recipe, approaching_head]
      rw [hhead, hrecipe] at hat
      rw [hrecipe]
      exact ⟨rfl, rfl, hper, fun h => absurd hat h, fun _ => ⟨rfl, rfl, rfl⟩⟩
    · rw [beginApproach_eq, if_neg (by simp [hready hd]), if_neg (by rw [approaching_head, approaching_recipe]; exact hat),
        approaching_head, approaching_points, directionTo_of_ne hat]
      rw [hhead, hrecipe] at hat ⊢
      exact ⟨rfl, rfl, hper, fun _ => ⟨rfl, rfl⟩, fun h => absurd h hat⟩
  case scanFault =>
    rw [decidePeriodEnd_of_scan (hscanWins hno hpoint), beginApproach_eq, if_pos (hmissing hd)]
    exact faultStill_faulted

end

end Sys2Proof.Machine

namespace Sys2Proof.Safety

open Sys2Proof Sys2Proof.Machine

/-- Settles O32: the slot is counted and its sample taken, the record appended, and the winning claim moves the head. -/
theorem pointPeriodMakesRecord : Obligations.PointPeriodMakesRecord := by
  intro s p d hh hp hover hc hrun hidle hw q avg record
  obtain ⟨r, hdecl, hkept, hpoints⟩ := declareSlot_of_period (d := d) hh hp hover hc hidle hw
  have hq : p.withSample s (acceptedSlot s d) = q := by
    change _ = (match acceptedSlot s d with | none => p | some t => pointPlus p (s.convert t))
    cases acceptedSlot s d <;> rfl
  have hrecord : s.pointRecord q = record := by
    have hqp : q = { p with accepted := q.accepted, sums := q.sums } := by rw [← hq]; exact withSample_eq _
    have hunstd : (!standardized p.epoch) = decide (p.epoch = 0) := by simp [standardized]
    rw [State.pointRecord, hqp]
    simp only [hunstd, beq_eq_decide]
    rfl
  rw [hq, hrecord] at hpoints
  refine ⟨_, (exec_pointPeriodEnd hp hover hrun).trans (by rw [hdecl]), (exec_slotCommand d hrun).trans (by rw [hdecl]), ?_, ?_,
    fun hactive hbrk hpark => ?_⟩
  · rw [settle_points, decidePeriodEnd_points_next, hpoints]
  · rw [settle_points, decidePeriodEnd_points_ring, hpoints, keepNewest, List.length_append, List.length_singleton]
  · exact periodEndDecides hkept (by rw [hpoints]) hh hactive hbrk hpark

end Sys2Proof.Safety
end

section
/-! SUPPORT. The end of an absence window: its verdict, and the entry to BREAK that a declaration makes (R122, R123, R127 to R131),
and the obligation about them. -/

namespace Sys2Proof.Machine

open Sys2Proof Sys2Proof.Safety

/-! ## The hold over a measuring head away from park -/

/-- What the claim of the hold leaves of a measuring head that is not at park (R43). -/
structure MeasuringLeft (t c : State) : Prop where
  away : Away c
  scan : c.head.scan = none
  absent : c.absent = ⟨false, 0, 0, false⟩
  brk : c.brk = t.brk
  store : c.store = t.store
  phase : c.std.phase = .idle
  scanning : (∃ leg, t.head.state = .scanning leg) → c.head.state = .returning ∧ c.head.drvDir = false
  point : t.head.state = .singlePoint → c.points = { t.points with period := none }
    ∧ c.head.state = if t.pins.drvRdy then .returning else .fault
  ring : t.head.scan.isSome = true → c.ring = t.ring.onFilling (fun x => { x with status := .void })

section

variable {s t : State}

theorem beginReturning_std (g : Grant) (hidle : s.std.phase = .idle) (hpos : s.head.position ≠ 0) :
    (s.beginReturning g).std = s.std := by
  by_cases hd : s.driveMissing = true
  · rw [beginReturning_of_missing _ hd, faultStill_std _ hidle]
  · rw [beginReturning_of_away _ (by simpa using hd) hpos, State.returning]
    simp

/-- The claim of a measuring head without a scan begins no procedure and ends none. -/
theorem claim_phase (hs : t.head.scan = none) (hm : t.head.state.measuring = true) (hidle : t.std.phase = .idle)
    (hpos : t.head.position ≠ 0) : (t.claimTakesEffectWith id).std.phase = .idle := by
  cases hst : t.head.state with
  | scanning leg =>
    have e : t.claimTakesEffectWith id = (t.toHead .returning).beginReturning (t.toHead .returning).highGrant := by
      simp only [State.claimTakesEffectWith, hst]
      rw [scanAbortWith_of_none _ (by simp [hs])]
    rw [e, beginReturning_std _ (by simpa using hidle) (by simpa using hpos), toHead_std, hidle]
  | singlePoint =>
    have e : t.claimTakesEffectWith id = t.dropPeriod.beginReturning t.highGrant := by
      simp only [State.claimTakesEffectWith, hst]
    rw [e, beginReturning_std (s := t.dropPeriod) _ hidle hpos, dropPeriod_std, hidle]
  | _ => simp [hst, HeadState.measuring] at hm

theorem measuringLeft (hhold : t.holdPresent = true) (hm : t.head.state.measuring = true) (hidle : t.std.phase = .idle)
    (hleg : t.head.scan.isSome = true → measuringLeg t.head.state = true) (hpos : t.head.position ≠ 0) :
    MeasuringLeft t (t.claimTakesEffectWith id) := by
  have hg : t.highGrant = .hold := highGrant_of_hold hhold
  have hbrk : (t.claimTakesEffectWith id).brk = t.brk := claimTakesEffectWith_brk _ (fun _ => rfl) _
  have hstore : (t.claimTakesEffectWith id).store = t.store := claimTakesEffectWith_store _ (fun _ => rfl) _
  cases hs : t.head.scan with
  | some x =>
    have hl := hleg (by simp [hs])
    have hgt : t.turned.highGrant = .hold := highGrant_of_hold (by simpa [State.holdPresent] using hhold)
    have e : t.claimTakesEffectWith id = t.turned.returning .hold := by
      rw [claimTakesEffectWith_scan id hl hs]
      change t.turned.beginReturning t.turned.highGrant = _
      rw [hgt, beginReturning_of_away _ (driveMissing_of_moving (by simp [HeadState.still])) (by simpa using hpos)]
    rw [e] at hbrk hstore ⊢
    refine ⟨.inl (by simp), by simp, ?_, hbrk, hstore, by simpa [State.returning] using hidle, fun _ => by simp, fun h => ?_,
      fun _ => by simp [State.returning]⟩
    · rw [returning_absent _ (by simp [HeadState.measuring]), turned_absent hl]
    · rw [h] at hl; exact absurd hl (by decide)
  | none =>
    have hc := claimTakesEffectWith_unscanned id hs (by rw [hg]; simp)
    rw [hg] at hc
    have hphase := claim_phase hs hm hidle hpos
    have hcleared := hc.measuring hm
    have hring : t.head.scan.isSome = true → (t.claimTakesEffectWith id).ring = t.ring.onFilling (fun x => { x with status := .void }) :=
      fun h => absurd h (by simp [hs])
    cases hst : t.head.state with
    | scanning leg =>
      obtain ⟨-, hgoes, -⟩ := hc.moving (.inl ⟨leg, hst⟩)
      obtain ⟨hstate, -, hdir⟩ := hgoes hpos
      exact ⟨.inl hstate, hc.scan, hcleared, hbrk, hstore, hphase, fun _ => ⟨hstate, hdir⟩, fun h => by simp [hst] at h, hring⟩
    | singlePoint =>
      have hstate : (t.claimTakesEffectWith id).head.state = if t.pins.drvRdy then .returning else .fault := by
        cases hd : t.pins.drvRdy with
        | true =>
          obtain ⟨-, hgoes, -⟩ := hc.moving (.inr (.inr ⟨hst, hd⟩))
          exact (hgoes hpos).1
        | false => exact (hc.low hst hd).1
      refine ⟨?_, hc.scan, hcleared, hbrk, hstore, hphase, fun h => by simp [hst] at h, fun _ => ⟨hc.point hst, hstate⟩, hring⟩
      rw [Away, hstate]
      cases t.pins.drvRdy <;> simp
    | _ => simp [hst, HeadState.measuring] at hm

/-! ## The condition of R130 after the entry -/

theorem allClear_iff_tripped {b : Supervisor} : b.allClear = true ↔ b.tripped = ⟨false, false, false, false⟩ := by
  simp only [Supervisor.allClear]
  obtain ⟨w, p, d, r⟩ := b.tripped
  simp [PerDetector.any, and_assoc]

/-- The supervisor once the condition of R130 has been judged in BREAK with the head not at park (R130, R131). -/
theorem judgeThreading_brk (hp : s.head.state ≠ .parked) (hb : s.brk.state = .break_) :
    (s.brk.allClear = false → s.judgeThreading.brk = s.brk)
    ∧ (s.brk.allClear = true →
      (s.recipe.brk.threadingHold ≠ 0 → s.judgeThreading.brk = { s.brk with
          state := .threading, relay := false, threadingTimer := .running (s.recipe.brk.threadingHold * 1000000) })
      ∧ (s.recipe.brk.threadingHold = 0 → s.recipe.brk.autoResume = false → s.judgeThreading.brk = { s.brk with
          state := .threading, relay := false, threadingTimer := .stopped })
      ∧ (s.recipe.brk.threadingHold = 0 → s.recipe.brk.autoResume = true → s.judgeThreading.brk = { s.brk with
          state := .recovering, relay := false, threadingTimer := .stopped, recoveryCount := 0 })) := by
  refine ⟨fun h => by rw [judgeThreading_of_not_allClear h], fun h => ?_⟩
  have e : s.judgeThreading = s.threadingEntry := if_pos ⟨hb, h⟩
  refine ⟨fun hold => ?_, fun hold hauto => ?_, fun hold hauto => ?_⟩
  · rw [e, threadingEntry_of_hold hold]
    rfl
  · rw [e, threadingEntry_of_zero hold, threadingExpiry_of_manual (by exact hauto)]
    rfl
  · rw [e, threadingEntry_of_zero hold, threadingExpiry_of_auto (by exact hauto), recoveringEntry_of_ne (by exact hp), recoverRest_eq]
    rfl

/-! ## The entry to BREAK by absence (R127, R128) -/

/-- What an entry to BREAK by absence leaves of a measuring head that is not at park, whatever follows the claim. -/
structure AbsenceEntered (s u : State) : Prop where
  count : u.brk.count = min 65535 (s.brk.count + 1)
  causes : u.brk.causes.absent = true
  absent : u.absent = ⟨false, 0, 0, false⟩
  scan : u.head.scan = none
  continuity : u.profile.continuity = false
  phase : u.std.phase = .idle
  away : Away u
  scanning : (∃ leg, s.head.state = .scanning leg) → u.head.state = .returning ∧ u.head.drvDir = false
  point : s.head.state = .singlePoint → u.points.period = none ∧ u.points.ring = s.points.ring
    ∧ u.head.state = if s.pins.drvRdy then .returning else .fault
  ring : s.head.scan.isSome = true → u.ring = s.ring.onFilling (fun x => { x with status := .void })

/-- The entry that ends a scan with a slot PENDING (R168). -/
theorem absenceEntered_of_pending {k : SlotNo} (hl : measuringLeg s.head.state = true) (hs : s.head.scan.isSome = true)
    (hp : s.store.pendingSlot = some k) (hpos : s.head.position ≠ 0) (hidle : s.std.phase = .idle) :
    AbsenceEntered s (s.breakEntry true) ∧ Activated s (s.breakEntry true) k := by
  have h := entryEnds true hl hs hp hpos
  exact ⟨⟨h.count, h.causes, h.absent, h.scan, h.continuity, h.phase.trans hidle, .inl h.state, fun _ => ⟨h.state, h.dir⟩,
    fun hsp => by rw [hsp] at hl; exact absurd hl (by decide), fun _ => h.ring⟩, h.activated⟩

/-- The entry with nothing to activate, and the supervisor as the condition of R130 leaves it. -/
theorem absenceEntered_of_none (hm : s.head.state.measuring = true)
    (hleg : s.head.scan.isSome = true → measuringLeg s.head.state = true) (hnone : s.head.scan = none ∨ s.store.pendingSlot = none)
    (hpos : s.head.position ≠ 0) (hidle : s.std.phase = .idle) :
    AbsenceEntered s (s.breakEntry true)
      ∧ ∃ c : State, s.breakEntry true = c.judgeThreading ∧ c.head.state ≠ .parked ∧ c.brk = s.brk.broken true ∧ c.store = s.store := by
  let t := s.setBrk (s.brk.broken true)
  have hleft : MeasuringLeft t (t.claimTakesEffectWith id) := measuringLeft rfl hm hidle hleg hpos
  have hquiet : t.claimTakesEffectWith State.activateInEntry = t.claimTakesEffectWith id := by
    obtain hscan | hpend := hnone
    · exact claimTakesEffectWith_of_unscanned _ hscan
    · exact claimTakesEffectWith_idle fun w hw => activateInEntry_of_none (by rw [hw]; exact hpend)
  have e : s.breakEntry true = (t.claimTakesEffectWith id).breakTail.judgeThreading := by
    rw [State.breakEntry, breakEntryWith_tail]
    change (t.claimTakesEffectWith State.activateInEntry).breakTail.judgeThreading = _
    rw [hquiet]
  generalize t.claimTakesEffectWith id = c at hleft e
  have haway : Away c.breakTail := by rw [Away, breakTail_head]; exact hleft.away
  have hp := haway.ne_parked
  have hkept := judgeThreading_away haway
  have hhead := judgeThreading_head hp
  obtain ⟨hphase, hcauses⟩ := judgeThreading_rest hp
  rw [e]
  refine ⟨?_, c.breakTail, rfl, hp, by rw [breakTail_brk, hleft.brk]; rfl, by rw [breakTail_store, hleft.store]; rfl⟩
  exact
    { count := by rw [judgeThreading_count, breakTail_brk, hleft.brk]; rfl
      causes := by rw [hcauses, breakTail_brk, hleft.brk]; rfl
      absent := judgeThreading_absent hp (by rw [breakTail_absent, hleft.absent])
      scan := by rw [hhead, breakTail_head, hleft.scan]
      continuity := (judgeThreading_after _).continuity (by rw [breakTail_profile])
      phase := by rw [hphase, breakTail_std, hleft.phase]
      away := hkept.away haway
      scanning := fun h => by rw [hhead, breakTail_head]; exact hleft.scanning h
      point := fun h => by
        obtain ⟨hpoints, hstate⟩ := hleft.point h
        rw [hkept.points, breakTail_points, hpoints, hhead, breakTail_head]
        exact ⟨rfl, rfl, hstate⟩
      ring := fun h => by rw [hkept.ring, breakTail_ring]; exact hleft.ring h }

/-! ## The verdict (R122, R123) -/

theorem absentWindowEnd_of_full (h : 64 ≤ s.absent.assessed) :
    (s.absentVerdict.1 = false → s.absentWindowEnd = s.absentNextWindow)
    ∧ (s.absentVerdict.1 = true → (s.brk.state = .running ∨ s.brk.state = .recovering) →
      s.absentWindowEnd = s.absentNextWindow.breakEntry true) := by
  have hfull : s.absent.full = true := decide_eq_true h
  have hbrk : s.absentNextWindow.brk = s.brk := rfl
  refine ⟨fun hno => ?_, fun hyes hb => ?_⟩
  · simp only [State.absentWindowEnd, hfull, if_true, hno, Bool.false_eq_true, if_false]
    split <;> rfl
  · simp only [State.absentWindowEnd, hfull, if_true, hyes, hbrk]
    obtain hb | hb := hb <;> simp only [hb]

theorem absentVerdict_eq {r : Recipe} (ha : s.activeRecipe = some r) : s.absentVerdict =
    (decide (s.absent.present < 3 ∧ (r.brk.absentMode = .strict ∨ s.absent.short = true)),
      decide (s.absent.present < 3 ∧ r.brk.absentMode = .confirmed ∧ s.absent.short = false)) := by
  have hshort : decide (s.absent.present < Config.shortBelow) = decide (s.absent.present < 3) := rfl
  simp only [State.absentVerdict, State.absentMode, ha, Option.map_some, absentJudge, hshort]
  cases r.brk.absentMode <;> cases s.absent.short <;> simp

/-! ## The arrival that fills the window -/

theorem exec_absentWindowEnd {t : SampleTelegram} (hc : s.link.slotCount < 63) (hsync : s.link.state = .sync) (hg : GoodSample s t)
    (ha : s.assesses s.head.position.toNat = true) (hfull : s.absent.assessed = 63) :
    exec (.absentWindowEnd t) s = .next (((s.taken t).absentWindowEnd.stdSlot (some (sampleRaw t))).pointPeriodEnd).settle := by
  have e : exec (.absentWindowEnd t) s
      = (if s.endsAbsentWindow t then (s.setHeadRx none).declareSlot (.arrival t) else s).done := rfl
  have hends : s.endsAbsentWindow t = true := by
    simp [State.endsAbsentWindow, HeadLink.accepts, slotGood_iff.mpr hg, hsync, ha, hfull, Config.absentWindow]
  rw [e, hends, if_pos rfl, declareSlot_accepted hc hsync hg, if_pos ha]
  rfl

theorem absentNextWindow_taken {t : SampleTelegram} : SlotTaken s (s.taken t).absentNextWindow
    ∧ (s.taken t).absentNextWindow.ring = s.ring ∧ (s.taken t).absentNextWindow.points.ring = s.points.ring := by
  have hring : ((s.slotted t).pointsTaken (s.convert t)).ring = s.points.ring := by
    simp only [State.pointsTaken]; split <;> rfl
  rw [State.absentNextWindow, taken_eq]
  exact ⟨⟨rfl, rfl, rfl, rfl, rfl, rfl, rfl⟩, rfl, hring⟩

/-- An entry to BREAK by absence leaves the slot nothing more to do. -/
theorem absenceEntered_ends {u : State} (h : AbsenceEntered s u) (raw : Option RawSample) : (u.stdSlot raw).pointPeriodEnd = u := by
  rw [State.stdSlot_idle _ h.phase]
  refine pointPeriodEnd_of_more fun hs => ?_
  obtain ha | ha := h.away <;> exact absurd (ha.symm.trans hs) (by simp)

theorem absenceEntered (hm : s.head.state.measuring = true) (hleg : s.head.scan.isSome = true → measuringLeg s.head.state = true)
    (hpos : s.head.position ≠ 0) (hidle : s.std.phase = .idle) : AbsenceEntered s (s.breakEntry true) := by
  by_cases hnone : s.head.scan = none ∨ s.store.pendingSlot = none
  · exact (absenceEntered_of_none hm hleg hnone hpos hidle).1
  · rw [not_or] at hnone
    obtain ⟨hscan, hpend⟩ := hnone
    obtain ⟨k, hk⟩ := Option.ne_none_iff_exists'.mp hpend
    have hs : s.head.scan.isSome = true := Option.isSome_iff_ne_none.mpr hscan
    exact (absenceEntered_of_pending (hleg hs) hs hk hpos hidle).1

theorem taken_absent {t : SampleTelegram} (ha : s.assesses s.head.position.toNat = true) (hfull : s.absent.assessed = 63) :
    (s.taken t).absent = ⟨true, 64, s.absent.present + (if (s.convert t).present then 1 else 0), s.absent.short⟩ := by
  rw [taken_eq]
  change s.absentTaken (s.convert t) = _
  rw [absentTaken_of_assessed (x := s.convert t) ha, hfull]

end

end Sys2Proof.Machine

namespace Sys2Proof.Safety

open Sys2Proof Sys2Proof.Machine

/-- Settles O38: the window's verdict, and the entry to BREAK with or without an activation. -/
theorem absentWindowJudged : Obligations.AbsentWindowJudged := by
  intro s t r h hr hfull hleg n declared tripped entered
  obtain ⟨hassess, -⟩ := assesses_of_assessed h
  obtain ⟨hp, hidle, hsync, hl, -, hcrc, hseq, e, -, hwhere⟩ := h
  have hm : s.head.state.measuring = true := measuring_of (hwhere.imp And.left And.left)
  have hexec := exec_absentWindowEnd hp.1 hsync ⟨hcrc, hseq⟩ hassess hfull
  have habsent := taken_absent (t := t) hassess hfull
  obtain ⟨hno, hyes⟩ := absentWindowEnd_of_full (s := s.taken t) (by rw [habsent])
  have hverdict := absentVerdict_eq (s := s.taken t) (r := r) (by rw [taken_eq]; exact hr)
  rw [habsent] at hverdict
  obtain ⟨hkept, hring, hpoints⟩ := absentNextWindow_taken (s := s) (t := t)
  have hnext : (s.taken t).absentNextWindow.absent = ⟨true, 0, 0, (s.taken t).absentVerdict.2⟩ := by
    rw [State.absentNextWindow, State.setAbsent_absent, habsent]
  refine ⟨fun hnd => ?stays, fun hd hb hpos => ?enters⟩
  case stays =>
    refine ⟨_, hexec, ?_⟩
    rw [hno (by rw [hverdict]; exact decide_eq_false hnd), State.stdSlot_idle _ (by rw [hkept.std, hidle]),
      pointPeriodEnd_of_more (u := (s.taken t).absentNextWindow) (taken_period_goesOn hp)]
    refine ⟨?_, hkept.brk, hkept.head⟩
    rw [hverdict] at hnext
    exact hnext
  case enters =>
    have hbrk : (s.taken t).brk = s.brk := hkept.brk
    rw [hyes (by rw [hverdict]; exact decide_eq_true hd) (by rw [hbrk]; exact hb)] at hexec
    generalize (s.taken t).absentNextWindow = w at hexec hkept hring hpoints
    have hmw : w.head.state.measuring = true := by rw [hkept.head]; exact hm
    have hlegw : w.head.scan.isSome = true → measuringLeg w.head.state = true := by rw [hkept.head]; exact hleg
    have hposw : w.head.position ≠ 0 := by rw [hkept.head]; exact hpos
    have hidlew : w.std.phase = .idle := by rw [hkept.std]; exact hidle
    have hentered := absenceEntered hmw hlegw hposw hidlew
    rw [absenceEntered_ends hentered] at hexec
    refine ⟨_, hexec, ?_, hentered.causes, hentered.absent, hentered.scan, hentered.continuity, fun hs => ?_, fun hs => ?_,
      fun hs => ?_, fun k hs hk => ?_, fun hnone => ?_⟩
    · rw [← hkept.brk]; exact hentered.count
    · exact hentered.scanning (by rw [hkept.head]; exact hs)
    · rw [← hpoints, ← hkept.pins]; exact hentered.point (by rw [hkept.head]; exact hs)
    · rw [← hring]; exact hentered.ring (by rw [hkept.head]; exact hs)
    · rw [← hkept.head] at hs
      obtain ⟨-, hact⟩ := absenceEntered_of_pending (hlegw hs) hs (by rw [hkept.store]; exact hk) hposw hidlew
      exact activated_of_same hact hkept.store rfl rfl rfl
    · rw [← hkept.head, ← hkept.store] at hnone
      obtain ⟨-, c, e, hstill, hcb, hcs⟩ := absenceEntered_of_none hmw hlegw hnone hposw hidlew
      have hentry : c.brk = { entered with state := .break_, relay := true } := by rw [hcb, hkept.brk]; rfl
      have hrecipe : c.recipe = r := by
        rw [recipe_congr (hcs.trans hkept.store), State.recipe, hr]; rfl
      have hclear : c.brk.allClear = true ↔ tripped = ⟨false, false, false, false⟩ := by
        rw [allClear_iff_tripped, hentry]; rfl
      obtain ⟨hstays, hgoes⟩ := judgeThreading_brk hstill (by rw [hentry])
      rw [hrecipe, hentry] at hgoes
      rw [e]
      refine ⟨fun htrip => ?_, fun htrip => ?_⟩
      · rw [settle_brk, hstays (by rw [Bool.eq_false_iff, ne_eq, hclear]; exact htrip), hentry]
      · exact hgoes (by rw [← hentry]; exact hclear.mpr htrip)

end Sys2Proof.Safety
end

section
/-! SUPPORT. What no decision, no entry of the break state machine and no activation touches: the newest scan number, the scan
counter, and a hole detector at rest. -/

namespace Sys2Proof.Machine

open Sys2Proof Sys2Proof.Safety

/-- The newest scan number and the scan counter stand, and a hole detector whose stretch is over stays as it is. -/
structure TallyKept (n n' : BitVec 16) (c c' : Nat) (h h' : Hole) : Prop where
  newest : n' = n
  counter : c' = c
  hole : h.endStretch = h → h' = h

/-- What a completion has tallied is left alone; only the units themselves are compared, so that a step that changes others
needs no lemma. -/
def Untouched (s t : State) : Prop :=
  TallyKept s.ring.newest t.ring.newest s.std.scanCounter t.std.scanCounter s.hole t.hole

section

variable {s t u : State}

theorem Untouched.refl (s : State) : Untouched s s := ⟨rfl, rfl, fun _ => rfl⟩

theorem Untouched.trans (h : Untouched s t) (h' : Untouched t u) : Untouched s u := by
  refine ⟨h'.newest.trans h.newest, h'.counter.trans h.counter, fun hs => ?_⟩
  have ht := h.hole hs
  exact (h'.hole (by rw [ht, hs])).trans ht

theorem Untouched.of_eq (hr : t.ring = s.ring) (hstd : t.std = s.std) (hh : t.hole = s.hole) : Untouched s t :=
  ⟨by rw [hr], by rw [hstd], fun _ => hh⟩

/-- The stretch may end. -/
theorem Untouched.of_stretch (hr : t.ring = s.ring) (hstd : t.std = s.std) (hh : t.hole = s.hole.endStretch) : Untouched s t :=
  ⟨by rw [hr], by rw [hstd], fun h => hh.trans h⟩

end

section

variable (s : State)

theorem stopAssessment_untouched : Untouched s s.stopAssessment := .of_stretch rfl rfl rfl

theorem toHead_untouched (h : HeadState) : Untouched s (s.toHead h) := by
  simp only [State.toHead]; split
  · exact stopAssessment_untouched _
  · exact .of_eq rfl rfl rfl

theorem profileRestart_untouched : Untouched s s.profileRestart := by
  simp only [State.profileRestart, State.updateEdges]; split
  · exact .of_stretch rfl rfl rfl
  · exact .of_eq rfl rfl rfl

theorem deferredAtAbort_untouched : Untouched s s.deferredAtAbort := by
  simp only [State.deferredAtAbort]; split
  · exact Untouched.trans (t := s.setProfile { s.profile with deferred := false }) (.of_eq rfl rfl rfl) (profileRestart_untouched _)
  · exact .refl s

theorem voided_untouched : Untouched s s.voided :=
  ⟨by simp, by simp [State.voided, State.endStretch, State.clearContinuity], fun h => by rw [voided_hole, h]⟩

theorem scanAbortWith_id_untouched : Untouched s (s.scanAbortWith id) := by
  cases h : s.head.scan with
  | none => rw [scanAbortWith_of_none _ h]; exact .refl s
  | some x =>
    rw [scanAbortWith_of_some _ h]
    exact (voided_untouched s).trans (deferredAtAbort_untouched _)

theorem stdAbort_untouched : Untouched s s.stdAbort := by
  obtain ⟨-, -, -, -, hcount⟩ := stdAbort_std s
  exact ⟨by rw [stdAbort_ring], hcount, fun _ => by rw [stdAbort_hole]⟩

theorem faultStill_untouched (cause : FaultCause) : Untouched s (s.faultStill cause) := by
  have hf : Untouched s (s.faulted cause) := toHead_untouched s.driveOff .fault
  have hd : ∀ v : State, Untouched v v.dropPeriod := fun v => .of_eq rfl rfl rfl
  have hn : ∀ v : State, Untouched v v.headNotice := fun v => .of_eq rfl rfl rfl
  rw [State.faultStill, faultEntryWith_eq]
  exact ((hf.trans (scanAbortWith_id_untouched _)).trans ((hd _).trans (stdAbort_untouched _))).trans (hn _)

theorem startScan_untouched (dir : ScanDir) (a : Bool) : Untouched s (s.startScan dir a) :=
  ⟨by rw [startScan_ring]; rfl, by simp, fun h => by rw [startScan_hole, h]⟩

theorem approaching_untouched (g : Grant) : Untouched s (s.approaching g) := by
  simp only [State.approaching]; split <;> exact toHead_untouched s (.scanning .approach)

theorem beginApproach_untouched (g : Grant) : Untouched s (s.beginApproach g) := by
  rw [beginApproach_eq]; split
  · exact faultStill_untouched s _
  · split
    · exact (approaching_untouched s g).trans (startScan_untouched _ _ _)
    · exact approaching_untouched s g

theorem arrivePoint_untouched : Untouched s s.arrivePoint :=
  (toHead_untouched s.driveOff .singlePoint).trans (.of_eq (by simp) (by simp) (by simp [State.arrivePoint]))

theorem beginPositioning_untouched (st : Station) (p : Nat) : Untouched s (s.beginPositioning st p) := by
  have hpos : Untouched s (s.positioning st p) := toHead_untouched s .positioning
  rw [beginPositioning_eq]; split
  · exact faultStill_untouched s _
  · split
    · exact hpos.trans (arrivePoint_untouched _)
    · exact hpos

theorem stayParked_untouched (g : Grant) : Untouched s (s.stayParked g) := by
  simp only [State.stayParked]; split
  · exact .of_eq rfl rfl rfl
  all_goals exact toHead_untouched s .parked

theorem decideParkedOther_untouched (g : Grant) : Untouched s (s.decideParkedOther g) := by
  cases g with
  | scan => exact beginApproach_untouched s _
  | point st p => exact beginPositioning_untouched s st p
  | _ => exact stayParked_untouched s _

theorem standardizing_untouched : Untouched s s.standardizing := by
  have hbegun : Untouched s (((s.toHead .standardizing).grantTo .standardize).setStd
      (if s.store.machineSet then (s.std.begin_ s.store.machine).enterZero else s.std.begin_ s.store.machine)) := by
    obtain ⟨hn, -, hh⟩ := toHead_untouched s .standardizing
    refine ⟨hn, ?_, hh⟩
    rw [State.setStd_std]; split <;> rfl
  simp only [State.standardizing]; split <;> exact hbegun

theorem decideParked_untouched : Untouched s s.decideParked := by
  have hempty : ∀ v : State, Untouched v v.stdNoRecord := fun v => ⟨by simp, rfl, fun _ => by simp⟩
  rw [decideParked_eq]; split
  · rw [startStd_eq]; split
    · exact standardizing_untouched s
    · exact ((standardizing_untouched s).trans (hempty _)).trans (decideParkedOther_untouched _ _)
  · exact decideParkedOther_untouched s _

theorem redecideIfParked_untouched : Untouched s s.redecideIfParked := by
  by_cases h : s.head.state = .parked
  · rw [redecideIfParked_of_parked h]; exact decideParked_untouched s
  · rw [redecideIfParked_of_ne h]; exact .refl s

theorem beginReturning_untouched (g : Grant) : Untouched s (s.beginReturning g) := by
  have hleft : Untouched s (s.returning g) := toHead_untouched s .returning
  have hpark : ∀ v : State, Untouched v v.arriveParked := fun v => by
    have hstill : Untouched v (v.driveOff.toHead .parked).headNotice := toHead_untouched v.driveOff .parked
    exact hstill.trans (decideParked_untouched _)
  rw [beginReturning_eq]; split
  · exact faultStill_untouched s _
  · split
    · exact hleft.trans (hpark _)
    · exact hleft

theorem claimTakesEffectWith_id_untouched : Untouched s (s.claimTakesEffectWith id) := by
  simp only [State.claimTakesEffectWith]; split
  · exact ((toHead_untouched s _).trans (scanAbortWith_id_untouched _)).trans (beginReturning_untouched _ _)
  · exact beginReturning_untouched s _
  · have hd : Untouched s s.dropPeriod := .of_eq rfl rfl rfl
    exact hd.trans (beginReturning_untouched _ _)
  · have hend : ∀ v : State, Untouched v (v.enterHead .parked s.highGrant) := fun v => toHead_untouched v .parked
    exact (stdAbort_untouched s).trans (hend _)
  all_goals exact .of_eq rfl rfl rfl

theorem recoveringEntry_untouched : Untouched s s.recoveringEntry := by
  rw [recoveringEntry_eq]
  have hrest : Untouched s (s.setBrk s.brk.recovering).recoverRest := by
    obtain ⟨hn, hc, hh⟩ := profileRestart_untouched (s.setBrk s.brk.recovering)
    exact ⟨hn, hc, hh⟩
  exact hrest.trans (redecideIfParked_untouched _)

theorem judgeThreading_untouched : Untouched s s.judgeThreading := by
  have hset : ∀ (v : State) b, Untouched v (v.setBrk b) := fun v b => .of_eq rfl rfl rfl
  have hnotice : ∀ v : State, Untouched v v.breakNotice := fun v => .of_eq rfl rfl rfl
  have hexpiry : ∀ v : State, Untouched v v.threadingExpiry := fun v => by
    simp only [State.threadingExpiry]; split
    · exact (hset _ _).trans (recoveringEntry_untouched _)
    · exact hset v _
  simp only [State.judgeThreading]; split
  · simp only [threadingEntry_eq]; split
    · exact ((hset s _).trans (hnotice _)).trans (hexpiry _)
    · exact (hset s _).trans (hnotice _)
  · exact .refl s

theorem breakEntryWith_id_untouched (absent : Bool) : Untouched s (s.breakEntryWith id absent) := by
  have hset : Untouched s (s.setBrk (s.brk.broken absent)) := .of_eq rfl rfl rfl
  have htail : ∀ v : State, Untouched v v.breakTail := fun v =>
    .of_eq (by simp) (by simp) (by simp [State.breakTail])
  rw [breakEntryWith_tail]
  exact ((hset.trans (claimTakesEffectWith_id_untouched _)).trans (htail _)).trans (judgeThreading_untouched _)

theorem addCauses_untouched (trips : PerDetector Bool) : Untouched s (s.addCauses trips) := .of_eq rfl rfl rfl

theorem judgeActivation_untouched (trips clears : PerDetector Bool) :
    Untouched s (s.judgeActivationWith (State.breakEntryWith id false) trips clears) := by
  obtain ⟨-, -, e⟩ | ⟨-, -, e⟩ | ⟨-, e⟩ := judgeActivationWith_cases (State.breakEntryWith id false) trips clears s <;> rw [e]
  · exact recoveringEntry_untouched s
  · exact breakEntryWith_id_untouched s false
  · obtain e | ⟨-, -, e⟩ | ⟨-, -, e⟩ | ⟨-, e⟩ := judgeDetectorsWith_cases (State.breakEntryWith id false) trips clears s <;> rw [e]
    · exact .refl s
    · exact breakEntryWith_id_untouched s false
    · exact addCauses_untouched s _
    · exact judgeThreading_untouched s

theorem reaim_untouched : Untouched s s.reaim := by
  by_cases h : s.head.state = .scanning .approach
  · have hd : Untouched s (s.drive (s.directionTo s.recipe.geometry.a) s.traverseStep) := .of_eq rfl rfl rfl
    simp only [State.reaim, h]; split
    · exact hd.trans (startScan_untouched _ _ _)
    · exact hd
  · rw [reaim_of_ne h]; exact .refl s

theorem handed_untouched (k : SlotNo) : Untouched s (s.handed k) := by
  have hprofile : ∀ (v : State) l, Untouched v (v.profileActivation l) := fun v l => by
    simp only [State.profileActivation]; split
    · exact .of_eq rfl rfl rfl
    · exact Untouched.trans (t := v.setProfile { v.profile with layout := some l }) (.of_eq rfl rfl rfl) (profileRestart_untouched _)
  have hclear : ∀ v : State, Untouched v v.clearLimits := fun v => .of_eq (by simp) (by simp) (by simp)
  have hstore : Untouched s (s.setStore (s.store.activate k)) := .of_eq rfl rfl rfl
  have hactive : Untouched s (s.activated k) := (hstore.trans (hprofile _ _)).trans (hclear _)
  exact hactive.trans (.of_eq rfl rfl rfl)

theorem activatePending_untouched : Untouched s s.activatePending := by
  cases h : s.store.pendingSlot with
  | none => rw [activatePending_of_none h]; exact .refl s
  | some k =>
    have hnews : ∀ v : State, Untouched v (v.recipeNotice .activated) := fun v => .of_eq rfl rfl rfl
    rw [activatePending_of_some h, State.activate, activateWith_handed]
    exact (((handed_untouched s k).trans (judgeActivation_untouched _ _ _)).trans (hnews _)).trans
      ((redecideIfParked_untouched _).trans (reaim_untouched _))

/-- No decision at a completion, and none that it leads to. -/
theorem decideCompletion_untouched (dir : ScanDir) (activated : Bool) : Untouched s (s.decideCompletion dir activated) := by
  have hscan : ∀ g d, Untouched s ((s.grantTo g).startScan d false) := fun g d =>
    Untouched.trans (t := s.grantTo g) (.of_eq rfl rfl rfl) (startScan_untouched _ _ _)
  simp only [State.decideCompletion]; split
  · simp only [State.stdAtCompletion]; split
    · exact beginReturning_untouched s _
    · split
      · exact beginReturning_untouched s _
      · exact hscan _ _
  · exact beginPositioning_untouched s _ _
  · simp only [State.scanAtCompletion]; split
    · exact beginApproach_untouched s _
    · exact hscan _ _
  all_goals exact beginReturning_untouched s _

end

end Sys2Proof.Machine
end

section
/-! SUPPORT. Steps 1 and 2 of a completion: the readers served, the record closed, the tallies (R33, R55, R65, R91, R98). -/

namespace Sys2Proof.Machine

open Sys2Proof Sys2Proof.Safety

/-! ## The readers that wait (R98) -/

/-- A port once its pending READ SCAN, if its minimum is reached, is served from the record at an index (R98). -/
def Port.served (p : Port) (newest : BitVec 16) (i : Nat) : Port :=
  match p.pending with
  | none => p
  | some r =>
    if aheadBy r.minimum newest ≤ 0 then Port.queueReply { p with pending := none } ⟨some .readScan, r.tag, .scan i r.query⟩ else p

/-- The hold sets of a record change, and nothing else of a ring. -/
def HeldMore (i : Nat) (g g' : Ring) : Prop :=
  ∃ h : Four Bool → Four Bool, (∀ x st, x.get st = true → (h x).get st = true) ∧ g' = g.modify i (fun r => { r with holds := h r.holds })

theorem HeldMore.refl (i : Nat) (g : Ring) : HeldMore i g g := ⟨id, fun _ _ h => h, by
  change g = { g with records := g.records.modify i id }
  rw [List.modify_id]⟩

theorem HeldMore.trans {i : Nat} {g g' g'' : Ring} (h : HeldMore i g g') (h' : HeldMore i g' g'') : HeldMore i g g'' := by
  obtain ⟨a, ha, rfl⟩ := h
  obtain ⟨b, hb, rfl⟩ := h'
  refine ⟨b ∘ a, fun x st hx => hb _ _ (ha _ _ hx), ?_⟩
  simp [Ring.modify, List.modify_modify_eq, Function.comp_def]

theorem HeldMore.hold (i : Nat) (g : Ring) (st : Station) : HeldMore i g (g.hold i st) := by
  refine ⟨fun x => x.set st true, fun x j hx => ?_, rfl⟩
  rw [Four.get_set]; split
  · rfl
  · exact hx

/-- What a change of hold sets leaves: the newest number, the other records, and of its own record all but the holds. -/
theorem HeldMore.records {i : Nat} {g g' : Ring} (h : HeldMore i g g') : g'.newest = g.newest
    ∧ (∀ j, j ≠ i → g'.records[j]? = g.records[j]?)
    ∧ ∀ r, g.records[i]? = some r → ∃ x : Four Bool, (∀ st, r.holds.get st = true → x.get st = true)
        ∧ g'.records[i]? = some { r with holds := x } := by
  obtain ⟨f, hf, rfl⟩ := h
  refine ⟨rfl, fun j hj => ?_, fun r hr => ⟨f r.holds, hf r.holds, ?_⟩⟩
  · simp [Ring.modify, List.getElem?_modify_ne, hj.symm]
  · simp [Ring.modify, hr]

section

variable {s : State} {i : Nat}

theorem servePending_heldMore (st : Station) : HeldMore i s.ring (s.servePending i st).ring := by
  obtain e | e := servePending_ring_or s i st <;> rw [e]
  · exact .refl _ _
  · exact .hold _ _ _

/-- A service changes the ring and the ports alone. -/
theorem servePending_eq (st : Station) : s.servePending i st = { s with
    ring := (s.servePending i st).ring, ports := (s.servePending i st).ports } := by
  obtain e | ⟨r, -, e⟩ := servePending_cases s i st <;> rw [e]
  rfl

theorem servePending_get (st j : Station) : (s.servePending i st).ports.get j =
    if j = st then (s.ports.get j).served s.ring.newest i else s.ports.get j := by
  cases h : (s.ports.get st).pending with
  | none =>
    rw [servePending_of_none i h]; split
    · next hj => subst hj; simp [Port.served, h]
    · rfl
  | some r =>
    rw [servePending_of_some i h]
    by_cases hdue : aheadBy r.minimum s.ring.newest ≤ 0
    · rw [if_pos hdue]
      split
      · next hj =>
        subst hj
        simp [State.serveScan, State.reply, Port.served, h, hdue]
      · next hj =>
        rw [State.serveScan, State.reply, State.onPort_get_ne _ _ hj]
        exact State.onPort_get_ne s (fun p => { p with pending := none }) hj
    · rw [if_neg hdue]
      split
      · next hj => subst hj; simp [Port.served, h, hdue]
      · rfl

theorem servePending_newest (st : Station) : (s.servePending i st).ring.newest = s.ring.newest :=
  (servePending_heldMore st).records.1

/-- Every station that waits is served, each for itself. -/
theorem serveAllPending_get (j : Station) : (s.serveAllPending i).ports.get j = (s.ports.get j).served s.ring.newest i := by
  simp only [State.serveAllPending, servePending_get, servePending_newest]
  cases j <;> simp

theorem serveAllPending_heldMore : HeldMore i s.ring (s.serveAllPending i).ring :=
  (((servePending_heldMore .n0).trans (servePending_heldMore .n1)).trans (servePending_heldMore .n2)).trans (servePending_heldMore .n3)

theorem serveAllPending_eq : s.serveAllPending i = { s with
    ring := (s.serveAllPending i).ring, ports := (s.serveAllPending i).ports } := by
  rw [State.serveAllPending, servePending_eq .n3, servePending_eq .n2, servePending_eq .n1, servePending_eq .n0]

/-- A station's read is due, and the record to serve it from is there. -/
def ReadDue (s : State) (i : Nat) (st : Station) : Prop :=
  (∃ q, (s.ports.get st).pending = some q ∧ aheadBy q.minimum s.ring.newest ≤ 0) ∧ ∃ r, s.ring.records[i]? = some r

/-- A station is in the hold set of the record at an index. -/
def HeldAt (s : State) (i : Nat) (st : Station) : Prop := ∃ r, s.ring.records[i]? = some r ∧ r.holds.get st = true

theorem HeldAt.of_heldMore {t : State} {st : Station} (h : HeldAt s i st) (hm : HeldMore i s.ring t.ring) : HeldAt t i st := by
  obtain ⟨r, hr, hst⟩ := h
  obtain ⟨x, hx, hr'⟩ := hm.records.2.2 r hr
  exact ⟨_, hr', hx st hst⟩

theorem ReadDue.wait {st j : Station} (h : ReadDue s i st) (hj : st ≠ j) : ReadDue (s.servePending i j) i st := by
  obtain ⟨⟨q, hq, hdue⟩, r, hr⟩ := h
  obtain ⟨x, -, hr'⟩ := (servePending_heldMore (s := s) (i := i) j).records.2.2 r hr
  refine ⟨⟨q, ?_, ?_⟩, _, hr'⟩
  · rw [servePending_get, if_neg hj, hq]
  · rw [servePending_newest]; exact hdue

/-- A station whose read is served is in the record's hold set (R93). -/
theorem ReadDue.serve {st : Station} (h : ReadDue s i st) : HeldAt (s.servePending i st) i st := by
  obtain ⟨⟨q, hq, hdue⟩, r, hr⟩ := h
  rw [servePending_of_some i hq, if_pos hdue]
  refine ⟨{ r with holds := r.holds.set st true }, ?_, by simp⟩
  change (s.ring.hold i st).records[i]? = _
  simp [Ring.hold, Ring.modify, hr]

theorem HeldAt.later {st : Station} (h : HeldAt s i st) (j : Station) : HeldAt (s.servePending i j) i st :=
  h.of_heldMore (servePending_heldMore j)

theorem ReadDue.serveAll {st : Station} (h : ReadDue s i st) : HeldAt (s.serveAllPending i) i st := by
  cases st with
  | n0 => exact ((h.serve.later .n1).later .n2).later .n3
  | n1 => exact (((h.wait (by decide)).serve).later .n2).later .n3
  | n2 => exact (((h.wait (by decide)).wait (by decide)).serve).later .n3
  | n3 => exact ((((h.wait (by decide)).wait (by decide)).wait (by decide))).serve

end

/-! ## The record of a completed scan (R33, step 1) -/

/-- The FILLING record as the completion writes it, before the holds of the reads that it serves. -/
def State.completedAt (s : State) (dir : ScanDir) (i : Nat) : ScanRecord :=
  s.closedRecord ((s.ring.at i).withResults (s.edges.run.resolve dir) (s.completeEdges (s.edges.run.resolve dir)).edges.locked
    (s.profileResults dir (s.edges.run.resolve dir)))

section

variable {s : State} {dir : ScanDir} {i : Nat}

theorem filling_modify {g : Ring} {f : ScanRecord → ScanRecord} (hf : ∀ r, (f r).status = r.status) (j : Nat) :
    (g.modify j f).filling = g.filling := by
  have hstatus : (g.records.modify j f).map (·.status) = g.records.map (·.status) := by
    refine List.ext_getElem? fun k => ?_
    rw [List.getElem?_map, List.getElem?_map, List.getElem?_modify]
    cases g.records[k]? with
    | none => rfl
    | some r => by_cases hk : j = k <;> simp [hk, hf]
  have hfind : ∀ l : List ScanRecord, l.findIdx? (fun r => r.status == .filling) = (l.map (·.status)).findIdx? (· == .filling) :=
    fun l => by rw [List.findIdx?_map]; rfl
  rw [Ring.filling, Ring.filling, hfind, hfind, Ring.modify, hstatus]

theorem judged_ring (h : s.ring.filling = some i) : (s.judged dir).ring = s.ring.modify i (fun r =>
    r.withResults (s.edges.run.resolve dir) (s.completeEdges (s.edges.run.resolve dir)).edges.locked
      (s.profileResults dir (s.edges.run.resolve dir))) := by
  simp only [State.judged, State.setRing_ring, State.setProfile_ring, completeEdges_ring, Ring.onFilling_eq h]
  rfl

theorem judged_filling (h : s.ring.filling = some i) : (s.judged dir).ring.filling = some i := by
  rw [judged_ring h, filling_modify (f := fun r => r.withResults _ _ _) (fun _ => rfl), h]

theorem judged_closedRecord (h : s.ring.filling = some i) :
    (s.judged dir).closedRecord ((s.judged dir).ring.at i) = s.completedAt dir i := by
  have hat : (s.judged dir).ring.at i = (s.ring.at i).withResults (s.edges.run.resolve dir)
      (s.completeEdges (s.edges.run.resolve dir)).edges.locked (s.profileResults dir (s.edges.run.resolve dir)) := by
    rw [judged_ring h, Ring.at_modify, if_pos ⟨rfl, (Ring.filling_some h).1⟩]
  have hnew : (s.judged dir).ring.newest = s.ring.newest := by rw [judged_ring h]; rfl
  rw [hat, State.completedAt]
  simp only [State.closedRecord, hnew, State.mdMetres, State.tachHeld]
  simp [State.judged]

/-- The ring with the completed record in place, before the holds of the reads that it serves. -/
def State.completedRing (s : State) (dir : ScanDir) (i : Nat) : Ring :=
  { (s.ring.modify i (fun _ => s.completedAt dir i)) with newest := s.ring.newest + 1 }

@[simp] theorem closing_limits (s : State) (i : Nat) : (s.closing i).limits = s.limits := rfl
@[simp] theorem closing_pins (s : State) (i : Nat) : (s.closing i).pins = s.pins := rfl
@[simp] theorem closing_conv (s : State) (i : Nat) : (s.closing i).conv = s.conv := rfl

theorem completedRing_at (h : i < s.ring.records.length) : (s.completedRing dir i).records[i]? = some (s.completedAt dir i) := by
  change (s.ring.records.modify i _)[i]? = _
  rw [List.getElem?_modify_eq, List.getElem?_eq_getElem h]
  rfl

theorem completedRing_ne {j : Nat} (h : j ≠ i) : (s.completedRing dir i).records[j]? = s.ring.records[j]? := by
  change (s.ring.records.modify i _)[j]? = _
  simp [h.symm]

/-- A state in which the record of a scan has been completed, the one at index i (R33, step 1). -/
structure RecordClosed (s t : State) (dir : ScanDir) (i : Nat) : Prop where
  ring : HeldMore i (s.completedRing dir i) t.ring
  trend : t.trend = keepNewest 16 (s.trend ++ [(s.completedAt dir i).summary])
  ports : ∀ st, t.ports.get st = (Port.offer (s.completedAt dir i).notice (s.ports.get st)).served (s.ring.newest + 1) i
  held : ∀ st q, (s.ports.get st).pending = some q → aheadBy q.minimum (s.ring.newest + 1) ≤ 0 → HeldAt t i st
  edges : t.edges = (s.completeEdges (s.edges.run.resolve dir)).edges
  profile : t.profile = s.profile.completed (s.profileResults dir (s.edges.run.resolve dir))
  hole : t.hole = s.hole.endStretch
  head : t.head = { s.head with scan := none }
  std : t.std = s.std
  brk : t.brk = s.brk
  store : t.store = s.store
  speed : t.speed = s.speed
  limits : t.limits = s.limits
  pins : t.pins = s.pins
  conv : t.conv = s.conv

theorem judged_hole : (s.judged dir).hole.endStretch = s.hole.endStretch := by
  have hup : ∀ (v : State) e, (v.updateEdges e).hole.endStretch = v.hole.endStretch := fun v e => by
    simp only [State.updateEdges]; split <;> rfl
  simp only [State.judged, State.setRing_hole, State.setProfile_hole, State.completeEdges, hup]
  split
  · rw [hup]; rfl
  · rfl

theorem completeRecord_closed (h : s.ring.filling = some i) : RecordClosed s (s.completeRecord dir) dir i := by
  have hj := judged_filling (dir := dir) h
  have hr := judged_closedRecord (dir := dir) h
  obtain ⟨hlt, -⟩ := Ring.filling_some h
  have hring : ((s.judged dir).closing i).ring = s.completedRing dir i := by
    have e : ((s.judged dir).closing i).ring = { ((s.judged dir).ring.modify i
        (fun _ => (s.judged dir).closedRecord ((s.judged dir).ring.at i))) with newest := (s.judged dir).ring.newest + 1 } := rfl
    rw [e, hr, judged_ring h, State.completedRing]
    simp only [Ring.modify, List.modify_modify_eq]
    rfl
  have hover := closeFilling_over hj
  rw [hr] at hover
  have e : s.completeRecord dir
      = (((((s.judged dir).closing i).offer (s.completedAt dir i).notice).serveAllPending i).setBins []).endStretch := by
    rw [completeRecord_eq, closeFilling_head, hover]
  have hnew : ((s.judged dir).closing i).ring.newest = s.ring.newest + 1 := by rw [hring]; rfl
  have hports : ((s.judged dir).closing i).ports = s.ports := by simp [State.judged]
  have heq := serveAllPending_eq (s := ((s.judged dir).closing i).offer (s.completedAt dir i).notice) (i := i)
  have hheld := serveAllPending_heldMore (s := ((s.judged dir).closing i).offer (s.completedAt dir i).notice) (i := i)
  have hget := fun st => serveAllPending_get (s := ((s.judged dir).closing i).offer (s.completedAt dir i).notice) (i := i) st
  rw [offer_ring, hring] at hheld
  rw [e]
  refine
    { ring := hheld
      trend := ?trend, ports := fun st => ?ports, held := fun st q hq hdue => ?held, edges := ?edges, profile := ?profile, hole := ?hole
      head := ?_, std := ?_, brk := ?_, store := ?_, speed := ?_, limits := ?_, pins := ?_, conv := ?_ }
  case ports =>
    change ((((s.judged dir).closing i).offer (s.completedAt dir i).notice).serveAllPending i).ports.get st = _
    rw [hget, offer_ring, hnew, State.offer_get, hports]
  case held =>
    refine ReadDue.serveAll (s := ((s.judged dir).closing i).offer (s.completedAt dir i).notice) ⟨⟨q, ?_, ?_⟩, ?_⟩
    · rw [State.offer_get, (Port.offer_kept _ _).2.1, hports, hq]
    · rw [offer_ring, hnew]; exact hdue
    · rw [offer_ring, hring]
      exact ⟨_, completedRing_at hlt⟩
  case trend =>
    rw [heq]
    change keepNewest 16 ((s.judged dir).trend ++ [((s.judged dir).closedRecord ((s.judged dir).ring.at i)).summary]) = _
    rw [hr]
    simp [State.judged]
  case hole =>
    rw [heq]
    change (s.judged dir).hole.endStretch = _
    exact judged_hole
  case profile =>
    rw [heq]
    change (s.judged dir).profile = _
    simp [State.judged]
  case edges =>
    have hclosing : ((s.judged dir).closing i).edges = (s.judged dir).edges := rfl
    rw [endStretch_edges, State.setBins_edges, serveAllPending_edges, offer_edges, hclosing]
    simp only [State.judged, State.setRing_edges, State.setProfile_edges]
  all_goals
    rw [heq]
    simp [State.judged]

end

end Sys2Proof.Machine
end

section
/-! SUPPORT. A completion as a whole: what steps 1 and 2 leave, and what the activation and the decision after them may change
(R33). -/

namespace Sys2Proof.Machine

open Sys2Proof Sys2Proof.Safety

/-! ## The count that completes a scan -/

section

variable {s : State} {dir : CountDir} {x : ActiveScan} {i : Nat}

/-- The limit at which a scan in progress is complete (R33). -/
def ActiveScan.goal : ActiveScan → Nat
  | ⟨.fwd, _, b⟩ => b
  | ⟨.rev, a, _⟩ => a

theorem arrival_of_completes {m : State} (hl : measuringLeg m.head.state = true) (hx : m.head.scan = some x)
    (hp : m.head.position.toNat = x.goal) : m.arrival = m.completeScan x.dir := by
  obtain ⟨d, a, b⟩ := x
  cases d <;> obtain hs | hs := measuringLeg_iff.mp hl <;> simp only [State.arrival, hs, hx] <;> exact if_pos hp

theorem exec_completes (h : CompletesScan dir s x i) : exec (.encoderCount dir) s
    = .next ((s.setHead (counted s.head dir)).completeScan x.dir).settle := by
  obtain ⟨hl, hx, -, hp⟩ := h
  have hstate : (counted s.head dir).state = s.head.state := by cases dir <;> rfl
  have hscan : (counted s.head dir).scan = s.head.scan := by cases dir <;> rfl
  have hgoal : (counted s.head dir).position.toNat = x.goal := by
    rw [hp]
    obtain ⟨d, a, b⟩ := x
    cases d <;> rfl
  rw [exec_encoderCount, arrival_of_completes (by rw [State.setHead_head, hstate]; exact hl)
    (by rw [State.setHead_head, hscan, hx]) hgoal]

end

/-! ## Steps 1 and 2 -/

/-- The notices of step 2. -/
def TallyNews (n : Notice) : Prop := n.kind = .breakState ∨ n.kind = .limit ∨ n.kind = .holeReport

section

variable (s : State) (dir : ScanDir)

theorem tallied_ring : (s.tallied dir).ring = (s.completeRecord dir).ring := by simp [State.tallied]
theorem tallied_trend : (s.tallied dir).trend = (s.completeRecord dir).trend := by simp [State.tallied]
theorem tallied_edges : (s.tallied dir).edges = (s.completeRecord dir).edges := by simp [State.tallied]
theorem tallied_profile : (s.tallied dir).profile = (s.completeRecord dir).profile := by simp [State.tallied]
theorem tallied_store : (s.tallied dir).store = s.store := by simp [State.tallied]
theorem tallied_speed : (s.tallied dir).speed = s.speed := by simp [State.tallied]
theorem tallied_pins : (s.tallied dir).pins = s.pins := by simp [State.tallied]

theorem tallied_std : (s.tallied dir).std = { s.std with
    scanCounter := min 255 (s.std.scanCounter + 1)
    stdDue := s.std.stdDue || intervalReached s.recipe.measure.stdInterval (min 255 (s.std.scanCounter + 1)) } := by
  have hrec : (s.completeRecord dir).recipe = s.recipe := recipe_congr (by simp)
  simp [State.tallied, State.completeStd, hrec]

theorem completeRecovery_of_ne {s : State} (h : s.brk.state ≠ .recovering) : s.completeRecovery = s := if_neg h

theorem completeRecovery_of_lt {s : State} (h : s.brk.state = .recovering)
    (hn : min 8 (s.brk.recoveryCount + 1) < s.recipe.brk.recoveryScans) :
    s.completeRecovery = s.setBrk { s.brk with recoveryCount := min 8 (s.brk.recoveryCount + 1) } := by
  simp only [State.completeRecovery, if_pos h]
  exact if_neg (Nat.not_le.mpr hn)

theorem completeRecovery_of_le {s : State} (h : s.brk.state = .recovering)
    (hn : s.recipe.brk.recoveryScans ≤ min 8 (s.brk.recoveryCount + 1)) :
    s.completeRecovery =
      (s.setBrk { s.brk with recoveryCount := min 8 (s.brk.recoveryCount + 1), state := .running }).offer
        (.breakState .running s.brk.causes s.brk.count) := by
  simp only [State.completeRecovery, if_pos h]
  exact if_pos hn

/-- The state in which step 2 finds the break state machine. -/
def State.counted (s : State) (dir : ScanDir) : State := (s.completeRecord dir).completeStd

theorem counted_brk : (s.counted dir).brk = s.brk := by simp [State.counted]
theorem counted_recipe : (s.counted dir).recipe = s.recipe := recipe_congr (by simp [State.counted])

theorem tallied_brk_eq : (s.tallied dir).brk = (s.counted dir).completeRecovery.brk := by
  simp [State.tallied, State.counted]

/-- R135 at a completion. -/
theorem tallied_brk : (s.brk.state ≠ .recovering → (s.tallied dir).brk = s.brk)
    ∧ (s.brk.state = .recovering → min 8 (s.brk.recoveryCount + 1) < s.recipe.brk.recoveryScans →
      (s.tallied dir).brk = { s.brk with recoveryCount := min 8 (s.brk.recoveryCount + 1) })
    ∧ (s.brk.state = .recovering → s.recipe.brk.recoveryScans ≤ min 8 (s.brk.recoveryCount + 1) →
      (s.tallied dir).brk = { s.brk with recoveryCount := min 8 (s.brk.recoveryCount + 1), state := .running }) := by
  have hb := counted_brk s dir
  have hr := counted_recipe s dir
  rw [tallied_brk_eq]
  refine ⟨fun h => ?_, fun h hn => ?_, fun h hn => ?_⟩
  · rw [completeRecovery_of_ne (by rwa [hb]), hb]
  · rw [completeRecovery_of_lt (by rwa [hb]) (by rwa [hb, hr]), State.setBrk_brk, hb]
  · rw [completeRecovery_of_le (by rwa [hb]) (by rwa [hb, hr]), offer_brk, State.setBrk_brk, hb]

theorem completeLimits_offers : Offers (fun n => n.kind = .limit ∨ n.kind = .holeReport) s s.completeLimits := by
  simp only [State.completeLimits]; split
  · exact .of_ports rfl
  · simp only [State.evaluateLimits]; split
    · exact .of_ports rfl
    · split
      · exact .of_ports rfl
      · exact Offers.trans (.of_ports rfl) (.offer (.inl rfl))

theorem completeHoles_offers : Offers (fun n => n.kind = .limit ∨ n.kind = .holeReport) s s.completeHoles := by
  simp only [State.completeHoles]; split
  · exact Offers.trans (t := s.holeTransfer (.scan s.ring.newest)) (.of_ports rfl) (.offer (.inr rfl))
  · exact .of_ports rfl

theorem completeRecovery_offers : Offers (fun n => n.kind = .breakState) s s.completeRecovery := by
  by_cases h : s.brk.state = .recovering
  · by_cases hn : s.recipe.brk.recoveryScans ≤ min 8 (s.brk.recoveryCount + 1)
    · rw [completeRecovery_of_le h hn]
      exact Offers.trans (t := s.setBrk _) (.of_ports rfl) (.offer rfl)
    · rw [completeRecovery_of_lt h (by omega)]
      exact .of_ports rfl
  · rw [completeRecovery_of_ne h]
    exact .of_ports rfl

theorem counted_ports : (s.counted dir).ports = (s.completeRecord dir).ports := by simp [State.counted]

/-- Step 2 offers its own notices, and no other change reaches a port. -/
theorem tallied_offers : Offers TallyNews (s.completeRecord dir) (s.tallied dir) := by
  have hrec := (completeRecovery_offers (s.counted dir)).mono (Q := TallyNews) fun _ h => .inl h
  have hlim := (completeLimits_offers (s.counted dir).completeRecovery).mono (Q := TallyNews) fun _ h => .inr h
  have hhole := (completeHoles_offers (s.counted dir).completeRecovery.completeLimits).mono (Q := TallyNews) fun _ h => .inr h
  exact (Offers.of_ports (counted_ports s dir)).trans (hrec.trans (hlim.trans hhole))

/-- The return to RUNNING is told (R135). -/
theorem tallied_told (h : s.brk.state = .recovering) (hn : s.recipe.brk.recoveryScans ≤ min 8 (s.brk.recoveryCount + 1)) :
    ∃ v : State, Offers (fun n => n.kind = .limit ∨ n.kind = .holeReport)
      (v.offer (.breakState .running s.brk.causes s.brk.count)) (s.tallied dir) := by
  have hb := counted_brk s dir
  have e := completeRecovery_of_le (s := s.counted dir) (by rwa [hb]) (by rwa [hb, counted_recipe])
  rw [hb] at e
  refine ⟨(s.counted dir).setBrk { s.brk with recoveryCount := min 8 (s.brk.recoveryCount + 1), state := .running }, ?_⟩
  rw [← e]
  exact (completeLimits_offers _).trans (completeHoles_offers _)

theorem completeHoles_hole : (s.recipe.holes.mode = .auto → s.completeHoles.hole = { s.hole with
      counter := 0, overflow := false, mdMark := s.mdMetres
      last := ⟨.scan s.ring.newest, s.hole.counter, s.hole.overflow, s.mdMetres - s.hole.mdMark, s.mdMetres⟩ })
    ∧ (s.recipe.holes.mode = .manual → s.completeHoles.hole = s.hole) := by
  refine ⟨fun h => ?_, fun h => ?_⟩
  · simp only [State.completeHoles, h]
    rfl
  · simp only [State.completeHoles, h]

end

/-! ## Steps 3 and 4: the activation and the decision -/

section

variable {s : State} {dir : ScanDir}

/-- The state that a completion leaves: the tallies, perhaps an activation, perhaps a decision. -/
theorem completeScan_cases (s : State) (dir : ScanDir) : s.completeScan dir = (s.tallied dir).activatePending
    ∨ ∃ a, s.completeScan dir = (s.tallied dir).activatePending.decideCompletion dir a := by
  by_cases h : ∃ l, (s.tallied dir).activatePending.head.state = .scanning l
  · obtain ⟨l, hl⟩ := h
    exact .inr ⟨_, completeScan_of_scanning hl⟩
  · exact .inl (completeScan_of_not_scanning (fun l hl => h ⟨l, hl⟩))

theorem completeScan_untouched : Untouched (s.tallied dir) (s.completeScan dir) := by
  have hact := activatePending_untouched (s.tallied dir)
  obtain e | ⟨a, e⟩ := completeScan_cases s dir <;> rw [e]
  · exact hact
  · exact hact.trans (decideCompletion_untouched _ dir a)

theorem decideCompletion_after (s : State) (dir : ScanDir) (a : Bool) : After s (s.decideCompletion dir a) := by
  have hscan : ∀ g d, After s ((s.grantTo g).startScan d false) := fun g d =>
    After.trans (t := s.grantTo g) (.of_eq rfl rfl) (startScan_after _ _ _)
  simp only [State.decideCompletion]; split
  · simp only [State.stdAtCompletion]; split
    · exact beginReturning_after s _
    · split
      · exact beginReturning_after s _
      · exact hscan _ _
  · exact beginPositioning_after s _ _
  · simp only [State.scanAtCompletion]; split
    · exact beginApproach_after s _
    · exact hscan _ _
  all_goals exact beginReturning_after s _

theorem completeScan_kindKept {k : NoticeKind} (hk : Single k) : KindKept k (s.tallied dir) (s.completeScan dir) := by
  have hact := activatePending_kindKept hk (s.tallied dir)
  obtain e | ⟨a, e⟩ := completeScan_cases s dir <;> rw [e]
  · exact hact
  · exact hact.trans ((decideCompletion_after _ dir a).kindKept hk.1)

theorem completeScan_trend : (s.completeScan dir).trend = (s.tallied dir).trend := by
  obtain e | ⟨a, e⟩ := completeScan_cases s dir <;> rw [e] <;> simp

end

end Sys2Proof.Machine
end

section
/-! SUPPORT. The hole report of a completion and of TAKE COUNT (R147 to R150), and the obligation about them. -/

namespace Sys2Proof.Machine

open Sys2Proof Sys2Proof.Safety

section

variable {s : State} {dir : ScanDir} {i : Nat}

/-- The hole detector after steps 1 and 2 of a completion. -/
theorem tallied_hole (h : s.ring.filling = some i) :
    (s.recipe.holes.mode = .auto → (s.tallied dir).hole = { s.hole.endStretch with
      counter := 0, overflow := false, mdMark := s.mdMetres
      last := ⟨.scan (s.ring.newest + 1), s.hole.counter, s.hole.overflow, s.mdMetres - s.hole.mdMark, s.mdMetres⟩ })
    ∧ (s.recipe.holes.mode = .manual → (s.tallied dir).hole = s.hole.endStretch) := by
  have hc := completeRecord_closed (dir := dir) h
  generalize hv : (s.counted dir).completeRecovery.completeLimits = v
  have htall : s.tallied dir = v.completeHoles := by rw [← hv]; rfl
  have hhole : v.hole = s.hole.endStretch := by
    rw [← hc.hole, ← hv]; simp [State.counted]
  have hrecipe : v.recipe = s.recipe := recipe_congr (by rw [← hc.store, ← hv]; simp [State.counted])
  have hnew : v.ring.newest = s.ring.newest + 1 := by
    have hring : v.ring = (s.completeRecord dir).ring := by rw [← hv]; simp [State.counted]
    rw [hring, hc.ring.records.1]
    rfl
  have hspeed : v.speed = s.speed := by rw [← hc.speed, ← hv]; simp [State.counted]
  have hmetres : v.mdMetres = s.mdMetres := by rw [State.mdMetres, hspeed]; rfl
  obtain ⟨hauto, hmanual⟩ := completeHoles_hole v
  rw [htall]
  rw [hrecipe, hnew, hmetres, hhole] at hauto
  rw [hrecipe, hhole] at hmanual
  exact ⟨hauto, hmanual⟩

/-- The stretch is over once a scan has been completed (R143). -/
theorem tallied_hole_over (h : s.ring.filling = some i) : (s.tallied dir).hole.endStretch = (s.tallied dir).hole := by
  obtain ⟨hauto, hmanual⟩ := tallied_hole (dir := dir) h
  cases hm : s.recipe.holes.mode with
  | auto => rw [hauto hm]; rfl
  | manual => rw [hmanual hm]; rfl

theorem exec_takeCount {st : Station} (tag : Byte) (hr : Ready s st) :
    exec (.takeCount st tag []) s = .next ((heard s st).serveTakeCount st tag).settle :=
  State.request_ready .takeCount s st tag _ hr (by simp) rfl

theorem holeMode_manual (h : ∀ r, s.activeRecipe = some r → r.holes.mode = .manual) : s.holeMode = .manual := by
  cases ha : s.activeRecipe with
  | none => simp [State.holeMode, ha]
  | some r => simp [State.holeMode, ha, h r ha]

theorem holeMode_auto {r : Recipe} (ha : s.activeRecipe = some r) (h : r.holes.mode = .auto) : s.holeMode = .auto := by
  simp [State.holeMode, ha, h]

end

end Sys2Proof.Machine

namespace Sys2Proof.Safety

open Sys2Proof Sys2Proof.Machine

/-- Settles O40: TAKE COUNT by the reporting mode, and the report of a completion, which nothing after it changes. -/
theorem holeReportsTransfer : Obligations.HoleReportsTransfer := by
  refine ⟨fun s st tag hr => ⟨fun hmode => ?manual, fun r ha hmode => ?auto⟩, fun dir s x i h => ?completion⟩
  case manual =>
    have hm : (heard s st).holeMode = .manual := holeMode_manual (s := heard s st) hmode
    have hcomm : ∀ (h : Hole) (b : ReplyBody), ((heard s st).setHole h).reply st .takeCount tag b
        = ((heard s st).reply st .takeCount tag b).setHole h := fun _ _ => rfl
    rw [exec_takeCount tag hr, State.serveTakeCount, hm]
    simp only [State.takeCountReply, State.holeTransfer]
    rw [hcomm, heard_reply]
    rfl
  case auto =>
    have hm : (heard s st).holeMode = .auto := holeMode_auto (s := heard s st) ha hmode
    rw [exec_takeCount tag hr, State.serveTakeCount, hm]
    simp only [State.takeCountReply, heard_reply]
    rfl
  case completion =>
    have hfill : s.ring.filling = some i := h.2.2.1
    generalize hm : s.setHead (counted s.head dir) = m
    have hfillm : m.ring.filling = some i := by rw [← hm]; exact hfill
    have hexec := exec_completes h
    rw [hm] at hexec
    have hkept := (completeScan_untouched (s := m) (dir := x.dir)).hole (tallied_hole_over hfillm)
    obtain ⟨hauto, hmanual⟩ := tallied_hole (dir := x.dir) hfillm
    have hover := tallied_hole_over (dir := x.dir) hfillm
    refine ⟨_, hexec, ?_, ?_, fun hmode => ?_, fun hmode => ?_⟩
    · rw [settle_hole, hkept, ← hover]; rfl
    · rw [settle_hole, hkept, ← hover]; rfl
    · rw [settle_hole, hkept, hauto (by rw [← hm]; exact hmode), ← hm]
      exact ⟨rfl, rfl, rfl, rfl⟩
    · rw [settle_hole, hkept, hmanual (by rw [← hm]; exact hmode), ← hm]
      exact ⟨rfl, rfl, rfl, rfl⟩

end Sys2Proof.Safety
end

section
/-! SUPPORT. The decision of a completion without an activation, the lock's update (R52 to R54), and the obligation about it. -/

namespace Sys2Proof.Machine

open Sys2Proof Sys2Proof.Safety

section

variable {s : State} {dir : ScanDir}

theorem arriveParked_decision (h : s.head.scan = none) : Decision s s.arriveParked := by
  have hoff : Decision s (s.driveOff.toHead .parked) := .of_eq (by simp) (by simp) (by simp)
  exact (hoff.trans (headNotice_decision _)).trans (decideParked_decision (by simp [State.driveOff, h]))

theorem beginReturning_decision (g : Grant) (h : s.head.scan = none) : Decision s (s.beginReturning g) := by
  rw [beginReturning_eq]; split
  · exact faultStill_decision _ h
  · split
    · exact (returning_decision s g).trans (arriveParked_decision (by rw [returning_head]; simp [h]))
    · exact returning_decision s g

theorem decideCompletion_decision (dir : ScanDir) (a : Bool) (h : s.head.scan = none) : Decision s (s.decideCompletion dir a) := by
  have hscan : ∀ g d, Decision s ((s.grantTo g).startScan d false) := fun g d =>
    Decision.trans (t := s.grantTo g) (.of_eq rfl rfl rfl) (startScan_decision _ _ _)
  simp only [State.decideCompletion]; split
  · simp only [State.stdAtCompletion]; split
    · exact beginReturning_decision _ h
    · split
      · exact beginReturning_decision _ h
      · exact hscan _ _
  · exact beginPositioning_decision _ _ h
  · simp only [State.scanAtCompletion]; split
    · exact beginApproach_decision _ h
    · exact hscan _ _
  all_goals exact beginReturning_decision _ h

/-- Without a pending slot the decision alone follows the tallies. -/
theorem completeScan_decision (hpend : s.store.pendingSlot = none) : Decision (s.tallied dir) (s.completeScan dir) := by
  have hnone : (s.tallied dir).store.pendingSlot = none := by rw [tallied_store, hpend]
  obtain e | ⟨a, e⟩ := completeScan_cases s dir <;> rw [e, activatePending_of_none hnone]
  · exact .of_eq rfl rfl rfl
  · exact decideCompletion_decision _ _ (by simp)

end

/-! ## The edge lock (R52 to R54) -/

theorem resolve_eq (r : EdgeRun) (dir : ScanDir) : r.resolve dir = foundEdges r dir := by
  cases hl : r.leading <;> cases ht : r.trailing <;> cases dir <;> simp [EdgeRun.resolve, foundEdges, hl, ht]

theorem distance_le_iff (a b n : Nat) : distance a b ≤ n ↔ |(a : Int) - b| ≤ n := by
  rw [← Nat.not_lt, lt_distance_iff, not_lt]

/-- The window test over plain integers. -/
theorem inWindow_iff (e : EdgeTracker) (found : Option Edges) (window : Nat) :
    inWindow e.expected found window = true ↔ ScanInWindow e found window := by
  unfold ScanInWindow
  change _ ↔ ∃ x y, e.expected = some x ∧ _
  cases hx : e.expected with
  | none => simp [inWindow]
  | some x =>
    cases found with
    | none => simp [inWindow]
    | some y => simp [inWindow, distance_le_iff]

section

variable {e : EdgeTracker} {cfg : EdgeCfg} {found : Option Edges}

theorem judge_previous : (e.judge cfg found).previous = found := rfl

theorem judge_run : (e.judge cfg found).run = e.run := by
  simp only [EdgeTracker.judge]
  repeat' split
  all_goals rfl

theorem judge_open_hit (hl : e.locked = false) (h : ScanInWindow e found cfg.window) : e.judge cfg found =
    { (if cfg.lockCount ≤ e.inCount + 1 then { e with locked := true, lockedEdges := found, inCount := 0, outCount := 0 }
      else { e with inCount := e.inCount + 1 }) with previous := found } := by
  simp [EdgeTracker.judge, hl, (inWindow_iff e found cfg.window).mpr h]

theorem judge_open_miss (hl : e.locked = false) (h : ¬ScanInWindow e found cfg.window) :
    e.judge cfg found = { e with inCount := 0, previous := found } := by
  simp [EdgeTracker.judge, hl, mt (inWindow_iff e found cfg.window).mp h]

theorem judge_locked_hit (hl : e.locked = true) (h : ScanInWindow e found cfg.window) :
    e.judge cfg found = { e with outCount := 0, lockedEdges := found, previous := found } := by
  simp [EdgeTracker.judge, hl, (inWindow_iff e found cfg.window).mpr h]

theorem judge_locked_miss (hl : e.locked = true) (h : ¬ScanInWindow e found cfg.window) : e.judge cfg found =
    { (if cfg.unlockCount ≤ e.outCount + 1 then { e with locked := false, lockedEdges := none, inCount := 0, outCount := 0 }
      else { e with outCount := e.outCount + 1 }) with previous := found } := by
  simp [EdgeTracker.judge, hl, mt (inWindow_iff e found cfg.window).mp h]

/-- A restarted tracker expects nothing, so no scan is in window for it. -/
theorem judge_restart : e.restart.judge cfg found = { e.restart with previous := found } :=
  judge_open_miss rfl (fun ⟨_, _, hx, _⟩ => absurd hx (by simp [EdgeTracker.restart]))

end

/-- The tracker with its run state cleared, as a completion leaves it (R49). -/
def EdgeTracker.ran (e : EdgeTracker) : EdgeTracker := { e with run := .clear }

theorem updateEdges_edges (s : State) (e : EdgeTracker) : (s.updateEdges e).edges = e := by
  simp only [State.updateEdges]; split <;> rfl

theorem completeEdges_tracker (s : State) (found : Option Edges) : (s.completeEdges found).edges
    = (if s.profile.deferred then s.edges.ran.restart else s.edges.ran).judge s.recipe.edges found := by
  have hset : ∀ e, (s.setEdges e).recipe = s.recipe := fun e => recipe_congr rfl
  simp only [State.completeEdges, updateEdges_edges]
  cases hd : s.profile.deferred with
  | true =>
    have hdef : (s.setEdges { s.edges with run := .clear }).profile.deferred = true := hd
    have hrec : ((s.setEdges { s.edges with run := .clear }).updateEdges
        (s.setEdges { s.edges with run := .clear }).edges.restart).recipe = s.recipe :=
      recipe_congr (by simp only [State.updateEdges]; split <;> rfl)
    simp only [hdef, if_true, hrec, updateEdges_edges]
    rfl
  | false =>
    have hdef : (s.setEdges { s.edges with run := .clear }).profile.deferred = false := hd
    simp only [hdef, Bool.false_eq_true, if_false, hset]
    rfl

end Sys2Proof.Machine

namespace Sys2Proof.Safety

open Sys2Proof Sys2Proof.Machine

/-- Settles O21: the tracker that the completion leaves, which its decision keeps. -/
theorem edgeLockFollowsWindow : Obligations.EdgeLockFollowsWindow := by
  intro dir s x i h hpend found cfg hit
  have hfill : s.ring.filling = some i := h.2.2.1
  generalize hm : s.setHead (counted s.head dir) = m
  have hedges : m.edges = s.edges := by rw [← hm]; rfl
  have hprof : m.profile = s.profile := by rw [← hm]; rfl
  have hcfg : m.recipe.edges = cfg := by rw [← hm]; rfl
  have hexec := exec_completes h
  rw [hm] at hexec
  have hdec : Decision (m.tallied x.dir) (m.completeScan x.dir) := completeScan_decision (by rw [← hm]; exact hpend)
  have htall : (m.tallied x.dir).edges = (if s.profile.deferred then s.edges.ran.restart
      else s.edges.ran).judge cfg found := by
    rw [tallied_edges, (completeRecord_closed (by rw [← hm]; exact hfill)).edges, completeEdges_tracker, hedges, hprof, hcfg,
      resolve_eq]
  have hrun : (m.tallied x.dir).edges.run = ⟨0, 0, none, none⟩ := by
    rw [htall, judge_run]; split <;> rfl
  have hu : (m.completeScan x.dir).settle.edges = (m.tallied x.dir).edges := by
    rw [settle_edges]
    obtain e | e := hdec.edges
    · exact e
    · rw [e]; exact congrArg (fun r => { (m.tallied x.dir).edges with run := r }) hrun.symm
  refine ⟨_, hexec, ?_, ?_, fun hd => ?_, fun hd => ?_⟩
  · rw [hu, htall]; exact judge_previous
  · rw [hu, hrun]
  · rw [hu, htall, if_pos hd, judge_restart]
    exact ⟨rfl, rfl, rfl, rfl⟩
  · have hnow : (m.completeScan x.dir).settle.edges = s.edges.ran.judge cfg found := by
      rw [hu, htall, if_neg (by simp [hd])]
    have hhit : ScanInWindow s.edges.ran found cfg.window ↔ hit := Iff.rfl
    rw [hnow]
    refine ⟨fun hl hw hc => ?_, fun hl hw hc => ?_, fun hl hw => ?_, fun hl hw => ?_, fun hl hw hc => ?_, fun hl hw hc => ?_⟩
    · rw [judge_open_hit (e := s.edges.ran) hl (hhit.mpr hw), if_pos (by exact hc)]; exact ⟨rfl, rfl, rfl, rfl⟩
    · rw [judge_open_hit (e := s.edges.ran) hl (hhit.mpr hw), if_neg (by exact Nat.not_le.mpr hc)]; exact ⟨hl, rfl⟩
    · rw [judge_open_miss (e := s.edges.ran) hl (mt hhit.mp hw)]; exact ⟨hl, rfl⟩
    · rw [judge_locked_hit (e := s.edges.ran) hl (hhit.mpr hw)]; exact ⟨hl, rfl, rfl⟩
    · rw [judge_locked_miss (e := s.edges.ran) hl (mt hhit.mp hw), if_neg (by exact Nat.not_le.mpr hc)]; exact ⟨hl, rfl, rfl⟩
    · rw [judge_locked_miss (e := s.edges.ran) hl (mt hhit.mp hw), if_pos (by exact hc)]; exact ⟨rfl, rfl, rfl, rfl⟩

end Sys2Proof.Safety
end

section
/-! SUPPORT. The completed record stays in the ring: what follows a completion picks another one (R89, R92). -/

namespace Sys2Proof.Machine

open Sys2Proof Sys2Proof.Safety

/-! ## The pick beside a completed record -/

/-- A record that is COMPLETE under the newest number is not the one picked next, if there is another to pick (R89). -/
theorem pick_ne_newest {g : Ring} {i j : Nat} {r x : ScanRecord} (hi : g.records[i]? = some r) (hs : r.status = .complete)
    (hn : r.number = some g.newest) (hj : g.records[j]? = some x) (hx : x.status = .free ∨ x.status = .void
      ∨ x.status = .complete ∧ x.holds = ⟨false, false, false, false⟩ ∧ 0 < aheadBy g.newest (x.number.getD 0)) :
    g.pick ≠ i := by
  cases ho : g.records.findIdx? ScanRecord.open_ with
  | some k =>
    rw [Ring.pick_of_open ho]
    rintro rfl
    obtain ⟨hlt, hopen, -⟩ := List.findIdx?_eq_some_iff_getElem.mp ho
    obtain rfl : g.records[k] = r := by simpa [List.getElem?_eq_getElem hlt] using hi
    simp [ScanRecord.open_, hs] at hopen
  | none =>
    have hclosed : x.open_ = false := List.findIdx?_eq_none_iff.mp ho x (List.mem_of_getElem? hj)
    obtain ⟨hlt, -⟩ := List.getElem?_eq_some_iff.mp hj
    obtain hx | hx | ⟨hstat, hholds, hahead⟩ := hx
    · simp [ScanRecord.open_, hx] at hclosed
    · simp [ScanRecord.open_, hx] at hclosed
    · have hreuse : (g.at j).reusable = true := by
        rw [Ring.at_of_getElem? hj]; simp [ScanRecord.reusable, hstat, hholds, Four.any]
      obtain ⟨-, -, hmax⟩ := Ring.pick_oldest ho hlt hreuse
      have hle := hmax j hlt hreuse
      intro hp
      have hself : g.behind (g.at g.pick) = 0 := by
        rw [hp, Ring.at_of_getElem? hi, Ring.behind, hn]
        simp [aheadBy]
      rw [hself, Ring.at_of_getElem? hj] at hle
      exact absurd hahead (not_lt.mpr hle)

/-! ## The ring after a completion -/

/-- A ring as it was, or with the record that it picks written anew. -/
def PickedOnly (g g' : Ring) : Prop := g' = g ∨ ∃ r, g' = g.modify g.pick (fun _ => r)

theorem PickedOnly.get {g g' : Ring} {i : Nat} (h : PickedOnly g g') (hi : g.pick ≠ i) : g'.records[i]? = g.records[i]? := by
  obtain rfl | ⟨r, rfl⟩ := h
  · rfl
  · change (g.records.modify g.pick _)[i]? = _
    simp [hi]

section

variable {s : State} {dir : ScanDir}

theorem startScan_picked (d : ScanDir) (a : Bool) : PickedOnly s.ring (s.startScan d a).ring :=
  .inr ⟨s.adopt.freshRecord d, startScan_ring s d a⟩

theorem beginReturning_ring_away (g : Grant) (hd : s.driveMissing = false) (hp : s.head.position ≠ 0) :
    (s.beginReturning g).ring = s.ring := by
  rw [beginReturning_of_away g hd hp]
  simp [State.returning]

theorem beginPositioning_ring_moving (st : Station) (p : Nat) (hd : s.driveMissing = false) :
    (s.beginPositioning st p).ring = s.ring := by
  rw [beginPositioning_eq, if_neg (by simp [hd])]; split
  · rw [arrivePoint_ring, positioning_ring]
  · exact positioning_ring st p

theorem beginApproach_picked (g : Grant) (hd : s.driveMissing = false) : PickedOnly s.ring (s.beginApproach g).ring := by
  rw [beginApproach_eq, if_neg (by simp [hd])]
  have hring : (s.approaching g).ring = s.ring := approaching_ring g
  split
  · rw [← hring]; exact startScan_picked .fwd true
  · exact .inl hring

theorem decideCompletion_picked (a : Bool) (hd : s.driveMissing = false) (hp : s.head.position ≠ 0) :
    PickedOnly s.ring (s.decideCompletion dir a).ring := by
  have hscan : ∀ g d, PickedOnly s.ring ((s.grantTo g).startScan d false).ring := fun g d =>
    startScan_picked (s := s.grantTo g) d false
  have hback : ∀ g, PickedOnly s.ring (s.beginReturning g).ring := fun g => .inl (beginReturning_ring_away g hd hp)
  simp only [State.decideCompletion]; split
  · simp only [State.stdAtCompletion]; split
    · exact hback _
    · split
      · exact hback _
      · exact hscan _ _
  · exact .inl (beginPositioning_ring_moving _ _ hd)
  · simp only [State.scanAtCompletion]; split
    · exact beginApproach_picked _ hd
    · exact hscan _ _
  all_goals exact hback _

/-! ## The activation of a completion -/

/-- What an activation at a completion leaves of a head on its leg, away from home: the ring, and the head unless a break
sends it home. -/
structure LegKept (s t : State) : Prop where
  ring : t.ring = s.ring
  head : t.head = s.head ∨ Away t

theorem LegKept.of_eq {s t : State} (hr : t.ring = s.ring) (hh : t.head = s.head) : LegKept s t := ⟨hr, .inl hh⟩

theorem ne_parked_of_leg (hl : measuringLeg s.head.state = true) : s.head.state ≠ .parked := by
  obtain h | h := measuringLeg_iff.mp hl <;> simp [h]

theorem recoveringEntry_legKept (hl : measuringLeg s.head.state = true) : LegKept s s.recoveringEntry := by
  rw [recoveringEntry_of_ne (ne_parked_of_leg hl), recoverRest_eq]
  exact .of_eq rfl rfl

theorem judgeThreading_legKept (hl : measuringLeg s.head.state = true) : LegKept s s.judgeThreading := by
  have hexpiry : ∀ v : State, measuringLeg v.head.state = true → LegKept v v.threadingExpiry := fun v hv => by
    simp only [State.threadingExpiry]; split
    · obtain ⟨hr, hh⟩ := recoveringEntry_legKept (s := v.setBrk { v.brk with threadingTimer := .stopped }) hv
      exact ⟨hr, hh⟩
    · exact .of_eq rfl rfl
  simp only [State.judgeThreading]; split
  · simp only [threadingEntry_eq]; split
    · obtain ⟨hr, hh⟩ := hexpiry (s.setBrk (s.brk.threading s.recipe.brk.threadingHold)).breakNotice (by simpa using hl)
      exact ⟨by rw [hr]; simp, by simpa using hh⟩
    · exact .of_eq (by simp) (by simp)
  · exact .of_eq rfl rfl

theorem breakEntryWith_id_legKept (absent : Bool) (hl : measuringLeg s.head.state = true) (hs : s.head.scan = none)
    (hp : s.head.position ≠ 0) : LegKept s (s.breakEntryWith id absent) := by
  generalize hv : s.setBrk (s.brk.broken absent) = v
  have hvh : v.head = s.head := by rw [← hv]; rfl
  have hgrant : v.highGrant = .hold := by rw [← hv]; simp [State.highGrant, State.holdPresent, Supervisor.broken]
  obtain ⟨leg, hleg⟩ : ∃ leg, v.head.state = .scanning leg := by
    rw [hvh]; obtain h | h := measuringLeg_iff.mp hl <;> exact ⟨_, h⟩
  have hc := claimTakesEffectWith_unscanned (s := v) id (by rw [hvh, hs]) (by rw [hgrant]; simp)
  have haway : Away (v.claimTakesEffectWith id) := .inl ((hc.moving (.inl ⟨leg, hleg⟩)).2.1 (by rw [hvh]; exact hp)).1
  have htail := breakTail_away haway
  rw [breakEntryWith_tail, hv]
  refine ⟨htail.ring.trans (hc.ring.trans (by rw [← hv]; rfl)), .inr (htail.away haway)⟩

theorem judgeActivation_legKept (trips clears : PerDetector Bool) (hl : measuringLeg s.head.state = true)
    (hs : s.head.scan = none) (hp : s.head.position ≠ 0) :
    LegKept s (s.judgeActivationWith (State.breakEntryWith id false) trips clears) := by
  obtain ⟨-, -, e⟩ | ⟨-, -, e⟩ | ⟨-, e⟩ := judgeActivationWith_cases (State.breakEntryWith id false) trips clears s <;> rw [e]
  · exact recoveringEntry_legKept hl
  · exact breakEntryWith_id_legKept false hl hs hp
  · obtain e | ⟨-, -, e⟩ | ⟨-, -, e⟩ | ⟨-, e⟩ := judgeDetectorsWith_cases (State.breakEntryWith id false) trips clears s <;> rw [e]
    · exact .of_eq rfl rfl
    · exact breakEntryWith_id_legKept false hl hs hp
    · exact .of_eq rfl rfl
    · exact judgeThreading_legKept hl

theorem activate_legKept (k : SlotNo) (hl : measuringLeg s.head.state = true) (hs : s.head.scan = none)
    (hp : s.head.position ≠ 0) : LegKept s (s.activate k) := by
  have hh := handed_head s k
  have hj := judgeActivation_legKept (s := s.handed k) (newTrips s.brk.det (s.handed k).brk.det)
    (newClears s.brk.det (s.handed k).brk.det) (by rw [hh]; exact hl) (by rw [hh]; exact hs) (by rw [hh]; exact hp)
  have hring : (s.handed k).ring = s.ring := (by simp [State.handed, State.activated])
  rw [State.activate, activateWith_handed]
  generalize hv : (s.handed k).judgeActivationWith (State.breakEntryWith id false) (newTrips s.brk.det (s.handed k).brk.det)
    (newClears s.brk.det (s.handed k).brk.det) = v at hj
  have hkeep : v.head = s.head ∨ Away v := by rw [← hh]; exact hj.head
  have hnot : v.head.state ≠ .parked ∧ v.head.state ≠ .scanning .approach := by
    obtain e | ha := hkeep
    · rw [e]; obtain h | h := measuringLeg_iff.mp hl <;> simp [h]
    · obtain h | h := ha <;> simp [h]
  rw [redecideIfParked_of_ne (by simpa using hnot.1), reaim_of_ne (by simpa using hnot.2)]
  exact ⟨by rw [recipeNotice_ring, hj.ring, hring], by simpa [Away] using hkeep⟩

theorem activatePending_legKept (hl : measuringLeg s.head.state = true) (hs : s.head.scan = none)
    (hp : s.head.position ≠ 0) : LegKept s s.activatePending := by
  cases h : s.store.pendingSlot with
  | none => rw [activatePending_of_none h]; exact .of_eq rfl rfl
  | some k => rw [activatePending_of_some h]; exact activate_legKept k hl hs hp

/-- A completion away from home writes no record after it has closed its own, but the one it picks. -/
theorem completeScan_picked (hl : measuringLeg s.head.state = true) (hp : s.head.position ≠ 0) :
    PickedOnly (s.tallied dir).ring (s.completeScan dir).ring := by
  have hhead := tallied_head s dir
  have hact := activatePending_legKept (s := s.tallied dir) (by rw [hhead]; exact hl) (by rw [hhead]) (by rw [hhead]; exact hp)
  by_cases hscan : ∃ l, (s.tallied dir).activatePending.head.state = .scanning l
  · obtain ⟨l, h⟩ := hscan
    have hkept : (s.tallied dir).activatePending.head = (s.tallied dir).head := by
      obtain e | ha := hact.head
      · exact e
      · obtain ha | ha := ha <;> simp [ha] at h
    rw [completeScan_of_scanning h, ← hact.ring]
    exact decideCompletion_picked _ (driveMissing_of_moving (by rw [h]; rfl)) (by rw [hkept, hhead]; exact hp)
  · rw [completeScan_of_not_scanning (fun l hl => hscan ⟨l, hl⟩)]
    exact .inl hact.ring

/-- The record of a completed scan is there after the completion (R92). -/
theorem completeScan_record {i : Nat} (hf : s.ring.filling = some i) (hl : measuringLeg s.head.state = true)
    (hp : s.head.position ≠ 0) (hb : PickBeside s.ring i) :
    (s.completeScan dir).ring.records[i]? = (s.completeRecord dir).ring.records[i]?
      ∧ ∃ h : Four Bool, (s.completeRecord dir).ring.records[i]? = some { (s.completedAt dir i) with holds := h } := by
  obtain ⟨hlt, -⟩ := Ring.filling_some hf
  obtain ⟨hnew, hother, hown⟩ := (completeRecord_closed (dir := dir) hf).ring.records
  obtain ⟨h, -, hrec⟩ := hown _ (completedRing_at hlt)
  obtain ⟨j, x, hj, hx, hcase⟩ := hb
  have hpick := pick_ne_newest hrec rfl (by rw [hnew]; rfl) (j := j) (x := x)
    (by rw [hother j hj, completedRing_ne hj, hx]) (by rw [hnew]; exact hcase)
  refine ⟨?_, h, hrec⟩
  have hpicked := completeScan_picked (dir := dir) hl hp
  rw [tallied_ring] at hpicked
  exact hpicked.get hpick

end

end Sys2Proof.Machine
end

section
/-! SUPPORT. The profile work of a completion (R62 to R79), and the obligation about it. -/

namespace Sys2Proof.Machine

open Sys2Proof Sys2Proof.Safety

theorem getLast?_keepNewest {α : Type} (n : Nat) (l : List α) (e : α) : (keepNewest (n + 1) (l ++ [e])).getLast? = some e := by
  have hle : (l ++ [e]).length - (n + 1) ≤ l.length := by simp
  rw [keepNewest, List.drop_append_of_le_length hle, List.getLast?_concat]

theorem inSheet_eq (g : Geometry) (found : Option Edges) (i : Nat) : g.inSheet found i = inSheetBin g found i := by
  cases found with
  | none => rfl
  | some e => simp [Geometry.inSheet, inSheetBin]

theorem marks_eq (g : Geometry) (found : Option Edges) : g.marks found = (List.range g.n).map (fun i => inSheetBin g found i) :=
  List.map_congr_left fun i _ => inSheet_eq g found i

theorem binMean_eq (marked : Bool) (k : Nat) (sc : SumCount) : binMean marked k sc =
    if marked = true ∧ k ≤ sc.count then some ((2 * sc.sum + sc.count) / (2 * sc.count) : Int) else none := by
  by_cases h : marked = true ∧ k ≤ sc.count
  · simp [binMean, h, roundHalfUp]
  · rw [if_neg h]
    simp only [binMean, Bool.and_eq_true, decide_eq_true_eq, if_neg h]

theorem afterDeferred_eq (p : Profile) : p.afterDeferred = if p.deferred then restartedProfile p else p := rfl

/-- One measurement's work, as R62 to R79 state it. -/
theorem measWork_worked (s : State) (p : Profile) (x : ActiveScan) (m : Meas) (found : Option Edges) :
    let w := measWork s.recipe x.dir (s.recipe.geometry.marks found) p.continuity (p.prevAvg.get m) (p.filter.get m)
      (s.bins.map (fun b => b.get m))
    MeasurementWorked s p x found m w.record (w.withheld = true) w.filter := by
  intro w
  have hslope : slopeTerm p.continuity (p.prevAvg.get m) w.record.avg = (match p.prevAvg.get m, w.record.avg with
      | some y, some a => if p.continuity then some (max (-32767) (min 32767 (a - y))) else none
      | _, _ => none) := by
    cases p.prevAvg.get m <;> cases w.record.avg <;> cases p.continuity <;> rfl
  unfold MeasurementWorked
  refine ⟨?_, ?_, ?_, ?_, ?_, rfl, rfl, ?_, rfl⟩
  · change List.zipWith _ (s.recipe.geometry.marks found) _ = _
    rw [marks_eq]
    exact congrArg (fun f => List.zipWith f _ _) (funext fun mark => funext fun sc => binMean_eq mark _ sc)
  · change scanAverage w.record.means ((s.recipe.geometry.marks found).countP id) = _
    exact congrArg (fun l => scanAverage w.record.means (List.countP id l)) (marks_eq s.recipe.geometry found)
  · change (slopeTerm _ _ _).isNone = true ↔ _
    rw [Option.isNone_iff_eq_none]
    exact iff_of_eq (congrArg (· = none) hslope)
  · exact congrArg (fun t => some (t.getD 0)) hslope
  · have hdevs := congrArg (fun t : Option Int => w.record.means.mapIdx (fun i v =>
      deviation v w.record.avg (correction x.dir s.recipe.geometry.n (t.getD 0) i))) hslope
    exact hdevs.trans (congrArg (fun f => List.mapIdx f _) (funext fun i => funext fun v => by
      cases v <;> cases w.record.avg <;> rfl))
  · refine List.map_congr_left fun z _ => ?_
    simp only [zoneValue, sumInt_eq_sum]
    rfl

/-- The three measurements of a completion, by name. -/
theorem profileResults_get (s : State) (dir : ScanDir) (found : Option Edges) (m : Meas) : (s.profileResults dir found).get m
    = measWork s.recipe dir (s.recipe.geometry.marks found) s.profile.afterDeferred.continuity (s.profile.afterDeferred.prevAvg.get m)
      (s.profile.afterDeferred.filter.get m) (s.bins.map (fun b => b.get m)) := by
  cases m <;> rfl

/-- The profile unit after a completion without an activation, up to the marker that a new approach clears. -/
theorem completeScan_profile {m : State} {dir : ScanDir} {i : Nat} (hf : m.ring.filling = some i)
    (hpend : m.store.pendingSlot = none) : ∃ c, (m.completeScan dir).settle.profile
      = { (m.profile.completed (m.profileResults dir (foundEdges m.edges.run dir))) with continuity := c } := by
  have hprofile := (tallied_profile m dir).trans (completeRecord_closed (dir := dir) hf).profile
  rw [resolve_eq] at hprofile
  rw [settle_profile]
  obtain e | e := (completeScan_decision (dir := dir) hpend).profile <;> rw [e, hprofile] <;> exact ⟨_, rfl⟩

/-- What a completion without an activation forms for the three measurements. -/
theorem completeScan_worked {m : State} {i : Nat} (hf : m.ring.filling = some i) (hpend : m.store.pendingSlot = none)
    (x : ActiveScan) {res : PerMeas MeasResult} (hres : m.profileResults x.dir (foundEdges m.edges.run x.dir) = res) :
    ScanWorked m (m.completeScan x.dir).settle x (res.map (·.record)) (res.bw.withheld = true) (res.moist.withheld = true)
      (res.cal.withheld = true) := by
  obtain ⟨c, hu⟩ := completeScan_profile (dir := x.dir) hf hpend
  have hwork : ∀ k : Meas, MeasurementWorked m (if m.profile.deferred then restartedProfile m.profile else m.profile) x
      (foundEdges m.edges.run x.dir) k (res.get k).record ((res.get k).withheld = true) (res.get k).filter := fun k => by
    have hw := measWork_worked m m.profile.afterDeferred x k (foundEdges m.edges.run x.dir)
    rw [← profileResults_get, hres] at hw
    exact hw
  rw [ScanWorked, hu, hres]
  exact ⟨hwork .bw, hwork .moist, hwork .cal⟩

end Sys2Proof.Machine

namespace Sys2Proof.Safety

open Sys2Proof Sys2Proof.Machine

/-- Settles O27: the results that the completion writes, kept by its decision; the record stays where another can be picked. -/
theorem profileWorkAtCompletion : Obligations.ProfileWorkAtCompletion := by
  intro dir s x i h hpend found
  have hfill : s.ring.filling = some i := h.2.2.1
  have hleg : measuringLeg s.head.state = true := h.1
  generalize hm : s.setHead (counted s.head dir) = m
  have hfillm : m.ring.filling = some i := by rw [← hm]; exact hfill
  have hexec := exec_completes h
  rw [hm] at hexec
  have hclosed := completeRecord_closed (dir := x.dir) hfillm
  have hpendm : m.store.pendingSlot = none := by rw [← hm]; exact hpend
  have hfound : m.edges.run.resolve x.dir = found := by rw [resolve_eq, ← hm]; rfl
  generalize hres : m.profileResults x.dir found = res
  have hcompleted : (m.completedAt x.dir i).meas = res.map (·.record) ∧ (m.completedAt x.dir i).edges = found
      ∧ (m.completedAt x.dir i).quality.noSheet = found.isNone ∧ (m.completedAt x.dir i).quality.noSlope = res.any (·.withheld) := by
    simp only [State.completedAt, hfound, hres]
    exact ⟨rfl, rfl, rfl, rfl⟩
  obtain ⟨hmeas, hedges, hsheet, hslope⟩ := hcompleted
  have hresm : m.profileResults x.dir (foundEdges m.edges.run x.dir) = res := by rw [← resolve_eq, hfound, hres]
  obtain ⟨c, hu⟩ := completeScan_profile (dir := x.dir) hfillm hpendm
  rw [hresm] at hu
  have hworked := completeScan_worked hfillm hpendm x hresm
  refine ⟨_, (m.completedAt x.dir i).summary, res.map (·.record), res.bw.withheld = true, res.moist.withheld = true,
    res.cal.withheld = true, hexec, ?_, ?_, ?_, ?_, ?_, hsheet, ?_, fun hp hb => ?_⟩
  · rw [settle_trend, completeScan_trend, tallied_trend, hclosed.trend]
    exact getLast?_keepNewest 15 _ _
  · rw [← hm] at hworked ⊢; exact hworked
  · simp only [ScanRecord.summary, hmeas]; rfl
  · rw [hu]; simp only [ScanRecord.summary, hmeas]; rfl
  · rw [hu]; rfl
  · change (m.completedAt x.dir i).quality.noSlope = true ↔ _
    rw [hslope]
    simp [PerMeas.any, or_assoc]
  · have hpos : m.head.position ≠ 0 := by rw [← hm]; exact hp
    have hlegm : measuringLeg m.head.state = true := by rw [← hm]; cases dir <;> exact hleg
    obtain ⟨hkept, holds, hrec⟩ := completeScan_record (dir := x.dir) hfillm hlegm hpos (by rw [← hm]; exact hb)
    exact ⟨{ (m.completedAt x.dir i) with holds := holds }, by rw [settle_ring, hkept, hrec], hmeas, hedges⟩

end Sys2Proof.Safety
end

section
/-! SUPPORT. How a READ SCAN that waits ends (R98, R100, R101), and the obligation about it. -/

namespace Sys2Proof.Machine

open Sys2Proof Sys2Proof.Safety

section

variable {s : State} {st : Station} {r : PendingRead}

theorem endPending_of_some (h : (s.ports.get st).pending = some r) (b : ReplyBody) : s.endPending st b
    = s.onPort st (fun p => { p with pending := none, replies := p.replies ++ [⟨some .readScan, r.tag, b⟩] }) := by
  simp only [State.endPending, h, State.reply, State.onPort_onPort]
  rfl

theorem endPending_of_none (h : (s.ports.get st).pending = none) (b : ReplyBody) : s.endPending st b = s := by
  simp only [State.endPending, h]

/-- CANCEL is served while a read waits, if the queue has room for its reply (R183, R184). -/
theorem exec_cancel_waiting (tag : Byte) (h : (s.ports.get st).pending = some r) (hroom : (s.ports.get st).replies.length < 3) :
    exec (.cancel st tag []) s = .next ((heard s st).serveCancel st tag).settle := by
  have hr : (heardPort (s.ports.get st)).hasRoom = true := by
    simp [Port.hasRoom, heardPort, Port.count, h, Config.replyRoom]; omega
  change s.request .cancel st tag [] = _
  simp [State.request, State.telegramArrival_eq s st _ tag [] (by simp), hr, State.judgeKind, RequestKind.ofCode_code,
    State.judgeKnown, lengthOk, RequestKind.servedWhilePending, State.done, State.serve]

theorem exec_cancel_ready (tag : Byte) (hr : Ready s st) :
    exec (.cancel st tag []) s = .next ((heard s st).serveCancel st tag).settle :=
  State.request_ready .cancel s st tag _ hr (by simp) rfl

theorem heard_pending : ((heard s st).ports.get st).pending = (s.ports.get st).pending := by simp [heard, heardPort]

end

/-! ## The read of a station at a completion (R98) -/

section

variable {p : Port} {q : PendingRead} {newest : BitVec 16} {i : Nat}

theorem Port.served_due (h : p.pending = some q) (hd : aheadBy q.minimum newest ≤ 0) : p.served newest i
    = { p with pending := none, replies := p.replies ++ [⟨some .readScan, q.tag, .scan i q.query⟩] } := by
  simp only [Port.served, h, if_pos hd, Port.queueReply]

theorem Port.served_waits (h : p.pending = some q) (hd : 0 < aheadBy q.minimum newest) : p.served newest i = p := by
  simp only [Port.served, h, if_neg (not_le.mpr hd)]

end

section

variable {s : State} {dir : ScanDir} {st : Station}

/-- What follows a completion brings no reply to a station that waits for nothing. -/
theorem completeScan_unread (h : ((s.tallied dir).ports.get st).pending = none) :
    ((s.completeScan dir).ports.get st).pending = none
      ∧ ((s.completeScan dir).ports.get st).replies = ((s.tallied dir).ports.get st).replies := by
  have hact : (((s.tallied dir).activatePending).ports.get st).pending = none
      ∧ (((s.tallied dir).activatePending).ports.get st).replies = ((s.tallied dir).ports.get st).replies := by
    cases hp : (s.tallied dir).store.pendingSlot with
    | none => rw [activatePending_of_none hp]; exact ⟨h, rfl⟩
    | some k => rw [activatePending_of_some hp]; exact activate_unread _ k h
  obtain e | ⟨a, e⟩ := completeScan_cases s dir <;> rw [e]
  · exact hact
  · obtain ⟨hn, hr⟩ := ((decideCompletion_after _ dir a).ports st).replies hact.1
    exact ⟨hn, hr.trans hact.2⟩

theorem Offers.pending {P : Notice → Prop} {t : State} (h : Offers P s t) (st : Station) :
    (t.ports.get st).pending = (s.ports.get st).pending :=
  h.kept (fun p => p.pending) (fun n p => (Port.offer_kept n p).2.1) st

end

end Sys2Proof.Machine

namespace Sys2Proof.Safety

open Sys2Proof Sys2Proof.Machine

/-- Settles O31: the three ends of a read that waits, by itself and at a completion. -/
theorem pendingReadEnds : Obligations.PendingReadEnds := by
  refine ⟨fun s st tag => ⟨fun r h => ?timeout, fun h => ?nothing, fun r h hroom => ?cancel, fun hr => ?idle⟩,
    fun dir s x i st q h hq => ?completion⟩
  case timeout =>
    change (s.endPending st (.timeout s.ring.newest)).done = _
    rw [endPending_of_some h]
    rfl
  case nothing =>
    change (s.endPending st (.timeout s.ring.newest)).done = _
    rw [endPending_of_none h]
    rfl
  case cancel =>
    have hp : ((heard s st).ports.get st).pending = some r := heard_pending.trans h
    rw [exec_cancel_waiting tag h hroom, State.serveCancel, hp]
    dsimp only
    rw [endPending_of_some hp]
    simp only [State.answer, State.reply, heard, State.onPort_onPort, Port.queueReply, List.append_assoc]
    rfl
  case idle =>
    have hp : ((heard s st).ports.get st).pending = none := heard_pending.trans hr.2
    rw [exec_cancel_ready tag hr, State.serveCancel, hp]
    dsimp only
    rw [heard_answer]
  case completion =>
    have hfill : s.ring.filling = some i := h.2.2.1
    have hleg : measuringLeg s.head.state = true := h.1
    generalize hm : s.setHead (counted s.head dir) = m
    have hfillm : m.ring.filling = some i := by rw [← hm]; exact hfill
    have hexec := exec_completes h
    rw [hm] at hexec
    have hclosed := completeRecord_closed (dir := x.dir) hfillm
    have hnew : m.ring.newest = s.ring.newest := by rw [← hm]; rfl
    have hports : m.ports = s.ports := by rw [← hm]; rfl
    have hget := hclosed.ports st
    rw [hnew, hports] at hget
    generalize hn : (m.completedAt x.dir i).notice = n at hget
    obtain ⟨hrep, hpend, -⟩ := Port.offer_kept n (s.ports.get st)
    rw [hq] at hpend
    have hoffers := tallied_offers m x.dir
    obtain ⟨hchosen, -, hchosenp, -⟩ := Port.choose_kept ((m.completeScan x.dir).ports.get st)
    refine ⟨_, hexec, fun hd => ?_, fun hd hnone => ?_⟩
    · rw [Port.served_due hpend hd] at hget
      have htp : ((m.tallied x.dir).ports.get st).pending = none := by rw [hoffers.pending, hget]
      have htr := hoffers.replies st
      rw [hget] at htr
      obtain ⟨hnone, hreplies⟩ := completeScan_unread htp
      refine ⟨?_, ?_, fun hp hb => ?_⟩
      · rw [State.settle_get, hchosenp, hnone]
      · rw [State.settle_get, hchosen, hreplies, htr]; exact congrArg (· ++ _) hrep
      · have hlegm : measuringLeg m.head.state = true := by rw [← hm]; cases dir <;> exact hleg
        obtain ⟨hkept, -⟩ := completeScan_record (dir := x.dir) hfillm hlegm (by rw [← hm]; exact hp) (by rw [← hm]; exact hb)
        obtain ⟨r, hr, hheld⟩ := hclosed.held st q (by rw [hports]; exact hq) (by rw [hnew]; exact hd)
        rw [settle_ring, Ring.at_of_getElem? (hkept.trans hr), hheld]
    · rw [Port.served_waits hpend hd] at hget
      have hdec : Decision (m.tallied x.dir) (m.completeScan x.dir) := completeScan_decision (by rw [← hm]; exact hnone)
      refine ⟨?_, ?_⟩
      · rw [State.settle_get, hchosenp, hdec.news.pending, hoffers.pending, hget, hpend]
      · rw [State.settle_get, hchosen, hdec.news.replies, hoffers.replies, hget, hrep]

end Sys2Proof.Safety
end

section
/-! SUPPORT. What a completion tells and numbers (R33, R91, R104, R11, R135). -/

namespace Sys2Proof.Machine

open Sys2Proof Sys2Proof.Safety

/-- Notices of other kinds leave the entries of a kind as they stand. -/
theorem Offers.kindKept {P : Notice → Prop} {k : NoticeKind} {s t : State} (h : Offers P s t) (hP : ∀ n, P n → n.kind ≠ k) :
    KindKept k s t := by
  intro st
  refine ⟨h.present st, h.kept (fun p => p.sub) (fun n p => (Port.offer_kept n p).2.2.2.2.1) st, ?_⟩
  simp only [Offers] at h
  generalize t.ports = qs at *
  induction h with
  | refl => rfl
  | offer _ hn ih => rw [Four.get_map, Port.offer_entries (hP _ hn), ih]

theorem Port.served_notices (p : Port) (n : BitVec 16) (i : Nat) : (p.served n i).notices = p.notices := by
  unfold Port.served
  split
  · rfl
  · split <;> rfl

/-! ## The standardization unit -/

section

variable {s : State} {dir : ScanDir}

/-- A decision away from home with the drive at work leaves the standardization unit alone. -/
theorem decideCompletion_std (a : Bool) (hd : s.driveMissing = false) (hp : s.head.position ≠ 0) :
    (s.decideCompletion dir a).std = s.std := by
  have hscan : ∀ g d, ((s.grantTo g).startScan d false).std = s.std := fun g d => startScan_std (s.grantTo g) d false
  have hback : ∀ g, (s.beginReturning g).std = s.std := fun g => by
    rw [beginReturning_of_away g hd hp]; simp [State.returning]
  simp only [State.decideCompletion]; split
  · simp only [State.stdAtCompletion]; split
    · exact hback _
    · split
      · exact hback _
      · exact hscan _ _
  · rw [beginPositioning_eq, if_neg (by simp [hd])]; split
    · rw [arrivePoint_std, positioning_std]
    · exact positioning_std _ _
  · simp only [State.scanAtCompletion]; split
    · rw [beginApproach_eq, if_neg (by simp [hd])]; split
      · exact (startScan_std _ .fwd true).trans (approaching_std _)
      · exact approaching_std _
    · exact hscan _ _
  all_goals exact hback _

theorem completeScan_std (hnone : s.store.pendingSlot = none) (hl : measuringLeg s.head.state = true)
    (hp : s.head.position ≠ 0) : (s.completeScan dir).std = (s.tallied dir).std := by
  have hidle : (s.tallied dir).activatePending = s.tallied dir := activatePending_of_none (by rw [tallied_store, hnone])
  obtain ⟨l, hleg⟩ : ∃ l, (s.tallied dir).activatePending.head.state = .scanning l := by
    rw [hidle, tallied_head]; obtain h | h := measuringLeg_iff.mp hl <;> exact ⟨_, h⟩
  rw [completeScan_of_scanning hleg, hidle]
  rw [hidle] at hleg
  exact decideCompletion_std _ (driveMissing_of_moving (by rw [hleg]; rfl)) (by rw [tallied_head]; exact hp)

theorem completeScan_brk (hnone : s.store.pendingSlot = none) : (s.completeScan dir).brk = (s.tallied dir).brk := by
  have hidle : (s.tallied dir).activatePending = s.tallied dir := activatePending_of_none (by rw [tallied_store, hnone])
  obtain e | ⟨a, e⟩ := completeScan_cases s dir <;> rw [e, hidle]
  exact decideCompletion_brk _ _ _

/-- Std-due as R11 has it after a completion. -/
theorem tallied_stdDue : (s.tallied dir).std.stdDue = true ↔ dueAfter s := by
  rw [tallied_std, dueAfter]
  simp [intervalReached]

/-! ## The notices -/

/-- The SCAN_DONE notice of a completion (R91). -/
theorem completeScan_notified {i : Nat} (h : s.ring.filling = some i) :
    Notified s (s.completeScan dir).settle (s.completedAt dir i).notice := by
  have hclosed := completeRecord_closed (dir := dir) h
  have htally : KindKept .scanDone (s.completeRecord dir) (s.tallied dir) := (tallied_offers s dir).kindKept fun n hn => by
    obtain hn | hn | hn := hn <;> simp [hn]
  have hkept := (htally.trans (completeScan_kindKept single_scanDone)).trans (.settle _)
  refine KindKept.notified (s := s.completeRecord dir) (n := (s.completedAt dir i).notice) hkept fun st ht => ?_
  rw [hclosed.ports st, Port.Bears, Port.served_notices]
  have hb := bears_offer ht
  rwa [State.offer_get] at hb

/-- The return to RUNNING is told (R135). -/
theorem completeScan_told (hnone : s.store.pendingSlot = none) (h : s.brk.state = .recovering)
    (hn : s.recipe.brk.recoveryScans ≤ min 8 (s.brk.recoveryCount + 1)) :
    Told (s.completeScan dir).settle (.breakState .running s.brk.causes s.brk.count) := by
  obtain ⟨v, hoffers⟩ := tallied_told s dir h hn
  have hrest := (completeScan_decision (dir := dir) hnone).news.mono (Q := fun n => n.kind ≠ .breakState) fun n hn => by
    obtain hn | hn := hn <;> simp [hn]
  have hfirst := hoffers.mono (Q := fun n => n.kind ≠ .breakState) fun n hn => by
    obtain hn | hn := hn <;> simp [hn]
  exact told_of_offers (hfirst.trans hrest) fun _ hm => hm

end

end Sys2Proof.Machine

namespace Sys2Proof.Safety

open Sys2Proof Sys2Proof.Machine

/-- The first part of O14: the record, its number, the tallies and the notices. -/
theorem scanCompletionNumbersRecord : ScanCompletionNumbersRecord := by
  intro dir s x i h
  have hfill : s.ring.filling = some i := h.2.2.1
  have hleg : measuringLeg s.head.state = true := h.1
  generalize hm : s.setHead (counted s.head dir) = m
  have hfillm : m.ring.filling = some i := by rw [← hm]; exact hfill
  have hlegm : measuringLeg m.head.state = true := by rw [← hm]; cases dir <;> exact hleg
  have hexec := exec_completes h
  rw [hm] at hexec
  have hclosed := completeRecord_closed (dir := x.dir) hfillm
  have huntouched := completeScan_untouched (s := m) (dir := x.dir)
  obtain ⟨hstill, hcounted, hrunning⟩ := tallied_brk m x.dir
  have hnumber : (m.completedAt x.dir i).summary.number = s.ring.newest + 1 := by rw [← hm]; rfl
  refine ⟨_, (m.completedAt x.dir i).summary, hexec, ?_, ?_, hnumber, ?_, ?_, ?_, ?_, fun hp hb => ?_, fun hnone hp => ?_,
    fun hnone => ⟨fun hbrk => ?_, fun hbrk hn => ?_, fun hbrk hn => ⟨?_, ?_⟩⟩⟩
  · rw [settle_ring, huntouched.newest, tallied_ring, hclosed.ring.records.1, ← hm]; rfl
  · rw [settle_trend, completeScan_trend, tallied_trend, hclosed.trend, keepNewest]
    simp [← hm]
  · rw [← hm]; rfl
  · rw [← hm]; rfl
  · have hnotified := completeScan_notified (dir := x.dir) hfillm
    rw [← hm] at hnotified ⊢
    exact hnotified
  · rw [settle_std, huntouched.counter, tallied_std, ← hm]; rfl
  · obtain ⟨hkept, holds, hrec⟩ := completeScan_record (dir := x.dir) hfillm hlegm (by rw [← hm]; exact hp) (by rw [← hm]; exact hb)
    refine ⟨{ (m.completedAt x.dir i) with holds := holds }, by rw [settle_ring, hkept, hrec], ?_, rfl, rfl, rfl, rfl⟩
    rw [← hm]
    exact ⟨rfl, rfl, rfl, rfl, rfl, rfl, rfl, rfl, rfl, rfl, rfl, rfl, rfl, rfl, rfl⟩
  · rw [settle_std, completeScan_std (by rw [← hm]; exact hnone) hlegm (by rw [← hm]; exact hp), tallied_stdDue, ← hm]
    rfl
  · rw [settle_brk, completeScan_brk (by rw [← hm]; exact hnone), hstill (by rw [← hm]; exact hbrk), ← hm]
    rfl
  · rw [settle_brk, completeScan_brk (by rw [← hm]; exact hnone),
      hcounted (by rw [← hm]; exact hbrk) (by rw [← hm]; exact hn), ← hm]
    rfl
  · rw [settle_brk, completeScan_brk (by rw [← hm]; exact hnone),
      hrunning (by rw [← hm]; exact hbrk) (by rw [← hm]; exact hn), ← hm]
    rfl
  · have ht := completeScan_told (dir := x.dir) (s := m) (by rw [← hm]; exact hnone) (by rw [← hm]; exact hbrk)
      (by rw [← hm]; exact hn)
    have hb : m.brk = s.brk := by rw [← hm]; rfl
    rwa [hb] at ht

end Sys2Proof.Safety
end

section
/-! SUPPORT. The decisions at a completion, with and without an activation before them (R44, R168), and the obligation about
the completion. -/

namespace Sys2Proof.Machine

open Sys2Proof Sys2Proof.Safety

/-! ## The notices that a completion leaves alone -/

section

variable {s : State} {dir : ScanDir} {i : Nat}

theorem Port.served_takes (p : Port) (n : BitVec 16) (i : Nat) :
    (p.served n i).present = p.present ∧ (p.served n i).sub = p.sub := by
  unfold Port.served
  split
  · exact ⟨rfl, rfl⟩
  · split <;> exact ⟨rfl, rfl⟩

/-- The close of a record queues its SCAN_DONE notice alone. -/
theorem completeRecord_kindKept {k : NoticeKind} (h : s.ring.filling = some i) (hk : k ≠ .scanDone) :
    KindKept k s (s.completeRecord dir) := by
  intro st
  obtain ⟨hpres, hsub⟩ := Port.served_takes (Port.offer (s.completedAt dir i).notice (s.ports.get st)) (s.ring.newest + 1) i
  obtain ⟨-, -, -, hop, hos, -⟩ := Port.offer_kept (s.completedAt dir i).notice (s.ports.get st)
  rw [(completeRecord_closed h).ports st, Port.entries, Port.served_notices]
  exact ⟨hpres.trans hop, hsub.trans hos, Port.offer_entries (n := (s.completedAt dir i).notice) hk.symm _⟩

theorem tallied_kindKept_recipe (h : s.ring.filling = some i) : KindKept .recipe s (s.tallied dir) :=
  (completeRecord_kindKept h (by simp)).trans ((tallied_offers s dir).kindKept fun n hn => by
    obtain hn | hn | hn := hn <;> simp [hn])

end

/-! ## The decision, by the winning claim -/

section

variable {r : State} {dir : ScanDir} {a : Bool}

theorem decideCompletion_of_std_return (hw : r.winner = .standardize) (h : dir = .rev ∨ a = true) :
    r.decideCompletion dir a = r.beginReturning .standardize := by
  simp only [State.decideCompletion, hw, State.stdAtCompletion]
  cases dir with
  | rev => rfl
  | fwd => exact if_pos (h.resolve_left (by simp))

theorem decideCompletion_of_std_back (hw : r.winner = .standardize) :
    r.decideCompletion .fwd false = (r.grantTo .standardize).startScan .rev false := by
  simp [State.decideCompletion, hw, State.stdAtCompletion]

theorem decideCompletion_of_point {st : Station} {p : Nat} (hw : r.winner = .point st p) :
    r.decideCompletion dir a = r.beginPositioning st p := by
  simp [State.decideCompletion, hw]

theorem decideCompletion_of_scan (hw : r.winner = .scan) : r.decideCompletion dir a =
    if a then r.beginApproach .scan else (r.grantTo .scan).startScan dir.back false := by
  simp [State.decideCompletion, hw, State.scanAtCompletion]

/-- Where a head that leaves for a point gets, and at once if it stands there (R36). -/
theorem beginPositioning_goes (st : Station) (p : Nat) (hd : r.driveMissing = false) (hs : r.head.scan = none) :
    let u := r.beginPositioning st p
    u.head.grant = .point st p ∧ u.head.pointPos = p ∧ u.head.scan = none
      ∧ (r.head.position.toNat ≠ p → u.head.state = .positioning ∧ u.head.drvEn = true
          ∧ u.head.drvDir = decide (r.head.position.toNat < p))
      ∧ (r.head.position.toNat = p → u.head.state = .singlePoint ∧ u.head.drvEn = false ∧ u.points.period.isSome = true) := by
  intro u
  have hu : u = r.beginPositioning st p := rfl
  rw [beginPositioning_eq, if_neg (by simp [hd]), positioning_head] at hu
  by_cases hp : r.head.position.toNat = p
  · rw [if_pos hp] at hu
    rw [hu, arrivePoint_head, positioning_head]
    exact ⟨rfl, rfl, hs, fun h => absurd hp h, fun _ => ⟨rfl, rfl, rfl⟩⟩
  · rw [if_neg hp] at hu
    rw [hu, positioning_head]
    exact ⟨rfl, rfl, hs, fun _ => ⟨rfl, rfl, directionTo_of_ne hp⟩, fun h => absurd h hp⟩

end

/-! ## The state in which a completion decides -/

/-- The state in which a completion decides, in RUNNING or RECOVERING with a recipe ACTIVE, beside the state in which the
count arrived. -/
structure Deciding (m r : State) : Prop where
  head : r.head = { m.head with scan := none }
  due : r.std.stdDue = true ↔ dueAfter m
  brk : r.brk.state = .running ∨ r.brk.state = .recovering
  active : r.store.active.isSome = true

section

variable {m r : State}

theorem Deciding.noHold (h : Deciding m r) : NoHold r := by
  obtain hb | hb := h.brk <;> simp [NoHold, hb]

theorem Deciding.slots (h : Deciding m r) : r.head.slots = m.head.slots := by rw [h.head]

theorem Deciding.position (h : Deciding m r) : r.head.position = m.head.position := by rw [h.head]

theorem Deciding.wins_std (h : Deciding m r) (hpark : ∀ j, m.head.slots.get j ≠ .park)
    (hstd : dueAfter m ∨ ∃ j, m.head.slots.get j = .standardize) : r.winner = .standardize :=
  winner_of_std h.noHold (by rwa [h.slots]) (by rwa [h.slots, h.due])

theorem Deciding.lowRanks (h : Deciding m r) (hpark : ∀ j, m.head.slots.get j ≠ .park)
    (hstd : ¬(dueAfter m ∨ ∃ j, m.head.slots.get j = .standardize)) : LowRanks r := by
  rw [not_or, not_exists] at hstd
  obtain ⟨hdue, hslot⟩ := hstd
  exact ⟨h.noHold, by rwa [h.slots], by rw [← Bool.not_eq_true, h.due]; exact hdue, by rwa [h.slots]⟩

theorem Deciding.wins_point (h : Deciding m r) (hlow : LowRanks r) {low : Station}
    (hl : LowestWith m.head.slots (fun x => ∃ p, x = .point p) low) :
    r.winner = .point low (max r.recipe.geometry.a (min r.recipe.geometry.b (m.head.slots.get low).pos)) := by
  rw [winner_of_point hlow (by rw [h.slots]; exact hl), h.slots]

theorem Deciding.wins_scan (h : Deciding m r) (hlow : LowRanks r) (hp : ∀ j, ¬∃ p, m.head.slots.get j = .point p) :
    r.winner = .scan := winner_of_scan hlow (by rwa [h.slots]) ⟨h.active, h.brk⟩

theorem Deciding.driven (h : Deciding m r) (hl : measuringLeg m.head.state = true) : r.driveMissing = false :=
  driveMissing_of_moving (by rw [h.head]; obtain hs | hs := measuringLeg_iff.mp hl <;> simp [hs, HeadState.still])

/-- Standardization wins and the head goes home (R44). -/
theorem Deciding.returns (h : Deciding m r) (hl : measuringLeg m.head.state = true) (hp : m.head.position ≠ 0) :
    (r.beginReturning .standardize).head = { m.head with
      scan := none, state := .returning, grant := .standardize, drvEn := true, drvDir := false, drvSpd := r.traverseStep,
      encTimer := .running Config.encoderLoss } := by
  rw [beginReturning_of_away _ (h.driven hl) (by rw [h.position]; exact hp), returning_head, h.head]

end

/-! ## What a completion leaves to the decision -/

section

variable {s : State} {dir : ScanDir}

theorem tallied_brk_kept (s : State) (dir : ScanDir) : (s.tallied dir).brk.det = s.brk.det
    ∧ (s.brk.state = .running ∨ s.brk.state = .recovering →
        (s.tallied dir).brk.state = .running ∨ (s.tallied dir).brk.state = .recovering) := by
  obtain ⟨hstill, hcounted, hrunning⟩ := tallied_brk s dir
  by_cases hb : s.brk.state = .recovering
  · by_cases hn : s.recipe.brk.recoveryScans ≤ min 8 (s.brk.recoveryCount + 1)
    · rw [hrunning hb hn]; exact ⟨rfl, fun _ => .inl rfl⟩
    · rw [hcounted hb (by omega)]; exact ⟨rfl, id⟩
  · rw [hstill hb]; exact ⟨rfl, id⟩

theorem tallied_decides (hb : s.brk.state = .running ∨ s.brk.state = .recovering) (ha : s.store.active.isSome = true) :
    Deciding s (s.tallied dir) where
  head := tallied_head s dir
  due := tallied_stdDue
  brk := (tallied_brk_kept s dir).2 hb
  active := by rw [tallied_store]; exact ha

theorem completeScan_of_none (hnone : s.store.pendingSlot = none) (hl : measuringLeg s.head.state = true) :
    s.completeScan dir = (s.tallied dir).decideCompletion dir false := by
  have hnone' : (s.tallied dir).store.pendingSlot = none := by rw [tallied_store, hnone]
  obtain ⟨l, hleg⟩ : ∃ l, (s.tallied dir).activatePending.head.state = .scanning l := by
    rw [activatePending_of_none hnone', tallied_head]; obtain h | h := measuringLeg_iff.mp hl <;> exact ⟨_, h⟩
  rw [completeScan_of_scanning hleg, activatePending_of_none hnone', hnone']
  rfl

/-- An activation that trips no detector is its hand-over and its notice, the head on its leg (R169, R171). -/
theorem activate_quiet {k : SlotNo} (hl : measuringLeg s.head.state = true)
    (hb : s.brk.state = .running ∨ s.brk.state = .recovering) (hq : QuietUnder (s.store.slots.get k).recipe s) :
    s.activate k = (s.handed k).recipeNotice .activated := by
  have hbrk : (s.handed k).brk.state = s.brk.state := by rw [State.handed, State.setBrk_brk, activated_brk]
  have hjudge : (s.handed k).judgeActivationWith (State.breakEntryWith id false) (newTrips s.brk.det (s.handed k).brk.det)
      (newClears s.brk.det (s.handed k).brk.det) = s.handed k := by
    obtain ⟨hi, -, -⟩ | ⟨hi, -, -⟩ | ⟨-, e⟩ := judgeActivationWith_cases (State.breakEntryWith id false)
      (newTrips s.brk.det (s.handed k).brk.det) (newClears s.brk.det (s.handed k).brk.det) (s.handed k)
    · rw [hbrk] at hi; obtain h | h := hb <;> simp [h] at hi
    · rw [hbrk] at hi; obtain h | h := hb <;> simp [h] at hi
    · rw [e]
      obtain e | ⟨-, ht, -⟩ | ⟨hi, -, -⟩ | ⟨hi, -⟩ := judgeDetectorsWith_cases (State.breakEntryWith id false)
        (newTrips s.brk.det (s.handed k).brk.det) (newClears s.brk.det (s.handed k).brk.det) (s.handed k)
      · exact e
      · simp [newTrips_handed hq] at ht
      · rw [hbrk] at hi; obtain h | h := hb <;> simp [h] at hi
      · rw [hbrk] at hi; obtain h | h := hb <;> simp [h] at hi
  have hstate : ((s.handed k).recipeNotice .activated).head.state = s.head.state := by simp
  have hleg := measuringLeg_iff.mp hl
  rw [State.activate, activateWith_handed, hjudge, redecideIfParked_of_ne, reaim_of_ne]
  · rw [hstate]; obtain h | h := hleg <;> simp [h]
  · rw [hstate]; obtain h | h := hleg <;> simp [h]

/-- A completion with a slot PENDING that trips no detector: the slot activates, and the decision follows (R44, R168). -/
theorem completeScan_of_quiet {k : SlotNo} (hk : s.store.pendingSlot = some k) (hl : measuringLeg s.head.state = true)
    (hb : s.brk.state = .running ∨ s.brk.state = .recovering) (hq : QuietUnder (s.store.slots.get k).recipe s) :
    s.completeScan dir = ((s.tallied dir).activate k).decideCompletion dir true ∧ Deciding s ((s.tallied dir).activate k)
      ∧ ((s.tallied dir).activate k).recipe = (s.store.slots.get k).recipe := by
  obtain ⟨hdet, hbt⟩ := tallied_brk_kept s dir
  have hstore := tallied_store s dir
  have hquiet : (s.tallied dir).activate k = ((s.tallied dir).handed k).recipeNotice .activated :=
    activate_quiet (by rw [tallied_head]; exact hl) (hbt hb) (by rw [hstore, QuietUnder, hdet]; exact hq)
  have hact : (s.tallied dir).activatePending = (s.tallied dir).activate k := activatePending_of_some (by rw [hstore, hk])
  have hhead : ((s.tallied dir).activate k).head = { s.head with scan := none } := by
    rw [hquiet, recipeNotice_head, handed_head, tallied_head]
  obtain ⟨l, hleg⟩ : ∃ l, (s.tallied dir).activatePending.head.state = .scanning l := by
    rw [hact, hhead]; obtain h | h := measuringLeg_iff.mp hl <;> exact ⟨_, h⟩
  have hbrk : ((s.tallied dir).handed k).brk.state = (s.tallied dir).brk.state := by
    rw [State.handed, State.setBrk_brk, activated_brk]
  refine ⟨?_, ⟨hhead, ?_, ?_, ?_⟩, ?_⟩
  · rw [completeScan_of_scanning hleg, hact, hstore, hk]; rfl
  · rw [hquiet, recipeNotice_std, handed_std]; exact tallied_stdDue
  · rw [hquiet, recipeNotice_brk, hbrk]; exact hbt hb
  · rw [hquiet, recipeNotice_store, handed_store, activate_active]; rfl
  · rw [hquiet, recipe_congr (recipeNotice_store _ _), handed_recipe, hstore]

end

end Sys2Proof.Machine

namespace Sys2Proof.Safety

open Sys2Proof Sys2Proof.Machine

/-- The second part of O14: the decision by the winning claim, the activation before it. -/
theorem completionDecisions : CompletionDecisions := by
  intro dir s x i h hb hpos hpark pos std isPoint target toPoint
  have hfill : s.ring.filling = some i := h.2.2.1
  have hleg : measuringLeg s.head.state = true := h.1
  generalize hm : s.setHead (counted s.head dir) = m
  have hfillm : m.ring.filling = some i := by rw [← hm]; exact hfill
  have hlegm : measuringLeg m.head.state = true := by rw [← hm]; cases dir <;> exact hleg
  have hbm : m.brk.state = .running ∨ m.brk.state = .recovering := by rw [← hm]; exact hb
  have hposm : m.head.position ≠ 0 := by rw [← hm]; exact hpos
  have hslots : m.head.slots = s.head.slots := by rw [← hm]; cases dir <;> rfl
  have hat : m.head.position.toNat = pos := by rw [← hm]; rfl
  have hparkm : ∀ j, m.head.slots.get j ≠ .park := by rw [hslots]; exact hpark
  have hdue : (dueAfter m ∨ ∃ j, m.head.slots.get j = .standardize) ↔ std := by
    rw [hslots, ← hm]; rfl
  have hstore : m.store = s.store := by rw [← hm]; rfl
  have hexec := exec_completes h
  rw [hm] at hexec
  refine ⟨fun hnone hactive => ?none, fun k hk hq => ?pending⟩
  case none =>
    rw [completeScan_of_none (by rw [hstore]; exact hnone) hlegm] at hexec
    have hdec : Deciding m (m.tallied x.dir) := tallied_decides hbm (by rw [hstore]; exact hactive)
    have hrecipe : (m.tallied x.dir).recipe = s.recipe := recipe_congr (by rw [tallied_store, hstore])
    generalize hr : m.tallied x.dir = r at hexec hdec hrecipe
    have hdrive := hdec.driven hlegm
    have hscan : r.head.scan = none := by rw [hdec.head]
    refine ⟨_, hexec, fun hstd => ?std, fun low hstd hl => ?point, fun hstd hpoint => ?scan⟩
    case std =>
      have hw := hdec.wins_std hparkm (hdue.mpr hstd)
      rw [settle_head]
      cases hx : x.dir with
      | fwd =>
        rw [decideCompletion_of_std_back hw, startScan_head]
        exact ⟨rfl, fun _ => ⟨rfl, rfl, rfl⟩, fun h => by simp at h⟩
      | rev =>
        rw [decideCompletion_of_std_return hw (.inl rfl), hdec.returns hlegm hposm]
        exact ⟨rfl, fun h => by simp at h, fun _ => ⟨rfl, rfl, rfl, rfl⟩⟩
    case point =>
      have hw := hdec.wins_point (hdec.lowRanks hparkm (mt hdue.mp hstd)) (by rw [hslots]; exact hl)
      have hgoes := beginPositioning_goes low (target s.recipe.geometry low) hdrive hscan
      rw [hdec.position, hat] at hgoes
      rw [hrecipe, hslots] at hw
      rw [decideCompletion_of_point hw]
      simp only [toPoint, settle_head, settle_points]
      exact hgoes
    case scan =>
      have hw := hdec.wins_scan (hdec.lowRanks hparkm (mt hdue.mp hstd)) (by rw [hslots]; exact hpoint)
      rw [settle_head, decideCompletion_of_scan hw, if_neg (by simp), startScan_head]
      refine ⟨rfl, rfl, fun hx => ?_, fun hx => ?_⟩ <;> rw [hx] <;> exact ⟨rfl, rfl⟩
  case pending =>
    intro g
    have hkm : m.store.pendingSlot = some k := by rw [hstore]; exact hk
    have hqm : QuietUnder (m.store.slots.get k).recipe m := by rw [← hm]; exact hq
    obtain ⟨e, hdec, hrecipe⟩ := completeScan_of_quiet (dir := x.dir) hkm hlegm hbm hqm
    rw [e] at hexec
    rw [hstore] at hrecipe
    have hbears := fun st => activate_bears_recipe (m.tallied x.dir) k (st := st)
    have hactivated : Activated s ((m.tallied x.dir).activate k) k :=
      activated_of_same (activated_activate k) (by rw [tallied_store, hstore]) rfl rfl rfl
    have hports : m.ports = s.ports := by rw [← hm]; rfl
    have htakes : KindKept .recipe m (m.tallied x.dir) := tallied_kindKept_recipe hfillm
    generalize hr : (m.tallied x.dir).activate k = r at hexec hdec hrecipe hbears hactivated
    have hafter := decideCompletion_after r x.dir true
    have hdrive := hdec.driven hlegm
    have hscan : r.head.scan = none := by rw [hdec.head]
    refine ⟨_, hexec, ?activated, ?notified, fun hstd => ?std, fun low hstd hl => ?point, fun hstd hpoint hne => ?scan⟩
    case activated =>
      exact activated_of_same hactivated rfl (by simp) (by simp) (by rw [settle_profile]; exact hafter.layout)
    case notified =>
      have hnews : recipeNews (r.decideCompletion x.dir true).settle .activated = recipeNews r .activated := by
        simp [recipeNews]
      rw [hnews]
      have hkept := (hafter.kindKept lasting_recipe).trans (.settle _)
      refine KindKept.notified (s := r) (n := recipeNews r .activated) hkept fun st ht => hbears st ?_
      rw [← hports] at ht
      exact htakes.takes ht
    case std =>
      rw [settle_head, decideCompletion_of_std_return (hdec.wins_std hparkm (hdue.mpr hstd)) (.inr rfl), hdec.returns hlegm hposm]
      exact ⟨rfl, rfl, rfl, rfl, rfl⟩
    case point =>
      have hw := hdec.wins_point (hdec.lowRanks hparkm (mt hdue.mp hstd)) (by rw [hslots]; exact hl)
      have hgoes := beginPositioning_goes low (target g low) hdrive hscan
      rw [hdec.position, hat] at hgoes
      rw [hrecipe, hslots] at hw
      rw [decideCompletion_of_point hw]
      simp only [toPoint, settle_head, settle_points]
      exact hgoes
    case scan =>
      have hw := hdec.wins_scan (hdec.lowRanks hparkm (mt hdue.mp hstd)) (by rw [hslots]; exact hpoint)
      have haway : r.head.position.toNat ≠ r.recipe.geometry.a := by rw [hdec.position, hat, hrecipe]; exact hne
      rw [settle_head, decideCompletion_of_scan hw, if_pos rfl, beginApproach_eq, if_neg (by simp [hdrive]),
        if_neg (by rw [approaching_head, approaching_recipe]; exact haway), approaching_head, directionTo_of_ne haway,
        hdec.position, hat, hrecipe]
      exact ⟨rfl, rfl, rfl, rfl, hscan⟩

/-- Settles O14: the record and its number, and the decision. -/
theorem completionNumbersAndDecides : Obligations.CompletionNumbersAndDecides :=
  ⟨scanCompletionNumbersRecord, completionDecisions⟩

end Sys2Proof.Safety
end

section
/-! SUPPORT. The evaluation of the limit table at a completion (R152 to R156), and the obligation about it. -/

namespace Sys2Proof.Machine

open Sys2Proof Sys2Proof.Safety

/-! ## The value and the judgement of an entry -/

theorem judge_judgedAs (e : LimitEntry) (v : Val) (old : LimitState) : judgedAs e v old (e.judge v old) := by
  have hband : old.band = if old = .exceeded then .exceeded else .clear := by cases old <;> rfl
  cases v with
  | none => unfold judgedAs LimitEntry.judge; cases e.check <;> rfl
  | some x =>
    unfold judgedAs LimitEntry.judge
    cases hb : e.bound with
    | high =>
      refine ⟨fun h => if_pos h, fun h hc => ?_, fun h hc => ?_⟩
      · exact (if_neg h).trans (if_pos hc)
      · exact ((if_neg h).trans (if_neg hc)).trans hband
    | low =>
      refine ⟨fun h => if_pos h, fun h hc => ?_, fun h hc => ?_⟩
      · exact (if_neg h).trans (if_pos hc)
      · exact ((if_neg h).trans (if_neg hc)).trans hband

theorem maxVal_spec (l : List Val) : (maxVal l = none ↔ ∀ z ∈ l, z = none)
    ∧ ∀ x, maxVal l = some x → some x ∈ l ∧ ∀ y, some y ∈ l → y ≤ x := by
  simp only [← validOf_eq_nil_iff, ← mem_validOf, maxVal]
  cases validOf l with
  | nil => simp
  | cons a t =>
    refine ⟨by simp, fun x hx => ?_⟩
    exact maxInt_eq_iff.mp (Option.some.inj hx)

theorem minVal_spec (l : List Val) : (minVal l = none ↔ ∀ z ∈ l, z = none)
    ∧ ∀ x, minVal l = some x → some x ∈ l ∧ ∀ y, some y ∈ l → x ≤ y := by
  simp only [← validOf_eq_nil_iff, ← mem_validOf, minVal]
  cases validOf l with
  | nil => simp
  | cons a t =>
    refine ⟨by simp, fun x hx => ?_⟩
    exact minInt_eq_iff.mp (Option.some.inj hx)

theorem value_checks (n : LimitEntry) (r : ScanRecord) (h : n.target ≠ .end_) :
    ChecksValue n (r.meas.get n.meas) (n.value r) := by
  unfold ChecksValue LimitEntry.value
  cases ht : n.target with
  | avg => rfl
  | spread => rfl
  | zoneMax => exact maxVal_spec _
  | zoneMin => exact minVal_spec _
  | end_ => exact absurd ht h

/-! ## The states, the relay and the change -/

section

variable {table : List LimitEntry} {r : ScanRecord} {old new : List LimitState} {j : Nat}

theorem liveEntries_target {n : LimitEntry} (h : (liveEntries table)[j]? = some n) : n.target ≠ .end_ := by
  have hmem := List.mem_of_getElem? h
  have := List.mem_takeWhile_imp hmem
  simpa using this

theorem liveEntries_length_le : (liveEntries table).length ≤ table.length :=
  (List.takeWhile_sublist _).length_le

theorem evaluateStates_length (h : (liveEntries table).length ≤ old.length) : (evaluateStates table r old).length = old.length := by
  simp [evaluateStates]; omega

/-- A live entry is judged (R153). -/
theorem evaluateStates_live {n : LimitEntry} {o : LimitState} (hn : (liveEntries table)[j]? = some n) (ho : old[j]? = some o) :
    (evaluateStates table r old)[j]? = some (n.judge (n.value r) o) := by
  obtain ⟨hj, -⟩ := List.getElem?_eq_some_iff.mp hn
  obtain ⟨hj', -⟩ := List.getElem?_eq_some_iff.mp ho
  simp only [evaluateStates]
  rw [List.getElem?_append_left (by simp; omega), List.getElem?_zipWith, hn, ho]

/-- The entries from the first END on stand as they were (R151, R153). -/
theorem evaluateStates_rest (hl : (liveEntries table).length ≤ old.length) (hj : (liveEntries table).length ≤ j) :
    (evaluateStates table r old)[j]? = old[j]? := by
  have hlen : (List.zipWith (fun (e : LimitEntry) o => e.judge (e.value r) o) (liveEntries table) old).length
      = (liveEntries table).length := by simp [hl]
  simp only [evaluateStates]
  rw [List.getElem?_append_right (by rw [hlen]; exact hj), hlen, List.getElem?_drop]
  rw [Nat.add_sub_cancel' hj]

theorem limitRelayNow_iff : limitRelayNow table new = true ↔ ∃ (j : Nat) (n : LimitEntry), (liveEntries table)[j]? = some n
    ∧ n.relay = true ∧ new[j]? = some .exceeded := by
  simp only [limitRelayNow, List.any_eq_true, Bool.and_eq_true, beq_iff_eq]
  constructor
  · rintro ⟨⟨n, x⟩, hmem, hrelay, hx⟩
    obtain ⟨j, hj⟩ := List.mem_iff_getElem?.mp hmem
    obtain ⟨hn, hs⟩ := List.getElem?_zip_eq_some.mp hj
    exact ⟨j, n, hn, hrelay, by rw [hs, ← hx]⟩
  · rintro ⟨j, n, hn, hrelay, hs⟩
    exact ⟨(n, .exceeded), List.mem_iff_getElem?.mpr ⟨j, List.getElem?_zip_eq_some.mpr ⟨hn, hs⟩⟩, hrelay, rfl⟩

theorem entering_iff (hl : new.length = old.length) : entering old new = true ↔
    ∃ k : Nat, old[k]? ≠ new[k]? ∧ new[k]? ≠ some LimitState.clear := by
  simp only [entering, List.any_eq_true, Bool.and_eq_true, bne_iff_ne]
  constructor
  · rintro ⟨⟨a, b⟩, hmem, hne, hclear⟩
    obtain ⟨k, hk⟩ := List.mem_iff_getElem?.mp hmem
    obtain ⟨ha, hb⟩ := List.getElem?_zip_eq_some.mp hk
    exact ⟨k, by rw [ha, hb]; simpa using hne, by rw [hb]; simpa using hclear⟩
  · rintro ⟨k, hne, hclear⟩
    have hk : k < old.length := by
      by_contra hk
      rw [List.getElem?_eq_none (by omega), List.getElem?_eq_none (by omega)] at hne
      exact hne rfl
    have ha := List.getElem?_eq_getElem hk
    have hb := List.getElem?_eq_getElem (hl ▸ hk : k < new.length)
    refine ⟨(old[k], new[k]), List.mem_iff_getElem?.mpr ⟨k, List.getElem?_zip_eq_some.mpr ⟨ha, hb⟩⟩, ?_, ?_⟩
    · rw [ha, hb] at hne; simpa using hne
    · rw [hb] at hclear; simpa using hclear

theorem lastChanged_of (hl : new.length = old.length) (hj : old[j]? ≠ new[j]?) (hmax : ∀ k : Nat, j < k → ¬old[k]? ≠ new[k]?) :
    lastChanged old new = some j := by
  have hlt : j < old.length := by
    by_contra hk
    rw [List.getElem?_eq_none (by omega), List.getElem?_eq_none (by omega)] at hj
    exact hj rfl
  exact getLast?_filter_range hlt (by simpa using hj) fun k hk _ => by simpa using hmax k hk

theorem lastChanged_none (h : ∀ k : Nat, ¬old[k]? ≠ new[k]?) : lastChanged old new = none := by
  simp only [lastChanged, List.getLast?_eq_none_iff, List.filter_eq_nil_iff]
  exact fun k _ => by simpa using h k

end

/-! ## The evaluation (R153) -/

section

variable {v : State} {r : ScanRecord} {j : Nat}

theorem evaluateLimits_of_skip (h : r.quality.provisional = true ∨ r.speed < v.store.machine.minRunSpeed) :
    v.evaluateLimits r = v := by
  rw [State.evaluateLimits, if_pos (by simpa using h)]

/-- The limits after an evaluation. -/
def State.limitsUnder (v : State) (r : ScanRecord) : Limits :=
  ⟨evaluateStates v.recipe.limits r v.limits.states,
    limitRelayNow v.recipe.limits (evaluateStates v.recipe.limits r v.limits.states)⟩

theorem evaluateLimits_of_judged (h : r.quality.provisional = false) (hs : v.store.machine.minRunSpeed ≤ r.speed) :
    (∀ j, lastChanged v.limits.states (v.limitsUnder r).states = some j → v.evaluateLimits r =
        (v.setLimits (v.limitsUnder r)).offer (.limit (v.limitsUnder r).states j
          (entering v.limits.states (v.limitsUnder r).states) (r.number.getD 0)))
    ∧ (lastChanged v.limits.states (v.limitsUnder r).states = none → v.evaluateLimits r = v.setLimits (v.limitsUnder r)) := by
  have hcond : ¬(r.quality.provisional || decide (r.speed < v.store.machine.minRunSpeed)) = true := by simp [h, hs]
  refine ⟨fun j hj => ?_, fun hj => ?_⟩
  · rw [State.evaluateLimits, if_neg hcond]
    simp only [State.limitsUnder] at hj ⊢
    simp only [hj]
  · rw [State.evaluateLimits, if_neg hcond]
    simp only [State.limitsUnder] at hj ⊢
    simp only [hj]

theorem evaluateLimits_limits (h : r.quality.provisional = false) (hs : v.store.machine.minRunSpeed ≤ r.speed) :
    (v.evaluateLimits r).limits = v.limitsUnder r := by
  obtain ⟨hsome, hnone⟩ := evaluateLimits_of_judged h hs
  cases hl : lastChanged v.limits.states (v.limitsUnder r).states with
  | none => rw [hnone hl]; rfl
  | some j => rw [hsome j hl]; rfl

end

/-! ## The evaluation at a completion -/

/-- The state in which a completion evaluates its limits. -/
def State.beforeLimits (s : State) (dir : ScanDir) : State := (s.counted dir).completeRecovery

section

variable {s : State} {dir : ScanDir} {i : Nat}

theorem tallied_beforeLimits : s.tallied dir = (s.beforeLimits dir).completeLimits.completeHoles := rfl

theorem beforeLimits_ring : (s.beforeLimits dir).ring = (s.completeRecord dir).ring := by
  simp [State.beforeLimits, State.counted]

theorem beforeLimits_limits : (s.beforeLimits dir).limits = s.limits := by
  simp [State.beforeLimits, State.counted]

theorem beforeLimits_store : (s.beforeLimits dir).store = s.store := by
  simp [State.beforeLimits, State.counted]

/-- Nothing queues a LIMIT notice before the evaluation. -/
theorem beforeLimits_kindKept (h : s.ring.filling = some i) : KindKept .limit s (s.beforeLimits dir) := by
  have hcount : KindKept .limit (s.completeRecord dir) (s.counted dir) := .of_ports (counted_ports s dir)
  have hrec : KindKept .limit (s.counted dir) (s.beforeLimits dir) :=
    (completeRecovery_offers (s.counted dir)).kindKept fun n hn => by simp [hn]
  exact ((completeRecord_kindKept h (by simp)).trans hcount).trans hrec

theorem completeHoles_kindKept (v : State) : KindKept .limit v v.completeHoles := by
  simp only [State.completeHoles]; split
  · exact KindKept.trans (t := v.holeTransfer (.scan v.ring.newest)) (.of_ports rfl) (.offer _ (by simp [Notice.kind]))
  · exact .refl v

/-- Nothing queues a LIMIT notice after the evaluation, and nothing changes the table, when no slot is PENDING. -/
theorem afterLimits_kept (hpend : s.store.pendingSlot = none) :
    KindKept .limit (s.beforeLimits dir).completeLimits (s.completeScan dir).settle
      ∧ (s.completeScan dir).settle.limits = (s.beforeLimits dir).completeLimits.limits := by
  have hnone : (s.tallied dir).store.pendingSlot = none := by rw [tallied_store, hpend]
  have hdec := (completeScan_decision (dir := dir) hpend).after.kindKept lasting_limit
  refine ⟨((completeHoles_kindKept _).trans hdec).trans (.settle _), ?_⟩
  have htall : (s.tallied dir).limits = (s.beforeLimits dir).completeLimits.limits := by
    rw [tallied_beforeLimits]; simp
  rw [settle_limits, ← htall]
  obtain e | ⟨a, e⟩ := completeScan_cases s dir <;> rw [e, activatePending_of_none hnone]
  exact decideCompletion_limits _ _ _

/-- The record just closed is the one evaluated, if no other carries its number. -/
theorem beforeLimits_newestRecord (h : s.ring.filling = some i) (hother : ∀ (j : Nat) (r : ScanRecord),
      s.ring.records[j]? = some r → r.status = .complete → r.number ≠ some (s.ring.newest + 1)) :
    (s.beforeLimits dir).ring.newestRecord = some i
      ∧ ∃ holds : Four Bool, (s.beforeLimits dir).ring.at i = { (s.completedAt dir i) with holds := holds } := by
  obtain ⟨hlt, -⟩ := Ring.filling_some h
  obtain ⟨hnew, hothers, hown⟩ := (completeRecord_closed (dir := dir) h).ring.records
  obtain ⟨holds, -, hrec⟩ := hown _ (completedRing_at hlt)
  have hnewest : (s.completeRecord dir).ring.newest = s.ring.newest + 1 := by rw [hnew]; rfl
  rw [beforeLimits_ring]
  refine ⟨?_, holds, Ring.at_of_getElem? hrec⟩
  obtain ⟨hlt', hget⟩ := List.getElem?_eq_some_iff.mp hrec
  rw [Ring.newestRecord, List.findIdx?_eq_some_iff_getElem]
  refine ⟨hlt', ?_, fun j hj => ?_⟩
  · rw [hget, hnewest]
    simp [State.completedAt, State.closedRecord]
  · have hj' := List.getElem?_eq_getElem (hj.trans hlt')
    rw [hothers j (by omega), completedRing_ne (by omega)] at hj'
    have hne := hother j _ hj'
    rw [hnewest]
    simpa using hne

/-- The table, the relay and the notice of an evaluation (R153 to R156), from the states before and after it. -/
theorem limitsEvaluated {u : State} {r : ScanRecord} {new : List LimitState} {number : BitVec 16}
    (hlen : s.limits.states.length = 16) (htab : s.recipe.limits.length = 16)
    (hnew : evaluateStates s.recipe.limits r s.limits.states = new) (hu : u.limits = ⟨new, limitRelayNow s.recipe.limits new⟩)
    (hsome : ∀ j, lastChanged s.limits.states new = some j →
      Notified s u (.limit new j (entering s.limits.states new) number))
    (hnone : lastChanged s.limits.states new = none → Unheard s u .limit) : LimitsEvaluated s u r.meas number := by
  have hlive : (liveEntries s.recipe.limits).length ≤ s.limits.states.length := by
    rw [hlen, ← htab]; exact liveEntries_length_le
  have hsize : new.length = s.limits.states.length := by rw [← hnew]; exact evaluateStates_length hlive
  rw [LimitsEvaluated, hu]
  refine ⟨hsize.trans hlen, fun j n old hn ho => ?_, fun j hj => ?_, limitRelayNow_iff, fun j e hj hmax he => ?_, fun h => ?_⟩
  · exact ⟨n.value r, n.judge (n.value r) old, value_checks n r (liveEntries_target hn),
      by rw [← hnew]; exact evaluateStates_live hn ho, judge_judgedAs _ _ _⟩
  · rw [← hnew]; exact evaluateStates_rest hlive hj
  · have hentering : entering s.limits.states new = e := Bool.eq_iff_iff.mpr ((entering_iff hsize).trans he.symm)
    rw [← hentering]
    exact hsome j (lastChanged_of hsize hj hmax)
  · exact hnone (lastChanged_none h)

end

end Sys2Proof.Machine

namespace Sys2Proof.Safety

open Sys2Proof Sys2Proof.Machine

/-- Settles O41: the table of R154, and the evaluation at a completion, which its decision leaves alone. -/
theorem limitEntryJudged : Obligations.LimitEntryJudged := by
  refine ⟨judge_judgedAs, fun dir s x i h hprov hother hpend hlen htab => ?_⟩
  have hfill : s.ring.filling = some i := h.2.2.1
  obtain ⟨old, hold, hclean⟩ := hprov
  generalize hm : s.setHead (counted s.head dir) = m
  have hfillm : m.ring.filling = some i := by rw [← hm]; exact hfill
  have hpendm : m.store.pendingSlot = none := by rw [← hm]; exact hpend
  have hexec := exec_completes h
  rw [hm] at hexec
  have hports : m.ports = s.ports := by rw [← hm]; rfl
  obtain ⟨hnewest, holds, hat⟩ := beforeLimits_newestRecord (dir := x.dir) hfillm (by rw [← hm]; exact hother)
  have hworked := completeScan_worked hfillm hpendm x rfl
  have hmeas : (m.completedAt x.dir i).meas = (m.profileResults x.dir (foundEdges m.edges.run x.dir)).map (·.record) := by
    rw [← resolve_eq]; rfl
  obtain ⟨nb, nm, nc, hworked⟩ : ∃ nb nm nc,
      ScanWorked s (m.completeScan x.dir).settle x (m.completedAt x.dir i).meas nb nm nc := by
    rw [← hmeas] at hworked
    rw [← hm] at hworked ⊢
    exact ⟨_, _, _, hworked⟩
  have hnumber : (m.completedAt x.dir i).number = some (s.ring.newest + 1) := by rw [← hm]; rfl
  have hspeed : (m.completedAt x.dir i).speed = s.speed.speed := by rw [← hm]; rfl
  have hquality : (m.completedAt x.dir i).quality.provisional = decide (s.brk.state = .recovering) := by
    have e : (m.completedAt x.dir i).quality.provisional
        = ((s.ring.at i).quality.provisional || decide (s.brk.state = .recovering)) := by rw [← hm]; rfl
    rw [e, Ring.at_of_getElem? hold, hclean]; rfl
  generalize hr : ({ (m.completedAt x.dir i) with holds := holds } : ScanRecord) = r at hat
  have hrmeas : r.meas = (m.completedAt x.dir i).meas := by rw [← hr]
  have hrnumber : r.number = some (s.ring.newest + 1) := by rw [← hr]; exact hnumber
  have hrspeed : r.speed = s.speed.speed := by rw [← hr]; exact hspeed
  have hrquality : r.quality.provisional = decide (s.brk.state = .recovering) := by rw [← hr]; exact hquality
  have hbefore : KindKept .limit s (m.beforeLimits x.dir) :=
    KindKept.trans (.of_ports hports) (beforeLimits_kindKept hfillm)
  obtain ⟨hafter, hlimits⟩ := afterLimits_kept (dir := x.dir) hpendm
  have hvlimits : (m.beforeLimits x.dir).limits = s.limits := by rw [beforeLimits_limits, ← hm]; rfl
  have hvstore : (m.beforeLimits x.dir).store = s.store := by rw [beforeLimits_store, ← hm]; rfl
  generalize m.beforeLimits x.dir = v at hnewest hat hbefore hafter hlimits hvlimits hvstore
  have hvrecipe : v.recipe = s.recipe := recipe_congr hvstore
  have hev : v.completeLimits = v.evaluateLimits r := by rw [State.completeLimits, hnewest, ← hat]
  rw [hev] at hafter hlimits
  refine ⟨_, (m.completedAt x.dir i).meas, nb, nm, nc, hexec, hworked, fun hskip => ?skip, fun hb hmin => ?evaluated⟩
  case skip =>
    have hv : v.evaluateLimits r = v := evaluateLimits_of_skip (by rw [hrquality, hrspeed, hvstore]; simpa using hskip)
    rw [hv] at hafter hlimits
    exact ⟨hlimits.trans hvlimits, (hbefore.trans hafter).unheard⟩
  case evaluated =>
    have hgood : r.quality.provisional = false := by rw [hrquality]; exact decide_eq_false hb
    have hfast : v.store.machine.minRunSpeed ≤ r.speed := by rw [hvstore, hrspeed]; exact hmin
    rw [evaluateLimits_limits hgood hfast] at hlimits
    obtain ⟨hsome, hnone⟩ := evaluateLimits_of_judged hgood hfast
    rw [← hrmeas]
    simp only [State.limitsUnder, hvrecipe, hvlimits] at hlimits hsome hnone
    refine limitsEvaluated hlen htab rfl hlimits (fun j hj => ?_) (fun hj => ?_)
    · have hnotice := hsome j hj
      rw [hrnumber] at hnotice
      rw [hnotice] at hafter
      refine KindKept.notified (n := .limit _ _ _ _) hafter fun st ht => ?_
      exact bears_offer (s := v.setLimits _) (hbefore.takes ht)
    · rw [hnone hj] at hafter
      have hset : KindKept .limit v (v.setLimits ⟨evaluateStates s.recipe.limits r s.limits.states,
        limitRelayNow s.recipe.limits (evaluateStates s.recipe.limits r s.limits.states)⟩) := .of_ports rfl
      exact ((hbefore.trans hset).trans hafter).unheard

end Sys2Proof.Safety
end
